-- ==== Sys2Proof/Word.lean ====
section
/-!
DEFINITION. Octets, encoder positions and the numbered things of the part (kilns, ports, bays).
An octet is eight bits (00_scope.md, "Names in the text"); an encoder position is a value of the 32-bit counter.
-/
namespace Sys2Proof

/-- Eight bits. -/
abbrev Octet := BitVec 8

/-- A value of the 32-bit encoder counter; position arithmetic is modulo 2^32. -/
abbrev Position := BitVec 32

/-- Kiln n of 1..6 is index n - 1. -/
abbrev KilnNo := Fin 6

/-- Field port n of 1..8 is index n - 1: ports 1 to 6 serve kilns, 7 the meter, 8 the label applicator. -/
abbrev PortNo := Fin 8

/-- Bay n of 1..4 is index n - 1. -/
abbrev BayNo := Fin 4

/-- The sum of octets modulo 256, as the check octets of R82 and R182 use it. -/
def octetSum (octets : List Octet) : Octet := octets.foldr (· + ·) 0

/-- The octet that makes the sum of `octets` and itself equal to `total`. -/
def checkOctet (total : Octet) (octets : List Octet) : Octet := total - octetSum octets

end Sys2Proof
end

