-- ==== Sys2Proof/Config.lean ====
section
/-!
DEFINITION. Capacities and constants of the part, and the one constant the spec leaves to the implementation.
-/
namespace Sys2Proof.Config

/-- 12 species entries (R21). -/
def speciesCapacity : Nat := 12

/-- 16 charge records (R37). -/
def chargeCapacity : Nat := 16

/-- 48 assignment entries (R104). -/
def assignmentCapacity : Nat := 48

/-- 96 presence entries (R106). -/
def presenceCapacity : Nat := 96

/-- 32 piece records (R128). -/
def queueCapacity : Nat := 32

/-- The queue length at which QUEUE_HIGH is added (R129, R137). -/
def queueHigh : Nat := 28

/-- 8 closed pack records (R152). -/
def packCapacity : Nat := 8

/-- Four contributor charges in a pack (R144). -/
def contributorCapacity : Nat := 4

/-- The top value of a counter (00_scope.md, "Counters"). -/
def counterTop : Nat := 4294967295

/-- Octets of content in one segment of a reply (R189). -/
def segmentLength : Nat := 235

/-- The most payload octets of a host frame (R182). -/
def maxPayload : Nat := 240

/-- The most data octets of a station frame (R82). -/
def maxStationData : Nat := 60

/-- The revision number of the part, 1..255, less one (R192). The spec gives no value; nothing in the
model can evaluate this constant. DESIGN CHOICE, safe: log entry 25. -/
opaque revisionLessOne : Fin 255

/-- The revision number of the part, 1..255 (R192). -/
def revision : Nat := revisionLessOne.val + 1

end Sys2Proof.Config
end

