-- ==== Sys2Proof/Syntax.lean ====
section
/-!
DEFINITION. The commands of the part: one constructor of `Instr` for each row of spec/opcode_table.json.
A request command carries the fields of its request frame as they come (R197, R198), so a value out of range
reaches the owner's checks. An event command names the kiln or port it happens at.
-/
namespace Sys2Proof

/-- A change of the quadrature encoder (R123). DESIGN CHOICE, safe: the spec does not say which channel leads when
the line runs forward, so the operand is the direction (log entry 15). -/
inductive EncoderMove where
  | forward
  | reverse
  /-- Both channels change at once: no direction, not counted. -/
  | both
deriving DecidableEq, Repr

/-- The two link rate straps at the end of a reset (R181); `true` is high. -/
structure Straps where
  lrate1 : Bool
  lrate0 : Bool
deriving DecidableEq, Repr

/-- What RESETN does: a pulse is the whole reset as one step; `low` begins a reset that lasts, `high` ends it.
DESIGN CHOICE, safe: log entry 8. -/
inductive ResetEdge where
  | pulse
  | low
  | high
deriving DecidableEq, Repr

/-- The seven fields of one schedule step as a WRITE-SCHEDULE carries them (R29). -/
structure StepFields where
  target : Int
  depression : Nat
  ramp : Nat
  rule : Nat
  threshold : Nat
  maximum : Nat
  action : Nat
deriving DecidableEq, Repr

/-- Status codes (R191, R196), in the order of their codes 0x00 to 0x09. -/
inductive Status where
  | ok
  | unknownKind
  | badLength
  | outOfRange
  | notFound
  | wrongState
  | inUse
  | full
  | mismatch
  | busy
deriving DecidableEq, Repr

/-- The commands. Each constructor's comment gives the row of spec/opcode_table.json and its rule. -/
inductive Instr where
  /-- IDENTIFY (R192) -/
  | identify
  /-- READ_COUNTERS (R193): subject and choice -/
  | readCounters (subject choice : Nat)
  /-- RESTART (R194) -/
  | restart
  /-- CONTINUE (R190) -/
  | continueReply
  /-- WRITE_SPECIES (R24): code, kT, pack limit and the eight (L, M) breakpoints -/
  | writeSpecies (code kT packLimit : Nat) (curve : List (Nat × Nat))
  /-- DELETE_SPECIES (R26) -/
  | deleteSpecies (code : Nat)
  /-- READ_SPECIES (R27) -/
  | readSpecies (code : Nat)
  /-- WRITE_SCHEDULE (R31): id, declared step count and the steps -/
  | writeSchedule (id count : Nat) (steps : List StepFields)
  /-- DELETE_SCHEDULE (R32) -/
  | deleteSchedule (id : Nat)
  /-- READ_SCHEDULE (R32) -/
  | readSchedule (id : Nat)
  /-- LIST_TABLES (R35) -/
  | listTables
  /-- SET_INFEED (R44): charge number, 0 for none -/
  | setInfeed (number : Nat)
  /-- CLOSE_CHARGE (R50) -/
  | closeCharge (number : Nat)
  /-- READ_CHARGE (R51) -/
  | readCharge (number : Nat)
  /-- LIST_CHARGES (R52) -/
  | listCharges
  /-- LOAD (R62): kiln, species code, schedule id -/
  | load (kiln species schedule : Nat)
  /-- START (R63) -/
  | start (kiln : Nat)
  /-- HOLD (R60) -/
  | hold (kiln : Nat)
  /-- RELEASE (R61): kiln and reason, 0 HOST, 1 OVERTIME -/
  | release (kiln reason : Nat)
  /-- SKIP (R71) -/
  | skip (kiln : Nat)
  /-- UNLOAD (R73) -/
  | unload (kiln : Nat)
  /-- RESUME (R78) -/
  | resume (kiln : Nat)
  /-- ABANDON (R79) -/
  | abandon (kiln : Nat)
  /-- KILN_CONFIG (R56): the nine settings in the order of R56 -/
  | kilnConfig (kiln sweepInterval controllerInterval wetCount minimumProbes learning learnRole lossLimit
      jumpLimit smoothingShift : Nat)
  /-- READ_KILN (R80) -/
  | readKiln (kiln : Nat)
  /-- ENABLE_PORT (R88): the four settings in the order of R87 -/
  | enablePort (port replyWindow failureLimit autoReestablish autoretry : Nat)
  /-- DISABLE_PORT (R89) -/
  | disablePort (port : Nat)
  /-- READ_PORT (R102) -/
  | readPort (port : Nat)
  /-- ASSIGN_PROBE (R105) -/
  | assignProbe (serial kiln role tag : Nat)
  /-- UNASSIGN_PROBE (R105) -/
  | unassignProbe (serial : Nat)
  /-- LIST_ASSIGNMENTS (R105) -/
  | listAssignments
  /-- SWEEP_NOW (R109): kiln and full-scan choice, 0 no, 1 yes -/
  | sweepNow (kiln choice : Nat)
  /-- READ_PROBES (R120) -/
  | readProbes (kiln : Nat)
  /-- FORGET_PROBE (R121) -/
  | forgetProbe (serial : Nat)
  /-- LINE_CONFIG (R124): the six settings in the order of R124 -/
  | lineConfig (countsPerMetre divertDistance stackDistance shortLimit polarity glitchFilter : Nat)
  /-- LINE_CLEAR (R138) -/
  | lineClear
  /-- READ_LINE (R140) -/
  | readLine
  /-- BAY_CONFIG (R142): bay and the five settings in the order of R142 -/
  | bayConfig (bay enabled minimum maximum nominal target : Nat)
  /-- CLOSE_PACK (R149) -/
  | closePack (bay : Nat)
  /-- REPRINT (R159) -/
  | reprint (serial : Nat)
  /-- VOID_LABEL (R159) -/
  | voidLabel (serial : Nat)
  /-- READ_PACK (R160) -/
  | readPack (serial : Nat)
  /-- LIST_PACKS (R160) -/
  | listPacks
  /-- COLLECT_PACK (R160) -/
  | collectPack (serial : Nat)
  /-- READ_BAY (R160) -/
  | readBay (bay : Nat)
  /-- LABEL_CONFIG (R155): label timeout in seconds -/
  | labelConfig (timeout : Nat)
  /-- SET_CLOCK (R165) -/
  | setClock (year month day hour minute second : Nat)
  /-- READ_CLOCK (R166) -/
  | readClock
  /-- READ_RETAINED (R169) -/
  | readRetained
  /-- TAKE_NOTICE (R178) -/
  | takeNotice
  /-- PEEK_NOTICES (R179) -/
  | peekNotices
  /-- SET_MASKS (R175): one choice per maskable class in priority order, 0 unmasked, 1 masked -/
  | setMasks (choices : List Nat)
  /-- LINK_OCTET_RECEIVED (R183) -/
  | linkOctetReceived (octet : Octet) (framingError : Bool)
  /-- LINK_SILENCE_EXPIRY (R183) -/
  | linkSilenceExpiry
  /-- REPLY_SENT (R185); the straps are those read at the end of the reset that a RESTART's reply brings (R194) -/
  | replySent (straps : Straps)
  /-- BUSY_REPLY_SENT (R186) -/
  | busyReplySent
  /-- POWER_ON (R171) -/
  | powerOn (straps : Straps)
  /-- RESET_PIN (R172) -/
  | resetPin (edge : ResetEdge) (straps : Straps)
  /-- POWER_FAIL (R170) -/
  | powerFail
  /-- KEEP_LEVEL_LOSS (R167) -/
  | keepLevelLoss
  /-- MINUTE_EVENT (R64) -/
  | minuteEvent (kiln : KilnNo)
  /-- CLOCK_SECOND (R164) -/
  | clockSecond
  /-- FIELD_REQUEST_SENT (R84) -/
  | fieldRequestSent (port : PortNo)
  /-- REPLY_WINDOW_EXPIRY (R84) -/
  | replyWindowExpiry (port : PortNo)
  /-- FIELD_OCTET_RECEIVED (R85); the error is a parity or stop-bit error -/
  | fieldOctetReceived (port : PortNo) (octet : Octet) (error : Bool)
  /-- FIELD_OCTET_SILENCE (R85) -/
  | fieldOctetSilence (port : PortNo)
  /-- FIELD_SILENT_WAIT_EXPIRY (R81) -/
  | fieldSilentWaitExpiry (port : PortNo)
  /-- LINE_FAULT (R95) -/
  | lineFault (port : PortNo)
  /-- WAKE_PULSE_END (R90) -/
  | wakePulseEnd (port : PortNo)
  /-- WAKE_WAIT_EXPIRY (R90) -/
  | wakeWaitExpiry (port : PortNo)
  /-- ATTEMPT_GAP_EXPIRY (R90) -/
  | attemptGapExpiry (port : PortNo)
  /-- AUTORETRY_EXPIRY (R96) -/
  | autoretryExpiry (port : PortNo)
  /-- REESTABLISH_EXPIRY (R91) -/
  | reestablishExpiry (port : PortNo)
  /-- CONTROLLER_INTERVAL_EXPIRY (R98) -/
  | controllerIntervalExpiry (kiln : KilnNo)
  /-- IDLE_WAIT_EXPIRY (R100, R101) -/
  | idleWaitExpiry (port : PortNo)
  /-- CONTROLLER_LOST (R74) -/
  | controllerLost (kiln : KilnNo)
  /-- KILN_PORT_UP (R75) -/
  | kilnPortUp (kiln : KilnNo)
  /-- PROBE_PORT_UP (R108) -/
  | probePortUp (kiln : KilnNo)
  /-- PROBE_PORT_LEFT_UP (R118) -/
  | probePortLeftUp (kiln : KilnNo)
  /-- SWEEP_INTERVAL_EXPIRY (R108) -/
  | sweepIntervalExpiry (kiln : KilnNo)
  /-- ENCODER_STEP (R123) -/
  | encoderStep (move : EncoderMove)
  /-- EYE_CHANGE (R125): the new level of the EYE pin, `true` high -/
  | eyeChange (level : Bool)
  /-- EYE_FILTER_EXPIRY (R125) -/
  | eyeFilterExpiry
  /-- METER_PORT_LEFT_UP (R131) -/
  | meterPortLeftUp
  /-- DIVERT_PULSE_EXPIRY (R135) -/
  | divertPulseExpiry
  /-- LABEL_PAUSE_EXPIRY (R156) -/
  | labelPauseExpiry
  /-- LABEL_TIMEOUT_EXPIRY (R158) -/
  | labelTimeoutExpiry
  /-- LABEL_PORT_UP (R156) -/
  | labelPortUp
  /-- LABEL_PORT_LEFT_UP (R158) -/
  | labelPortLeftUp
deriving DecidableEq, Repr

end Sys2Proof
end

