-- ==== Sys2Proof/Machine/State.lean ====
section
/-!
DEFINITION. The state of the part: every table, record, queue, counter, wait and mark the spec gives its twelve blocks, as
plain data; and the state after reset. A wait is running or stopped (R163); where its length is configured, the length
it was started with stands with it (R56, R155). Log entry 5.
-/
namespace Sys2Proof.Machine

/-! ### Time and stamps -/

/-- A date and a time of day to the second (R164). -/
structure DateTime where
  year : Nat
  month : Nat
  day : Nat
  hour : Nat
  minute : Nat
  second : Nat
deriving DecidableEq, Repr

/-- A stamp: the clock's date and time, or the mark NO_TIME (R38, R164). -/
inductive Stamp where
  | noTime
  | taken (time : DateTime)
deriving DecidableEq, Repr

/-! ### Table store -/

/-- A species entry with its check value (R22, R23). `curve` is (L0, M0) to (L7, M7). -/
structure SpeciesEntry where
  code : Nat
  kT : Nat
  packLimit : Nat
  curve : List (Nat × Nat)
  checkValue : Nat
deriving DecidableEq, Repr

/-- What ends a step normally (R29, R33). -/
inductive AdvanceRule where
  | time
  | mcAtOrBelow
  | spreadAtOrBelow
  | dryBulbReached
deriving DecidableEq, Repr

/-- What overtime does (R29, R34). -/
inductive OvertimeAction where
  | advance
  | hold
deriving DecidableEq, Repr

/-- A step of a schedule (R29). -/
structure Step where
  target : Nat
  depression : Nat
  ramp : Nat
  rule : AdvanceRule
  threshold : Nat
  maximum : Nat
  action : OvertimeAction
deriving DecidableEq, Repr

/-- A schedule at its place (R28, R29, R30). -/
structure Schedule where
  steps : List Step
  checkValue : Nat
deriving DecidableEq, Repr

/-! ### Charge table -/

/-- A charge is in a kiln, staged, or the infeed charge (R38). -/
inductive ChargeState where
  | kiln
  | staged
  | infeed
deriving DecidableEq, Repr

/-- A controlling MC: absent, INVALID or an MC (R15, R55). -/
inductive ControllingMc where
  | absent
  | invalid
  | value (mc : Nat)
deriving DecidableEq, Repr

/-- A charge record (R38). -/
structure Charge where
  number : Nat
  state : ChargeState
  kiln : Option KilnNo
  species : Nat
  schedule : Nat
  complete : Bool
  abandoned : Bool
  recovered : Bool
  loadStamp : Stamp
  unloadStamp : Option Stamp
  finalMc : ControllingMc
  metered : Nat
  queued : Nat
  redry : Nat
  short : Nat
  noBay : Nat
  stacked : Nat
  cleared : Nat
  meterSum : Nat
  meterCount : Nat
  openPackRefs : Nat
deriving DecidableEq, Repr

/-! ### Kiln supervisor -/

/-- Kiln states (R55). -/
inductive KilnState where
  | empty
  | loaded
  | running
  | held
  | faultHold
  | complete
  | recovery
deriving DecidableEq, Repr

/-- The charge a kiln holds, with the check values of R55. -/
structure KilnCharge where
  number : Nat
  species : Nat
  speciesCheck : Nat
  schedule : Nat
  scheduleCheck : Nat
deriving DecidableEq, Repr

/-- A kiln's hold set (R55, R58). -/
structure HoldSet where
  host : Bool
  overtime : Bool
  door : Bool
  localControl : Bool
  alarm : Bool
deriving DecidableEq, Repr

/-- The controller status as last seen (R55, R59). -/
structure ControllerStatus where
  door : Bool
  localControl : Bool
  alarm : Bool
deriving DecidableEq, Repr

/-- Roles of a probe (R104, R106). -/
inductive ProbeRole where
  | control
  | monitor
  | excluded
deriving DecidableEq, Repr

/-- The nine settings of a kiln (R56). `learnMonitor` is the learn role MONITOR, else CONTROL. -/
structure KilnConfig where
  sweepInterval : Nat
  controllerInterval : Nat
  wetCount : Nat
  minimumProbes : Nat
  learning : Bool
  learnMonitor : Bool
  lossLimit : Nat
  jumpLimit : Nat
  smoothingShift : Nat
deriving DecidableEq, Repr

/-- A kiln record (R55). `charge` is present in every state but EMPTY. `minuteEvents` counts the minute events this
kiln has been delivered since the reset (the model's own, log entry 7). -/
structure KilnRecord where
  state : KilnState
  charge : Option KilnCharge
  stepIndex : Nat
  stepElapsed : Nat
  totalMinutes : Nat
  dryBulb : Nat
  depression : Nat
  holds : HoldSet
  overtimeDisarmed : Bool
  remembered : Option KilnState
  dryReadback : Int
  dryValid : Bool
  wetReadback : Int
  wetValid : Bool
  status : ControllerStatus
  controllingMc : ControllingMc
  spread : Option Nat
  driest : Option Nat
  config : KilnConfig
  minuteEvents : Nat
deriving DecidableEq, Repr

/-- A kiln snapshot while valid (R76, R167); `running` is the state RUNNING, else HELD. -/
structure Snapshot where
  charge : KilnCharge
  stepIndex : Nat
  stepElapsed : Nat
  totalMinutes : Nat
  running : Bool
  host : Bool
  overtime : Bool
  dryBulb : Nat
  depression : Nat
  overtimeDisarmed : Bool
deriving DecidableEq, Repr

/-! ### Field port controller -/

/-- Port states (R87). -/
inductive PortState where
  | off
  | establishing
  | up
  | lineFault
  | down
deriving DecidableEq, Repr

/-- Field port rates 230.4, 57.6 and 19.2 kbit/s (R81). -/
inductive FieldRate where
  | r230
  | r57
  | r19
deriving DecidableEq, Repr

/-- Station commands (R83, R199). -/
inductive StationCommand where
  | identify
  | probeRead
  | setpoint
  | meterSample
  | labelPrint
  | labelStatus
deriving DecidableEq, Repr

/-- How far an exchange is (R84, R85): the request is being sent, the reply window is open, or the reply is being
received (the octets so far, the lead among them). -/
inductive ExchangePhase where
  | sending
  | window
  | receiving (octets : List Octet)
deriving DecidableEq, Repr

/-- The exchange in flight: command, address, the octets of its request frame (R82), and its phase. -/
structure Exchange where
  command : StationCommand
  address : Nat
  request : List Octet
  phase : ExchangePhase
deriving DecidableEq, Repr

/-- The outcome of an exchange (R84, R85). -/
inductive ExchangeOutcome where
  | good
  | timeout
  | truncated
  | length
  | check
  | framing
  | address
deriving DecidableEq, Repr

/-- What a GOOD outcome hands on besides the address: the reply status octet and the data (R86). -/
structure StationReply where
  status : Octet
  data : List Octet
deriving DecidableEq, Repr

/-- The two commands of sweep exchanges (R99). -/
inductive ProbeCommand where
  | read
  | identify
deriving DecidableEq, Repr

/-- The wake pulse being driven and the wait of 3 octet times after it (R90). -/
inductive WakePhase where
  | none
  | pulse
  | wait
deriving DecidableEq, Repr

/-- A station-0 identity (R83, R87). -/
structure Identity where
  kind : Nat
  serial : Nat
  version : Nat
deriving DecidableEq, Repr

/-- The nine port counters (R103). -/
structure PortCounters where
  good : Nat
  timeout : Nat
  truncated : Nat
  length : Nat
  check : Nat
  framing : Nat
  address : Nat
  lineFaults : Nat
  establishments : Nat
deriving DecidableEq, Repr

/-- An exchange that port 7 or 8 holds waiting (R100, R101): command and data. -/
structure WaitingExchange where
  command : StationCommand
  data : List Octet
deriving DecidableEq, Repr

/-- A port record (R87) with the port's waits. `setpointDue` and `sweepQueue` are the waiting exchanges of a kiln
port (R98), `waiting` that of port 7 or 8. `tryRate` is the rate of the IDENTIFY that establishment is sending or last
sent (R81), `nextRate` that of the next IDENTIFY of its attempt (R90). `healthDue` is the model's own (log entry 18). -/
structure PortRecord where
  state : PortState
  rate : Option FieldRate
  replyWindow : Nat
  failureLimit : Nat
  autoReestablish : Bool
  autoretry : Bool
  identity : Option Identity
  failureCount : Nat
  lineFaultCount : Nat
  attempt : Option Nat
  exchange : Option Exchange
  setpointDue : Bool
  sweepQueue : List (Nat × ProbeCommand)
  waiting : Option WaitingExchange
  counters : PortCounters
  wake : WakePhase
  tryRate : FieldRate
  nextRate : FieldRate
  silentWait : Bool
  attemptGap : Bool
  autoretryWait : Bool
  reestablishWait : Bool
  controllerInterval : Option Nat
  idleWait : Bool
  healthDue : Bool
deriving DecidableEq, Repr

/-- A report made by the field port controller and not yet taken by its block (R92, R94); the model's own list of them
is log entry 6. -/
inductive Report where
  | controllerLost (kiln : KilnNo)
  | kilnPortUp (kiln : KilnNo)
  | probePortUp (kiln : KilnNo)
  | probePortLeftUp (kiln : KilnNo)
  | meterPortLeftUp
  | labelPortUp
  | labelPortLeftUp
deriving DecidableEq, Repr

/-! ### Probe unit -/

/-- An assignment entry (R104). -/
structure Assignment where
  serial : Nat
  kiln : KilnNo
  role : ProbeRole
  tag : Nat
deriving DecidableEq, Repr

/-- Presence entry states (R106). -/
inductive PresenceState where
  | active
  | lost
  | foreign
deriving DecidableEq, Repr

/-- Where a resolved role came from (R106). -/
inductive RoleSource where
  | assigned
  | learned
deriving DecidableEq, Repr

/-- Classes of a reading (R3, R8). -/
inductive ReadingClass where
  | usable
  | faulted
  | short
  | openLead
  | noCurve
deriving DecidableEq, Repr

/-- Flags of a reading (R8, R9). -/
structure ReadingFlags where
  uncorrected : Bool
  saturatedWet : Bool
  saturatedDry : Bool
  suspect : Bool
  reseeded : Bool
deriving DecidableEq, Repr

/-- A presence entry (R106); the port of kiln n is kiln n's. -/
structure PresenceEntry where
  serial : Nat
  port : KilnNo
  address : Nat
  state : PresenceState
  role : Option ProbeRole
  source : Option RoleSource
  missCount : Nat
  lastClass : Option ReadingClass
  lastL : Option Nat
  lastMc : Option Nat
  lastFlags : ReadingFlags
  smoothed : Option Nat
  suspectCount : Nat
deriving DecidableEq, Repr

/-- Sweep kinds (R107, R110). -/
inductive SweepKind where
  | regular
  | full
deriving DecidableEq, Repr

/-- Probe events (R119), in the order the rule names them. -/
inductive ProbeEvent where
  | new
  | lost
  | moved
  | swapped
  | tableFull
  | recovered
deriving DecidableEq, Repr

/-- A probe event set (R119). -/
structure ProbeEvents where
  new : Bool
  lost : Bool
  moved : Bool
  swapped : Bool
  tableFull : Bool
  recovered : Bool
deriving DecidableEq, Repr

/-- A sweep record (R107) with the kiln's probe event set (R119). `kind` is present exactly in SWEEPING. -/
structure SweepRecord where
  kind : Option SweepKind
  outstanding : List (Nat × ProbeCommand)
  discard : Option (Nat × ProbeCommand)
  fullScan : Bool
  cursor : Nat
  interval : Option Nat
  events : ProbeEvents
deriving DecidableEq, Repr

/-! ### Planer line tracker -/

/-- The line configuration (R124); `blockedLow` is the eye polarity BLOCKED_LOW, else BLOCKED_HIGH. -/
structure LineConfig where
  countsPerMetre : Option Nat
  divertDistance : Option Nat
  stackDistance : Option Nat
  shortLimit : Nat
  blockedLow : Bool
  glitchFilter : Nat
deriving DecidableEq, Repr

/-- The photo-eye capture (R125). -/
structure Capture where
  blocked : Bool
  boardInEye : Bool
  lastLead : Option Position
  lastTrail : Option Position
  owner : Option Nat
deriving DecidableEq, Repr

/-- Why a piece has no reading (R127). -/
inductive NoReading where
  | meterBusy
  | noReply
  | unusable
  | notSampled
deriving DecidableEq, Repr

/-- A piece's reading state with its reason or MC (R127). -/
inductive PieceReading where
  | pending
  | read (mc : Nat)
  | none (reason : NoReading)
deriving DecidableEq, Repr

/-- A piece's grade, DRY with its bay (R127). -/
inductive Grade where
  | pending
  | dry (bay : BayNo)
  | redry
  | short
  | untraced
  | noBay
deriving DecidableEq, Repr

/-- A piece record (R127); charge 0 is untraced. -/
structure Piece where
  sequence : Nat
  charge : Nat
  species : Option Nat
  lead : Position
  trail : Option Position
  length : Option Nat
  reading : PieceReading
  grade : Grade
  divertAt : Position
  stackAt : Position
deriving DecidableEq, Repr

/-- Line-stop causes (R137). -/
inductive StopCause where
  | overflow
  | queueHigh
  | jam
  | recordsFull
deriving DecidableEq, Repr

/-- A set of line-stop causes. -/
structure CauseSet where
  overflow : Bool
  queueHigh : Bool
  jam : Bool
  recordsFull : Bool
deriving DecidableEq, Repr

/-- The ten line counters (R139). -/
structure LineCounters where
  metered : Nat
  untraced : Nat
  meterBusy : Nat
  noReply : Nat
  short : Nat
  redry : Nat
  noBay : Nat
  jams : Nat
  overflows : Nat
  cleared : Nat
deriving DecidableEq, Repr

/-- The planer line tracker (R123 to R141). `eyeFilter` is the position of the input's change while the glitch filter
runs; `eyePin` is the level of the EYE pin; DIVERT is high exactly while `divertPulse` runs (R135). -/
structure Line where
  counter : Position
  config : LineConfig
  capture : Capture
  eyePin : Bool
  eyeFilter : Option Position
  queue : List Piece
  nextSequence : Nat
  sampleOwner : Option Nat
  causes : CauseSet
  counters : LineCounters
  divertPulse : Bool
deriving DecidableEq, Repr

/-! ### Pack builder and label unit -/

/-- A bay configuration (R142). -/
structure BayConfig where
  enabled : Bool
  minimum : Nat
  maximum : Nat
  nominal : Nat
  target : Nat
deriving DecidableEq, Repr

/-- Bay states (R143). -/
inductive BayState where
  | disabled
  | empty
  | opened
  | closing
  | waitRecord
  | labelling
  | labelFault
deriving DecidableEq, Repr

/-- A contributor of an open pack (R144). -/
structure Contributor where
  charge : Nat
  stacked : Nat
  reserved : Nat
deriving DecidableEq, Repr

/-- An open pack (R144). -/
structure OpenPack where
  species : Nat
  stacked : Nat
  reserved : Nat
  contributors : List Contributor
  mcSum : Nat
  mcMax : Option Nat
deriving DecidableEq, Repr

/-- A bay: its configuration, state and open pack (R142, R143). -/
structure Bay where
  config : Option BayConfig
  state : BayState
  openPack : Option OpenPack
deriving DecidableEq, Repr

/-- Label fault reasons (R152). -/
inductive LabelFaultReason where
  | mismatch
  | applicator
  | timeout
  | port
deriving DecidableEq, Repr

/-- Label states, FAULT with its reason (R152). -/
inductive LabelState where
  | queued
  | printing
  | confirmed
  | fault (reason : LabelFaultReason)
  | void
deriving DecidableEq, Repr

/-- A closed pack record (R152). `code` and `date` are the decimal digits of R151; contributors are charge number
and stacked count. -/
structure PackRecord where
  serial : Nat
  checkDigit : Nat
  code : List Nat
  bay : BayNo
  species : Nat
  nominal : Nat
  pieceCount : Nat
  meanMc : Nat
  printedMc : Nat
  mcMax : Nat
  date : List Nat
  contributors : List (Nat × Nat)
  label : LabelState
  scanBack : Option (List Octet)
deriving DecidableEq, Repr

/-- Phases of the current label job (R155). -/
inductive LabelPhase where
  | unstarted
  | print
  | poll
deriving DecidableEq, Repr

/-- The outstanding label exchange with its stale mark (R155). -/
structure LabelExchange where
  status : Bool
  stale : Bool
deriving DecidableEq, Repr

/-- The label unit (R155). -/
structure LabelUnit where
  jobs : List Nat
  phase : Option LabelPhase
  outstanding : Option LabelExchange
  pause : Bool
  timeout : Option Nat
  timeoutSetting : Nat
deriving DecidableEq, Repr

/-! ### Backup domain -/

/-- The backup domain: calendar clock and retained store (R164, R167). A snapshot is present exactly while valid. -/
structure Backup where
  clock : DateTime
  clockValid : Bool
  chargeCounter : Nat
  packCounter : Nat
  snapshots : Vector (Option Snapshot) 6
  domainValid : Bool
deriving DecidableEq, Repr

/-! ### Notice unit -/

/-- The eleven notice classes in priority order (R173). -/
inductive NoticeClass where
  | kilnFault
  | recovery
  | lineStop
  | labelFault
  | portDown
  | probeChange
  | kilnStep
  | chargeDried
  | packReady
  | moistureInvalid
  | clockInvalid
deriving DecidableEq, Repr

/-- The nine masks in priority order, `true` masked (R173, R175). -/
structure Masks where
  lineStop : Bool
  labelFault : Bool
  portDown : Bool
  probeChange : Bool
  kilnStep : Bool
  chargeDried : Bool
  packReady : Bool
  moistureInvalid : Bool
  clockInvalid : Bool
deriving DecidableEq, Repr

/-- The notice unit: subject sets, the overtime flags of KILN_STEP, the PACK_READY count and the masks (R173). -/
structure Notices where
  kilnFault : Vector Bool 6
  recovery : Vector Bool 6
  lineStop : CauseSet
  labelFault : Vector Bool 4
  portDown : Vector Bool 8
  probeChange : Vector Bool 6
  kilnStep : Vector Bool 6
  kilnStepOvertime : Vector Bool 6
  chargeDried : Vector Bool 6
  packReady : Nat
  moistureInvalid : Vector Bool 6
  clockInvalid : Bool
  masks : Masks
deriving DecidableEq, Repr

/-! ### Supervisory link -/

/-- Link rates (R181). -/
inductive LinkRate where
  | k57
  | k115
  | k230
  | k460
deriving DecidableEq, Repr

/-- The link receiver (R183); in RECEIVING with the octets of the frame so far, the lead among them. -/
inductive Receiver where
  | resync
  | hunt
  | receiving (octets : List Octet)
deriving DecidableEq, Repr

/-- The request in the input buffer (R185): its kind octet, the command (absent when the link itself refused it), and
whether its reply has been composed. -/
structure HeldRequest where
  kind : Octet
  request : Option Instr
  answered : Bool
deriving DecidableEq, Repr

/-- A frame composed and not yet sent (R187); a BUSY one takes the refusal slot (R186). -/
structure SendFrame where
  busy : Bool
  octets : List Octet
deriving DecidableEq, Repr

/-- The reply store (R190): the segments still to come and the number of the next one; none and 0 when empty. -/
structure ReplyStore where
  segments : List (List Octet)
  next : Nat
deriving DecidableEq, Repr

/-- The supervisory link (R181 to R195). -/
structure Link where
  rate : LinkRate
  receiver : Receiver
  silenceWait : Bool
  buffer : Option HeldRequest
  sending : List SendFrame
  store : ReplyStore
  discarded : Nat
deriving DecidableEq, Repr

/-! ### The whole part -/

/-- Main power present and out of reset, held in reset by RESETN, or main power off (R162, R170). -/
inductive Power where
  | on
  | held
  | off
deriving DecidableEq, Repr

/-- The state of the part. `pending` is the queue of waiting commands and `reports` the reports not yet taken, both the
model's own (log entries 1 and 6). -/
structure State where
  power : Power
  species : List SpeciesEntry
  schedules : Vector (Option Schedule) 8
  charges : List Charge
  kilns : Vector KilnRecord 6
  ports : Vector PortRecord 8
  reports : List Report
  assignments : List Assignment
  presence : List PresenceEntry
  sweeps : Vector SweepRecord 6
  line : Line
  bays : Vector Bay 4
  packs : List PackRecord
  label : LabelUnit
  minuteCount : Nat
  backup : Backup
  notices : Notices
  link : Link
  pending : List Instr
deriving DecidableEq, Repr

/-- Why the part stops: it has no such reason. Every request is answered, every exchange has an outcome, and each
trouble the spec describes is a next state (log entry 36). -/
inductive Fault where
deriving DecidableEq, Repr

/-- Why the model gives no meaning to a command. -/
inductive Refusal where
  /-- Raised by `exec` for a command whose meaning is not written; no command is in that case. Safe. -/
  | notModelled (mnemonic : String)
deriving DecidableEq, Repr

/-! ### Values after reset -/

/-- The empty hold set. -/
def HoldSet.empty : HoldSet :=
  { host := false, overtime := false, door := false, localControl := false, alarm := false }

/-- The default configuration (R56). -/
def KilnConfig.default : KilnConfig :=
  { sweepInterval := 10, controllerInterval := 10, wetCount := 3, minimumProbes := 2, learning := true,
    learnMonitor := false, lossLimit := 4, jumpLimit := 400, smoothingShift := 2 }

/-- A kiln record after a reset that does not bring the kiln into RECOVERY (R55). The readbacks are marked not valid;
that they hold 0 is a DESIGN CHOICE, unsafe: log entry 11. -/
def KilnRecord.initial : KilnRecord :=
  { state := .empty, charge := none, stepIndex := 0, stepElapsed := 0, totalMinutes := 0, dryBulb := 0,
    depression := 0, holds := .empty, overtimeDisarmed := false, remembered := none, dryReadback := 0,
    dryValid := false, wetReadback := 0, wetValid := false,
    status := { door := false, localControl := false, alarm := false }, controllingMc := .absent, spread := none,
    driest := none, config := .default, minuteEvents := 0 }

/-- All nine port counters 0 (R103). -/
def PortCounters.zero : PortCounters :=
  { good := 0, timeout := 0, truncated := 0, length := 0, check := 0, framing := 0, address := 0, lineFaults := 0,
    establishments := 0 }

/-- A port record after any reset, with its reply window (R87). -/
def PortRecord.initial (replyWindow : Nat) : PortRecord :=
  { state := .off, rate := none, replyWindow := replyWindow, failureLimit := 3, autoReestablish := false,
    autoretry := false, identity := none, failureCount := 0, lineFaultCount := 0, attempt := none, exchange := none,
    setpointDue := false, sweepQueue := [], waiting := none, counters := .zero, wake := .none, tryRate := .r230,
    nextRate := .r230, silentWait := false, attemptGap := false, autoretryWait := false, reestablishWait := false,
    controllerInterval := none, idleWait := false, healthDue := false }

/-- The empty probe event set. -/
def ProbeEvents.empty : ProbeEvents :=
  { new := false, lost := false, moved := false, swapped := false, tableFull := false, recovered := false }

/-- A sweep record after any reset (R107). -/
def SweepRecord.initial : SweepRecord :=
  { kind := none, outstanding := [], discard := none, fullScan := true, cursor := 1, interval := none,
    events := .empty }

/-- The empty cause set. -/
def CauseSet.empty : CauseSet := { overflow := false, queueHigh := false, jam := false, recordsFull := false }

/-- All ten line counters 0 (R139). -/
def LineCounters.zero : LineCounters :=
  { metered := 0, untraced := 0, meterBusy := 0, noReply := 0, short := 0, redry := 0, noBay := 0, jams := 0,
    overflows := 0, cleared := 0 }

/-- The planer line tracker after any reset (R141), the EYE pin at the given level. -/
def Line.initial (eyePin : Bool) : Line :=
  { counter := 0,
    config := { countsPerMetre := none, divertDistance := none, stackDistance := none, shortLimit := 1800,
                blockedLow := false, glitchFilter := 5 },
    capture := { blocked := false, boardInEye := false, lastLead := none, lastTrail := none, owner := none },
    eyePin := eyePin, eyeFilter := none, queue := [], nextSequence := 0, sampleOwner := none, causes := .empty,
    counters := .zero, divertPulse := false }

/-- A bay after any reset (R143, R161). -/
def Bay.initial : Bay := { config := none, state := .disabled, openPack := none }

/-- The label unit after any reset (R155, R161). -/
def LabelUnit.initial : LabelUnit :=
  { jobs := [], phase := none, outstanding := none, pause := false, timeout := none, timeoutSetting := 20 }

/-- The calendar clock's date after the clearing of R171. -/
def DateTime.epoch : DateTime := { year := 2000, month := 1, day := 1, hour := 0, minute := 0, second := 0 }

/-- The backup domain after the clearing of R171. -/
def Backup.cleared : Backup :=
  { clock := .epoch, clockValid := false, chargeCounter := 0, packCounter := 0,
    snapshots := Vector.replicate 6 none, domainValid := true }

/-- The notice unit after any reset, before its postings (R180). -/
def Notices.initial : Notices :=
  { kilnFault := Vector.replicate 6 false, recovery := Vector.replicate 6 false, lineStop := .empty,
    labelFault := Vector.replicate 4 false, portDown := Vector.replicate 8 false,
    probeChange := Vector.replicate 6 false, kilnStep := Vector.replicate 6 false,
    kilnStepOvertime := Vector.replicate 6 false, chargeDried := Vector.replicate 6 false, packReady := 0,
    moistureInvalid := Vector.replicate 6 false, clockInvalid := false,
    masks := { lineStop := true, labelFault := true, portDown := true, probeChange := true, kilnStep := true,
               chargeDried := true, packReady := true, moistureInvalid := true, clockInvalid := true } }

/-- The link rate that the straps give (R181). -/
def LinkRate.ofStraps : Straps → LinkRate
  | { lrate1 := false, lrate0 := false } => .k57
  | { lrate1 := false, lrate0 := true } => .k115
  | { lrate1 := true, lrate0 := false } => .k230
  | { lrate1 := true, lrate0 := true } => .k460

/-- The link after any reset (R195). -/
def Link.initial (rate : LinkRate) : Link :=
  { rate := rate, receiver := .resync, silenceWait := true, buffer := none, sending := [],
    store := { segments := [], next := 0 }, discarded := 0 }

/-- Every volatile block at its value after any reset, over the given backup domain, EYE level, link rate and queue of
commands, no snapshot recovered yet (R172). -/
def State.volatileReset (backup : Backup) (eyePin : Bool) (rate : LinkRate) (pending : List Instr) : State :=
  { power := .on, species := [], schedules := Vector.replicate 8 none, charges := [],
    kilns := Vector.replicate 6 .initial,
    ports := #v[.initial 20, .initial 20, .initial 20, .initial 20, .initial 20, .initial 20, .initial 10, .initial 10],
    reports := [], assignments := [], presence := [], sweeps := Vector.replicate 6 .initial,
    line := .initial eyePin, bays := Vector.replicate 4 .initial, packs := [], label := .initial, minuteCount := 0,
    backup := backup, notices := .initial, link := .initial rate, pending := pending }

/-- The part after the power-on that found the domain-valid mark clear (R171): the backup domain cleared, "clock" posted
to CLOCK_INVALID, every volatile block at its reset value. DESIGN CHOICE, unsafe: that the first reset is this one
(log entry 3), the straps both low (log entry 12), the EYE pin low (log entry 13). -/
def State.reset : State :=
  { State.volatileReset .cleared false .k57 [] with
    notices := { Notices.initial with clockInvalid := true } }

end Sys2Proof.Machine
end

