-- ==== Sys2Proof/Machine/Ops.lean ====
section
/-!
DEFINITION. The named operations over the state that the blocks share: keyed tables, access to the numbered records, counters,
stamps, notices posted, snapshots, and the reports of the field port controller.
-/
namespace Sys2Proof.Machine

/-! ### Keyed tables (00_scope.md, "Collections")

A table is a list sorted strictly by key: one canonical form for each content (log entry 27). -/

/-- The entry with the key. -/
def findBy {α : Type} (key : α → Nat) (k : Nat) (table : List α) : Option α := table.find? fun x => key x == k

/-- The table with the entry stored under its key, replacing any entry there. -/
def insertBy {α : Type} (key : α → Nat) (x : α) : List α → List α
  | [] => [x]
  | y :: ys =>
    if key x < key y then x :: y :: ys else if key x = key y then x :: ys else y :: insertBy key x ys

/-- The table without the entry of that key. -/
def eraseBy {α : Type} (key : α → Nat) (k : Nat) (table : List α) : List α := table.filter fun x => key x != k

/-- The table with the entry of that key changed by `f`, which keeps the key. -/
def updateBy {α : Type} (key : α → Nat) (k : Nat) (f : α → α) (table : List α) : List α :=
  table.map fun x => if key x = k then f x else x

/-- The canonical form: keys strictly rising. -/
def sortedBy {α : Type} (key : α → Nat) : List α → Bool
  | [] => true
  | [_] => true
  | x :: y :: rest => decide (key x < key y) && sortedBy key (y :: rest)

/-! ### Lists in order of arrival -/

/-- The last element that a test picks. -/
def findLast {α : Type} (q : α → Bool) (list : List α) : Option α := list.reverse.find? q

/-- The list with the last element that a test picks changed. -/
def updateLast {α : Type} (q : α → Bool) (f : α → α) : List α → List α
  | [] => []
  | x :: rest => if rest.any q then x :: updateLast q f rest else (if q x then f x else x) :: rest

/-- A counter raised by one: it stops at 4 294 967 295 (00_scope.md, "Counters"). -/
def bump (n : Nat) : Nat := if n < Config.counterTop then n + 1 else n

/-! ### The numbered records -/

/-- The record of kiln k. -/
def State.kiln (s : State) (k : KilnNo) : KilnRecord := s.kilns.get k

/-- The record of kiln k replaced. -/
def State.setKiln (s : State) (k : KilnNo) (r : KilnRecord) : State := { s with kilns := s.kilns.set k.val r k.isLt }

/-- The record of kiln k changed. -/
def State.modifyKiln (s : State) (k : KilnNo) (f : KilnRecord → KilnRecord) : State := s.setKiln k (f (s.kiln k))

/-- The record of port p. -/
def State.port (s : State) (p : PortNo) : PortRecord := s.ports.get p

/-- The record of port p replaced. -/
def State.setPort (s : State) (p : PortNo) (r : PortRecord) : State := { s with ports := s.ports.set p.val r p.isLt }

/-- The record of port p changed. -/
def State.modifyPort (s : State) (p : PortNo) (f : PortRecord → PortRecord) : State := s.setPort p (f (s.port p))

/-- The sweep record of kiln k. -/
def State.sweep (s : State) (k : KilnNo) : SweepRecord := s.sweeps.get k

/-- The sweep record of kiln k replaced. -/
def State.setSweep (s : State) (k : KilnNo) (r : SweepRecord) : State :=
  { s with sweeps := s.sweeps.set k.val r k.isLt }

/-- The sweep record of kiln k changed. -/
def State.modifySweep (s : State) (k : KilnNo) (f : SweepRecord → SweepRecord) : State :=
  s.setSweep k (f (s.sweep k))

/-- Bay b. -/
def State.bay (s : State) (b : BayNo) : Bay := s.bays.get b

/-- Bay b replaced. -/
def State.setBay (s : State) (b : BayNo) (r : Bay) : State := { s with bays := s.bays.set b.val r b.isLt }

/-- Bay b changed. -/
def State.modifyBay (s : State) (b : BayNo) (f : Bay → Bay) : State := s.setBay b (f (s.bay b))

/-- Kiln k's snapshot while valid. -/
def State.snapshot (s : State) (k : KilnNo) : Option Snapshot := s.backup.snapshots.get k

/-- Kiln k's snapshot replaced whole, or marked invalid (R168). -/
def State.setSnapshot (s : State) (k : KilnNo) (x : Option Snapshot) : State :=
  { s with backup := { s.backup with snapshots := s.backup.snapshots.set k.val x k.isLt } }

/-- The planer line changed. -/
def State.modifyLine (s : State) (f : Line → Line) : State := { s with line := f s.line }

/-- The label unit changed. -/
def State.modifyLabel (s : State) (f : LabelUnit → LabelUnit) : State := { s with label := f s.label }

/-- The notice unit changed. -/
def State.modifyNotices (s : State) (f : Notices → Notices) : State := { s with notices := f s.notices }

/-- The link changed. -/
def State.modifyLink (s : State) (f : Link → Link) : State := { s with link := f s.link }

/-- Kiln n's port is port n (00_scope.md, "Numbering"). -/
def kilnPort (k : KilnNo) : PortNo := ⟨k.val, by omega⟩

/-- The kiln of a kiln port; ports 7 and 8 have none. -/
def portKiln (p : PortNo) : Option KilnNo := if h : p.val < 6 then some ⟨p.val, h⟩ else none

/-- Port 7, the infeed meter's. -/
def meterPort : PortNo := 6

/-- Port 8, the label applicator's. -/
def labelPort : PortNo := 7

/-- The species entry of a code, when present (R21). -/
def State.speciesEntry (s : State) (code : Nat) : Option SpeciesEntry := findBy SpeciesEntry.code code s.species

/-- The index of a number in 1..n; none outside that range. -/
def numbered (n id : Nat) : Option (Fin n) :=
  match id with
  | 0 => none
  | i + 1 => if h : i < n then some ⟨i, h⟩ else none

/-- The schedule at an id in 1..8, when present (R28). -/
def State.schedule (s : State) (id : Nat) : Option Schedule :=
  match numbered 8 id with
  | some i => s.schedules.get i
  | none => none

/-- The charge record of a number, when present (R37). -/
def State.charge (s : State) (number : Nat) : Option Charge := findBy Charge.number number s.charges

/-- The charge record of a number changed. -/
def State.modifyCharge (s : State) (number : Nat) (f : Charge → Charge) : State :=
  { s with charges := updateBy Charge.number number f s.charges }

/-- The infeed charge (R44). -/
def State.infeed (s : State) : Option Charge := s.charges.find? fun c => c.state == .infeed

/-- A stamp taken now (R164). -/
def State.stamp (s : State) : Stamp := if s.backup.clockValid then .taken s.backup.clock else .noTime

/-! ### Sets -/

/-- The hold set has no member. -/
def HoldSet.isEmpty (h : HoldSet) : Bool := !(h.host || h.overtime || h.door || h.localControl || h.alarm)

/-- The event set has no member. -/
def ProbeEvents.isEmpty (e : ProbeEvents) : Bool :=
  !(e.new || e.lost || e.moved || e.swapped || e.tableFull || e.recovered)

/-- The event set with a member added. -/
def ProbeEvents.add (e : ProbeEvents) : ProbeEvent → ProbeEvents
  | .new => { e with new := true }
  | .lost => { e with lost := true }
  | .moved => { e with moved := true }
  | .swapped => { e with swapped := true }
  | .tableFull => { e with tableFull := true }
  | .recovered => { e with recovered := true }

/-- The cause set has no member. -/
def CauseSet.isEmpty (c : CauseSet) : Bool := !(c.overflow || c.queueHigh || c.jam || c.recordsFull)

/-- Whether the cause set holds a cause. -/
def CauseSet.has (c : CauseSet) : StopCause → Bool
  | .overflow => c.overflow
  | .queueHigh => c.queueHigh
  | .jam => c.jam
  | .recordsFull => c.recordsFull

/-- The cause set with a cause put in or taken out. -/
def CauseSet.put (c : CauseSet) (cause : StopCause) (present : Bool) : CauseSet :=
  match cause with
  | .overflow => { c with overflow := present }
  | .queueHigh => { c with queueHigh := present }
  | .jam => { c with jam := present }
  | .recordsFull => { c with recordsFull := present }

/-! ### Posting (R174) -/

/-- A kiln to KILN_FAULT. -/
def State.postKilnFault (s : State) (k : KilnNo) : State :=
  s.modifyNotices fun n => { n with kilnFault := n.kilnFault.set k.val true k.isLt }

/-- A kiln to RECOVERY. -/
def State.postRecovery (s : State) (k : KilnNo) : State :=
  s.modifyNotices fun n => { n with recovery := n.recovery.set k.val true k.isLt }

/-- A cause to LINE_STOP. -/
def State.postLineStop (s : State) (cause : StopCause) : State :=
  s.modifyNotices fun n => { n with lineStop := n.lineStop.put cause true }

/-- A bay to LABEL_FAULT. -/
def State.postLabelFault (s : State) (b : BayNo) : State :=
  s.modifyNotices fun n => { n with labelFault := n.labelFault.set b.val true b.isLt }

/-- A port to PORT_DOWN. -/
def State.postPortDown (s : State) (p : PortNo) : State :=
  s.modifyNotices fun n => { n with portDown := n.portDown.set p.val true p.isLt }

/-- A kiln to PROBE_CHANGE. -/
def State.postProbeChange (s : State) (k : KilnNo) : State :=
  s.modifyNotices fun n => { n with probeChange := n.probeChange.set k.val true k.isLt }

/-- A kiln to KILN_STEP; the kiln's overtime flag is set with the indication and kept without it. -/
def State.postKilnStep (s : State) (k : KilnNo) (overtime : Bool) : State :=
  s.modifyNotices fun n =>
    { n with
      kilnStep := n.kilnStep.set k.val true k.isLt
      kilnStepOvertime := n.kilnStepOvertime.set k.val (overtime || n.kilnStepOvertime.get k) k.isLt }

/-- A kiln to CHARGE_DRIED. -/
def State.postChargeDried (s : State) (k : KilnNo) : State :=
  s.modifyNotices fun n => { n with chargeDried := n.chargeDried.set k.val true k.isLt }

/-- One more to PACK_READY, which stops at 65535. -/
def State.postPackReady (s : State) : State :=
  s.modifyNotices fun n => { n with packReady := if n.packReady < 65535 then n.packReady + 1 else n.packReady }

/-- A kiln to MOISTURE_INVALID. -/
def State.postMoistureInvalid (s : State) (k : KilnNo) : State :=
  s.modifyNotices fun n => { n with moistureInvalid := n.moistureInvalid.set k.val true k.isLt }

/-- "clock" to CLOCK_INVALID. -/
def State.postClockInvalid (s : State) : State := s.modifyNotices fun n => { n with clockInvalid := true }

/-! ### Reports of the field port controller (R92, R94)

A report stands in `reports` until its block takes it. Log entry 6. -/

/-- A report is made. -/
def State.report (s : State) (r : Report) : State := { s with reports := s.reports ++ [r] }

/-- The block that takes a report, and for a kiln which one: the kiln supervisor, the probe unit, the tracker, the
label unit. -/
def Report.taker : Report → Nat × Nat
  | .controllerLost k => (0, k.val)
  | .kilnPortUp k => (0, k.val)
  | .probePortUp k => (1, k.val)
  | .probePortLeftUp k => (1, k.val)
  | .meterPortLeftUp => (2, 0)
  | .labelPortUp => (3, 0)
  | .labelPortLeftUp => (3, 0)

/-- The report is the oldest of those made to its block and not yet taken. -/
def State.reportNext (s : State) (r : Report) : Bool :=
  s.reports.find? (fun x => x.taker == r.taker) == some r

/-- The report is taken. -/
def State.takeReport (s : State) (r : Report) : State := { s with reports := s.reports.erase r }

/-! ### Snapshots (R76) -/

/-- The state that counts for setpoints and snapshots: in FAULT_HOLD the remembered one. -/
def KilnRecord.effectiveState (r : KilnRecord) : KilnState :=
  match r.state, r.remembered with
  | .faultHold, some remembered => remembered
  | st, _ => st

/-- The states in which a snapshot is written (R76). -/
def KilnRecord.writesSnapshots (r : KilnRecord) : Bool :=
  match r.effectiveState with
  | .loaded | .running | .held | .complete => true
  | .empty | .faultHold | .recovery => false

/-- The kiln record reduced to a snapshot (R76). -/
def KilnRecord.toSnapshot (r : KilnRecord) (charge : KilnCharge) : Snapshot :=
  { charge := charge, stepIndex := r.stepIndex, stepElapsed := r.stepElapsed, totalMinutes := r.totalMinutes,
    running := r.effectiveState == .running, host := r.holds.host, overtime := r.holds.overtime,
    dryBulb := r.dryBulb, depression := r.depression, overtimeDisarmed := r.overtimeDisarmed }

/-- Kiln k's snapshot is written, in the states that write one (R76). -/
def State.writeSnapshot (s : State) (k : KilnNo) : State :=
  if (s.kiln k).writesSnapshots then
    match (s.kiln k).charge with
    | some c => s.setSnapshot k (some ((s.kiln k).toSnapshot c))
    | none => s
  else s

end Sys2Proof.Machine
end

