-- ==== Sys2Proof/Machine/Moisture.lean ====
section
/-!
DEFINITION. The moisture arithmetic unit (01_moisture_arithmetic.md): conversion, probe smoothing, and the selection of controlling
MC, spread and driest. It holds no state (R1): these are functions of the inputs taken for one use.
-/
namespace Sys2Proof.Machine

/-- A reading without flags. -/
def ReadingFlags.none : ReadingFlags :=
  { uncorrected := false, saturatedWet := false, saturatedDry := false, suspect := false, reseeded := false }

/-- A reading result (R8). -/
structure Reading where
  cls : ReadingClass
  lCode : Nat
  mc : Option Nat
  flags : ReadingFlags
deriving DecidableEq, Repr

/-- The temperature clamped to -400..1200 (R4). -/
def clampTemperature (t : Int) : Int := max (-400) (min t 1200)

/-- N / 100 rounded half away from zero (R5). -/
def roundHundredths (n : Int) : Int := if 0 ≤ n then (n + 50) / 100 else -((-n + 50) / 100)

/-- The L-code corrected to 25.0 °C (R5). -/
def correctedCode (kT : Nat) (t : Int) (l : Nat) : Int := l + roundHundredths (kT * (clampTemperature t - 250))

/-- f / d rounded half up (00_scope.md, "Ranges, arithmetic and rounding"). -/
def roundHalfUp (f d : Nat) : Nat := (2 * f + d) / (2 * d)

/-- The moisture content between two breakpoints (R7), found along the curve. -/
def interpolate : List (Nat × Nat) → Int → Nat
  | (l0, m0) :: (l1, m1) :: rest, x =>
    if x < l1 then m0 - roundHalfUp ((m0 - m1) * (x - l0).toNat) (l1 - l0) else interpolate ((l1, m1) :: rest) x
  | [(_, m)], _ => m
  | [], _ => 0

/-- Stage 2 of a conversion: the moisture content and the saturation flags (R6, R7). -/
def curveReading (curve : List (Nat × Nat)) (l25 : Int) (flags : ReadingFlags) : Nat × ReadingFlags :=
  match curve.head?, curve.getLast? with
  | some (l0, m0), some (l7, m7) =>
    if l25 ≤ l0 then (m0, { flags with saturatedWet := true })
    else if l7 ≤ l25 then (m7, { flags with saturatedDry := true })
    else (interpolate curve l25, flags)
  | _, _ => (0, flags)

/-- A conversion (R3 to R8). `temperature` is absent when a probe's kiln has no valid readback: then T is 250 and the
reading UNCORRECTED (R4). -/
def convert (l : Nat) (fault : Bool) (temperature : Option Int) (species : Option SpeciesEntry) : Reading :=
  if fault then { cls := .faulted, lCode := l, mc := none, flags := .none }
  else if l < 3072 then { cls := .short, lCode := l, mc := none, flags := .none }
  else if 12800 < l then { cls := .openLead, lCode := l, mc := none, flags := .none }
  else
    match species with
    | none => { cls := .noCurve, lCode := l, mc := none, flags := .none }
    | some sp =>
      let l25 := correctedCode sp.kT (temperature.getD 250) l
      let (mc, flags) := curveReading sp.curve l25 { ReadingFlags.none with uncorrected := temperature.isNone }
      { cls := .usable, lCode := l, mc := some mc, flags := flags }

/-- The step of an accepted reading (R13): |Δ| / 2^s rounded half away from zero, and at least 1 while Δ is not zero. -/
def smoothingStep (shift magnitude : Nat) : Nat :=
  if shift = 0 then magnitude
  else if magnitude = 0 then 0
  else max 1 ((magnitude + 2 ^ (shift - 1)) / 2 ^ shift)

/-- S moved by a magnitude toward the reading. -/
def moveToward (from_ toward step : Nat) : Nat := if from_ ≤ toward then from_ + step else from_ - step

/-- What smoothing gives: S, the suspect count, and the flag it adds (R9). -/
structure Smoothed where
  value : Nat
  suspectCount : Nat
  suspect : Bool
  reseeded : Bool
deriving DecidableEq, Repr

/-- The smoothing step (R10 to R13). -/
def smooth (previous : Option Nat) (suspectCount mc shift jumpLimit : Nat) : Smoothed :=
  match previous with
  | none => { value := mc, suspectCount := 0, suspect := false, reseeded := false }
  | some v =>
    let magnitude := ((mc : Int) - v).natAbs
    if jumpLimit < magnitude then
      if suspectCount < 2 then { value := v, suspectCount := suspectCount + 1, suspect := true, reseeded := false }
      else { value := mc, suspectCount := 0, suspect := false, reseeded := true }
    else
      { value := moveToward v mc (smoothingStep shift magnitude), suspectCount := 0, suspect := false,
        reseeded := false }

/-- A value put in its place in a descending list. -/
def insertDescending (x : Nat) : List Nat → List Nat
  | [] => [x]
  | y :: ys => if y ≤ x then x :: y :: ys else y :: insertDescending x ys

/-- The values from wettest to driest (R15). -/
def descending (values : List Nat) : List Nat := values.foldr insertDescending []

/-- A sweep result (R17). -/
structure SweepResult where
  controllingMc : ControllingMc
  spread : Option Nat
  driest : Option Nat
deriving DecidableEq, Repr

/-- The entry is a candidate for kiln k (R14): its S is then the value it contributes. -/
def PresenceEntry.candidate (e : PresenceEntry) (k : KilnNo) : Bool :=
  e.port == k && e.state == .active && e.role == some .control && e.smoothed.isSome

/-- The S values of kiln k's candidates (R14). -/
def candidateValues (presence : List PresenceEntry) (k : KilnNo) : List Nat :=
  (presence.filter fun e => e.candidate k).filterMap PresenceEntry.smoothed

/-- The selection over candidate values (R15, R16). -/
def select (values : List Nat) (wetCount minimumProbes : Nat) : SweepResult :=
  let sorted := descending values
  let n := sorted.length
  let k := min wetCount n
  { controllingMc :=
      if n < minimumProbes then .invalid else .value (roundHalfUp (sorted.take k).sum k)
    spread :=
      match sorted.head?, sorted.getLast? with
      | some hi, some lo => if 2 ≤ n ∧ minimumProbes ≤ n then some (hi - lo) else none
      | _, _ => none
    driest := sorted.getLast? }

end Sys2Proof.Machine
end

