-- ==== Sys2Proof/Machine/ChargeOps.lean ====
section
/-!
DEFINITION. The charge table's operations for the other blocks (03_charges.md): numbers, creation, staging, the final controlling MC,
the planer tallies, the meter sum and the open-pack references.
-/
namespace Sys2Proof.Machine

/-- The charge number after n: 65536 turns into 1 (R39). -/
def nextChargeNumber (n : Nat) : Nat := if n + 1 = 65536 then 1 else n + 1

/-- The first number after n that is not taken, within the given tries (R39). -/
def freeNumber (next : Nat → Nat) (taken : Nat → Bool) : Nat → Nat → Nat
  | 0, n => next n
  | tries + 1, n => if taken (next n) then freeNumber next taken tries (next n) else next n

/-- The number that the charge table issues next (R39). -/
def State.issuedChargeNumber (s : State) : Nat :=
  freeNumber nextChargeNumber (fun n => (s.charge n).isSome) 16 s.backup.chargeCounter

/-- The number is issued: the counter takes it (R39). -/
def State.writeChargeCounter (s : State) (number : Nat) : State :=
  { s with backup := { s.backup with chargeCounter := number } }

/-- The charge record that LOAD creates (R38). -/
def Charge.created (number : Nat) (k : KilnNo) (species schedule : Nat) (stamp : Stamp) : Charge :=
  { number := number, state := .kiln, kiln := some k, species := species, schedule := schedule, complete := false,
    abandoned := false, recovered := false, loadStamp := stamp, unloadStamp := none, finalMc := .absent, metered := 0,
    queued := 0, redry := 0, short := 0, noBay := 0, stacked := 0, cleared := 0, meterSum := 0, meterCount := 0,
    openPackRefs := 0 }

/-- A charge record put into the table. -/
def State.addCharge (s : State) (c : Charge) : State := { s with charges := insertBy Charge.number c s.charges }

/-- The charge of a kiln is staged (R42). -/
def Charge.stagedAt (c : Charge) (stamp : Stamp) : Charge :=
  { c with state := .staged, kiln := none, unloadStamp := some stamp, complete := c.finalMc != .absent,
           abandoned := c.finalMc == .absent }

/-- The charge table stages a charge, the unload stamp taken from the clock (R42). -/
def State.stageCharge (s : State) (number : Nat) : State := s.modifyCharge number fun c => c.stagedAt s.stamp

/-- The final controlling MC that a kiln record's controlling MC gives (R43). -/
def finalMcOf : ControllingMc → ControllingMc
  | .value mc => .value mc
  | .invalid | .absent => .invalid

/-- The charge table stores the final controlling MC (R43). -/
def State.recordFinalMc (s : State) (number : Nat) (mc : ControllingMc) : State :=
  s.modifyCharge number fun c => { c with finalMc := finalMcOf mc }

/-- The charge in state KILN that names kiln k (R2, R41). -/
def State.kilnCharge (s : State) (k : KilnNo) : Option Charge :=
  s.charges.find? fun c => c.state == .kiln && c.kiln == some k

/-- The fates of a piece (R46). -/
inductive Fate where
  | redry
  | short
  | noBay
  | stacked
  | cleared
deriving DecidableEq, Repr

/-- A piece counted to a charge, taken into the queue or not (R45). -/
def Charge.countPiece (c : Charge) (intoQueue : Bool) : Charge :=
  if intoQueue then { c with metered := c.metered + 1, queued := c.queued + 1 }
  else { c with metered := c.metered + 1, cleared := c.cleared + 1 }

/-- The charge answers "charge full" (R45). -/
def Charge.isFull (c : Charge) : Bool := Config.counterTop ≤ c.metered

/-- The fate's tally raised by one. -/
def Charge.raise (c : Charge) : Fate → Charge
  | .redry => { c with redry := c.redry + 1 }
  | .short => { c with short := c.short + 1 }
  | .noBay => { c with noBay := c.noBay + 1 }
  | .stacked => { c with stacked := c.stacked + 1 }
  | .cleared => { c with cleared := c.cleared + 1 }

/-- A piece settled with its charge: one less queued, one more of its fate, as one change (R46). A charge with nothing
queued has no piece to settle, and keeps its tallies: log entry 23. -/
def Charge.settle (c : Charge) (fate : Fate) : Charge :=
  if c.queued = 0 then c else { c.raise fate with queued := c.queued - 1 }

/-- The charge table settles a piece; a piece with charge number 0 has no charge to settle with (R46). -/
def State.settlePiece (s : State) (number : Nat) (fate : Fate) : State :=
  if number = 0 then s else s.modifyCharge number fun c => c.settle fate

/-- The charge table adds a meter reading (R48). -/
def State.addMeterReading (s : State) (number mc : Nat) : State :=
  if number = 0 then s
  else s.modifyCharge number fun c => { c with meterSum := c.meterSum + mc, meterCount := c.meterCount + 1 }

/-- The charge table adds an open-pack reference (R49). -/
def State.addReference (s : State) (number : Nat) : State :=
  s.modifyCharge number fun c => { c with openPackRefs := c.openPackRefs + 1 }

/-- The charge table drops an open-pack reference (R49). -/
def State.dropReference (s : State) (number : Nat) : State :=
  s.modifyCharge number fun c => { c with openPackRefs := c.openPackRefs - 1 }

/-- A charge rebuilt from a snapshot (R54). -/
def Charge.rebuilt (k : KilnNo) (x : Snapshot) (stamp : Stamp) : Charge :=
  { Charge.created x.charge.number k x.charge.species x.charge.schedule stamp with recovered := true }

/-- How many charges name a species code (R25). -/
def State.speciesReferences (s : State) (code : Nat) : Nat := s.charges.countP fun c => c.species == code

/-- How many charges name a schedule id (R31, R32). -/
def State.scheduleReferences (s : State) (id : Nat) : Nat := s.charges.countP fun c => c.schedule == id

end Sys2Proof.Machine
end

