-- ==== Sys2Proof/WellFormed.lean ====
section
/-!
DEFINITION. Which commands a frame can carry: each request field within the width R198 gives it, the counts that R197's lengths
fix. An event command is always well formed. Where a command is not well formed no frame spells it; `exec` is total on
it all the same and the owner's range checks refuse it (log entry 34).
-/
namespace Sys2Proof

/-- One octet. -/
def isU8 (n : Nat) : Bool := n < 256

/-- Two octets. -/
def isU16 (n : Nat) : Bool := n < 65536

/-- Four octets. -/
def isU32 (n : Nat) : Bool := n < 4294967296

/-- Two octets, two's complement. -/
def isI16 (x : Int) : Bool := -32768 ≤ x ∧ x < 32768

/-- A schedule step as 11 octets (R29, R198). -/
def StepFields.wf (f : StepFields) : Bool :=
  isI16 f.target && isU16 f.depression && isU8 f.ramp && isU8 f.rule && isU16 f.threshold && isU16 f.maximum &&
    isU8 f.action

/-- A breakpoint as four octets (R22, R198). -/
def breakpointWf (p : Nat × Nat) : Bool := isU16 p.1 && isU16 p.2

/-- The command's fields fit their frame (R197, R198). -/
def Instr.wf : Instr → Bool
  | .identify | .restart | .continueReply | .listTables | .listCharges | .listAssignments | .lineClear | .readLine
  | .listPacks | .readClock | .readRetained | .takeNotice | .peekNotices => true
  | .readCounters subject choice => isU8 subject && isU8 choice
  | .writeSpecies code kT packLimit curve =>
    isU8 code && isU16 kT && isU16 packLimit && (curve.length == 8) && curve.all breakpointWf
  | .deleteSpecies code | .readSpecies code => isU8 code
  | .writeSchedule id count steps =>
    isU8 id && (count == steps.length) && decide (count ≤ 21) && steps.all StepFields.wf
  | .deleteSchedule id | .readSchedule id => isU8 id
  | .setInfeed number | .closeCharge number | .readCharge number => isU16 number
  | .load kiln species schedule => isU8 kiln && isU8 species && isU8 schedule
  | .start kiln | .hold kiln | .skip kiln | .unload kiln | .resume kiln | .abandon kiln | .readKiln kiln
  | .readProbes kiln => isU8 kiln
  | .release kiln reason => isU8 kiln && isU8 reason
  | .kilnConfig kiln si ci k mp le lr ll jl sh =>
    isU8 kiln && isU8 si && isU8 ci && isU8 k && isU8 mp && isU8 le && isU8 lr && isU8 ll && isU16 jl && isU8 sh
  | .enablePort port window limit auto retry => isU8 port && isU8 window && isU8 limit && isU8 auto && isU8 retry
  | .disablePort port | .readPort port => isU8 port
  | .assignProbe serial kiln role tag => isU32 serial && isU8 kiln && isU8 role && isU16 tag
  | .unassignProbe serial | .forgetProbe serial => isU32 serial
  | .sweepNow kiln choice => isU8 kiln && isU8 choice
  | .lineConfig cpm divert stack short polarity glitch =>
    isU16 cpm && isU32 divert && isU32 stack && isU16 short && isU8 polarity && isU8 glitch
  | .bayConfig bay enabled lo hi nominal target =>
    isU8 bay && isU8 enabled && isU16 lo && isU16 hi && isU16 nominal && isU16 target
  | .closePack bay | .readBay bay => isU8 bay
  | .reprint serial | .voidLabel serial | .readPack serial | .collectPack serial => isU32 serial
  | .labelConfig timeout => isU8 timeout
  | .setClock year month day hour minute second =>
    isU16 year && isU8 month && isU8 day && isU8 hour && isU8 minute && isU8 second
  | .setMasks choices => (choices.length == 9) && choices.all isU8
  | .linkOctetReceived _ _ | .linkSilenceExpiry | .replySent _ | .busyReplySent | .powerOn _ | .resetPin _ _
  | .powerFail | .keepLevelLoss | .minuteEvent _ | .clockSecond | .fieldRequestSent _ | .replyWindowExpiry _
  | .fieldOctetReceived _ _ _ | .fieldOctetSilence _ | .fieldSilentWaitExpiry _ | .lineFault _ | .wakePulseEnd _
  | .wakeWaitExpiry _ | .attemptGapExpiry _ | .autoretryExpiry _ | .reestablishExpiry _
  | .controllerIntervalExpiry _ | .idleWaitExpiry _ | .controllerLost _ | .kilnPortUp _ | .probePortUp _
  | .probePortLeftUp _ | .sweepIntervalExpiry _ | .encoderStep _ | .eyeChange _ | .eyeFilterExpiry
  | .meterPortLeftUp | .divertPulseExpiry | .labelPauseExpiry | .labelTimeoutExpiry | .labelPortUp
  | .labelPortLeftUp => true

end Sys2Proof
end

