-- ==== Sys2Proof/Decode.lean ====
section
/-!
DEFINITION. `decodeTableWord` (the table gives no bits), and the request frames of the supervisory link: numbers as octets
(R196, R198), the decoder of a request payload (R197) and its encoder.
-/
namespace Sys2Proof

/-- The command that a word spells by the table's bits. The table gives no row any bits, so no word spells a command.
DESIGN CHOICE, safe: log entry 2. -/
def decodeTableWord (_nbits _w : Nat) : Option Instr := none

/-! ### Numbers as octets, most significant first (R196) -/

/-- One octet. -/
def u8 (n : Nat) : List Octet := [BitVec.ofNat 8 n]

/-- Two octets. -/
def u16 (n : Nat) : List Octet := [BitVec.ofNat 8 (n / 256), BitVec.ofNat 8 n]

/-- Four octets. -/
def u32 (n : Nat) : List Octet :=
  [BitVec.ofNat 8 (n / 16777216), BitVec.ofNat 8 (n / 65536), BitVec.ofNat 8 (n / 256), BitVec.ofNat 8 n]

/-- Six octets. -/
def u48 (n : Nat) : List Octet := u16 (n / 4294967296) ++ u32 n

/-- Two octets, two's complement (R198). -/
def i16 (x : Int) : List Octet := u16 (x % 65536).toNat

/-- The number in two octets. -/
def num16 (a b : Octet) : Nat := a.toNat * 256 + b.toNat

/-- The number in four octets. -/
def num32 (a b c d : Octet) : Nat := num16 a b * 65536 + num16 c d

/-- The signed number in two octets. -/
def int16 (a b : Octet) : Int := if num16 a b < 32768 then num16 a b else (num16 a b : Int) - 65536

/-! ### Request kinds (R197) -/

/-- The kind octet of a request command; no event command has one. -/
def kindCode : Instr → Option Octet
  | .identify => some 0x01
  | .readCounters _ _ => some 0x02
  | .restart => some 0x03
  | .continueReply => some 0x04
  | .writeSpecies _ _ _ _ => some 0x10
  | .deleteSpecies _ => some 0x11
  | .readSpecies _ => some 0x12
  | .writeSchedule _ _ _ => some 0x13
  | .deleteSchedule _ => some 0x14
  | .readSchedule _ => some 0x15
  | .listTables => some 0x16
  | .setInfeed _ => some 0x20
  | .closeCharge _ => some 0x21
  | .readCharge _ => some 0x22
  | .listCharges => some 0x23
  | .load _ _ _ => some 0x30
  | .start _ => some 0x31
  | .hold _ => some 0x32
  | .release _ _ => some 0x33
  | .skip _ => some 0x34
  | .unload _ => some 0x35
  | .resume _ => some 0x36
  | .abandon _ => some 0x37
  | .kilnConfig _ _ _ _ _ _ _ _ _ _ => some 0x38
  | .readKiln _ => some 0x39
  | .enablePort _ _ _ _ _ => some 0x40
  | .disablePort _ => some 0x41
  | .readPort _ => some 0x42
  | .assignProbe _ _ _ _ => some 0x50
  | .unassignProbe _ => some 0x51
  | .listAssignments => some 0x52
  | .sweepNow _ _ => some 0x53
  | .readProbes _ => some 0x54
  | .forgetProbe _ => some 0x55
  | .lineConfig _ _ _ _ _ _ => some 0x60
  | .lineClear => some 0x61
  | .readLine => some 0x62
  | .bayConfig _ _ _ _ _ _ => some 0x70
  | .closePack _ => some 0x71
  | .reprint _ => some 0x72
  | .voidLabel _ => some 0x73
  | .readPack _ => some 0x74
  | .listPacks => some 0x75
  | .collectPack _ => some 0x76
  | .readBay _ => some 0x77
  | .labelConfig _ => some 0x78
  | .setClock _ _ _ _ _ _ => some 0x80
  | .readClock => some 0x81
  | .readRetained => some 0x82
  | .takeNotice => some 0x90
  | .peekNotices => some 0x91
  | .setMasks _ => some 0x92
  | .linkOctetReceived _ _ | .linkSilenceExpiry | .replySent _ | .busyReplySent | .powerOn _ | .resetPin _ _
  | .powerFail | .keepLevelLoss | .minuteEvent _ | .clockSecond | .fieldRequestSent _ | .replyWindowExpiry _
  | .fieldOctetReceived _ _ _ | .fieldOctetSilence _ | .fieldSilentWaitExpiry _ | .lineFault _ | .wakePulseEnd _
  | .wakeWaitExpiry _ | .attemptGapExpiry _ | .autoretryExpiry _ | .reestablishExpiry _
  | .controllerIntervalExpiry _ | .idleWaitExpiry _ | .controllerLost _ | .kilnPortUp _ | .probePortUp _
  | .probePortLeftUp _ | .sweepIntervalExpiry _ | .encoderStep _ | .eyeChange _ | .eyeFilterExpiry
  | .meterPortLeftUp | .divertPulseExpiry | .labelPauseExpiry | .labelTimeoutExpiry | .labelPortUp
  | .labelPortLeftUp => none

/-! ### Decoding a request payload -/

/-- Breakpoints of four octets each (R22); octets that do not make a whole breakpoint give none. -/
def parseBreakpoints : List Octet → List (Nat × Nat)
  | a :: b :: c :: d :: rest => (num16 a b, num16 c d) :: parseBreakpoints rest
  | _ => []

/-- Steps of eleven octets each (R29). -/
def parseSteps : List Octet → List StepFields
  | a :: b :: c :: d :: e :: f :: g :: h :: i :: j :: k :: rest =>
    { target := int16 a b, depression := num16 c d, ramp := e.toNat, rule := f.toNat, threshold := num16 g h,
      maximum := num16 i j, action := k.toNat } :: parseSteps rest
  | _ => []

/-- The command of a kind code and its fields; `none` is an unknown kind, `some none` a payload of another length
than the kind requires (R188, R197). -/
def parseFields (kind : Nat) (fields : List Octet) : Option (Option Instr) :=
  match kind with
  | 0x01 => some (match fields with | [] => some .identify | _ => none)
  | 0x02 => some (match fields with | [a, b] => some (.readCounters a.toNat b.toNat) | _ => none)
  | 0x03 => some (match fields with | [] => some .restart | _ => none)
  | 0x04 => some (match fields with | [] => some .continueReply | _ => none)
  | 0x10 => some (match fields with
    | code :: k0 :: k1 :: p0 :: p1 :: rest =>
      if rest.length = 32 then
        some (.writeSpecies code.toNat (num16 k0 k1) (num16 p0 p1) (parseBreakpoints rest))
      else none
    | _ => none)
  | 0x11 => some (match fields with | [a] => some (.deleteSpecies a.toNat) | _ => none)
  | 0x12 => some (match fields with | [a] => some (.readSpecies a.toNat) | _ => none)
  | 0x13 => some (match fields with
    | id :: count :: rest =>
      if rest.length = 11 * count.toNat then some (.writeSchedule id.toNat count.toNat (parseSteps rest)) else none
    | _ => none)
  | 0x14 => some (match fields with | [a] => some (.deleteSchedule a.toNat) | _ => none)
  | 0x15 => some (match fields with | [a] => some (.readSchedule a.toNat) | _ => none)
  | 0x16 => some (match fields with | [] => some .listTables | _ => none)
  | 0x20 => some (match fields with | [a, b] => some (.setInfeed (num16 a b)) | _ => none)
  | 0x21 => some (match fields with | [a, b] => some (.closeCharge (num16 a b)) | _ => none)
  | 0x22 => some (match fields with | [a, b] => some (.readCharge (num16 a b)) | _ => none)
  | 0x23 => some (match fields with | [] => some .listCharges | _ => none)
  | 0x30 => some (match fields with | [a, b, c] => some (.load a.toNat b.toNat c.toNat) | _ => none)
  | 0x31 => some (match fields with | [a] => some (.start a.toNat) | _ => none)
  | 0x32 => some (match fields with | [a] => some (.hold a.toNat) | _ => none)
  | 0x33 => some (match fields with | [a, b] => some (.release a.toNat b.toNat) | _ => none)
  | 0x34 => some (match fields with | [a] => some (.skip a.toNat) | _ => none)
  | 0x35 => some (match fields with | [a] => some (.unload a.toNat) | _ => none)
  | 0x36 => some (match fields with | [a] => some (.resume a.toNat) | _ => none)
  | 0x37 => some (match fields with | [a] => some (.abandon a.toNat) | _ => none)
  | 0x38 => some (match fields with
    | [a, b, c, d, e, f, g, h, i, j, k] =>
      some (.kilnConfig a.toNat b.toNat c.toNat d.toNat e.toNat f.toNat g.toNat h.toNat (num16 i j) k.toNat)
    | _ => none)
  | 0x39 => some (match fields with | [a] => some (.readKiln a.toNat) | _ => none)
  | 0x40 => some (match fields with
    | [a, b, c, d, e] => some (.enablePort a.toNat b.toNat c.toNat d.toNat e.toNat)
    | _ => none)
  | 0x41 => some (match fields with | [a] => some (.disablePort a.toNat) | _ => none)
  | 0x42 => some (match fields with | [a] => some (.readPort a.toNat) | _ => none)
  | 0x50 => some (match fields with
    | [a, b, c, d, e, f, g, h] => some (.assignProbe (num32 a b c d) e.toNat f.toNat (num16 g h))
    | _ => none)
  | 0x51 => some (match fields with | [a, b, c, d] => some (.unassignProbe (num32 a b c d)) | _ => none)
  | 0x52 => some (match fields with | [] => some .listAssignments | _ => none)
  | 0x53 => some (match fields with | [a, b] => some (.sweepNow a.toNat b.toNat) | _ => none)
  | 0x54 => some (match fields with | [a] => some (.readProbes a.toNat) | _ => none)
  | 0x55 => some (match fields with | [a, b, c, d] => some (.forgetProbe (num32 a b c d)) | _ => none)
  | 0x60 => some (match fields with
    | [a, b, c, d, e, f, g, h, i, j, k, l, m, n] =>
      some (.lineConfig (num16 a b) (num32 c d e f) (num32 g h i j) (num16 k l) m.toNat n.toNat)
    | _ => none)
  | 0x61 => some (match fields with | [] => some .lineClear | _ => none)
  | 0x62 => some (match fields with | [] => some .readLine | _ => none)
  | 0x70 => some (match fields with
    | [a, b, c, d, e, f, g, h, i, j] =>
      some (.bayConfig a.toNat b.toNat (num16 c d) (num16 e f) (num16 g h) (num16 i j))
    | _ => none)
  | 0x71 => some (match fields with | [a] => some (.closePack a.toNat) | _ => none)
  | 0x72 => some (match fields with | [a, b, c, d] => some (.reprint (num32 a b c d)) | _ => none)
  | 0x73 => some (match fields with | [a, b, c, d] => some (.voidLabel (num32 a b c d)) | _ => none)
  | 0x74 => some (match fields with | [a, b, c, d] => some (.readPack (num32 a b c d)) | _ => none)
  | 0x75 => some (match fields with | [] => some .listPacks | _ => none)
  | 0x76 => some (match fields with | [a, b, c, d] => some (.collectPack (num32 a b c d)) | _ => none)
  | 0x77 => some (match fields with | [a] => some (.readBay a.toNat) | _ => none)
  | 0x78 => some (match fields with | [a] => some (.labelConfig a.toNat) | _ => none)
  | 0x80 => some (match fields with
    | [a, b, c, d, e, f, g] => some (.setClock (num16 a b) c.toNat d.toNat e.toNat f.toNat g.toNat)
    | _ => none)
  | 0x81 => some (match fields with | [] => some .readClock | _ => none)
  | 0x82 => some (match fields with | [] => some .readRetained | _ => none)
  | 0x90 => some (match fields with | [] => some .takeNotice | _ => none)
  | 0x91 => some (match fields with | [] => some .peekNotices | _ => none)
  | 0x92 => some (if fields.length = 9 then some (.setMasks (fields.map BitVec.toNat)) else none)
  | _ => none

/-- The dispatch checks of R188 on a request payload: the command, or the status the link answers. -/
def parseRequest : List Octet → Except Status Instr
  | [] => .error .badLength
  | kind :: fields =>
    match parseFields kind.toNat fields with
    | none => .error .unknownKind
    | some none => .error .badLength
    | some (some i) => .ok i

/-! ### Encoding a request -/

/-- A breakpoint as a WRITE-SPECIES carries it. -/
def breakpointOctets (p : Nat × Nat) : List Octet := u16 p.1 ++ u16 p.2

/-- A step as a WRITE-SCHEDULE carries it. -/
def StepFields.octets (f : StepFields) : List Octet :=
  i16 f.target ++ u16 f.depression ++ u8 f.ramp ++ u8 f.rule ++ u16 f.threshold ++ u16 f.maximum ++ u8 f.action

/-- The fields of a request command as octets (R197, R198); an event command has none. -/
def requestFields : Instr → List Octet
  | .readCounters subject choice => u8 subject ++ u8 choice
  | .writeSpecies code kT packLimit curve => u8 code ++ u16 kT ++ u16 packLimit ++ curve.flatMap breakpointOctets
  | .deleteSpecies code | .readSpecies code => u8 code
  | .writeSchedule id count steps => u8 id ++ u8 count ++ steps.flatMap StepFields.octets
  | .deleteSchedule id | .readSchedule id => u8 id
  | .setInfeed number | .closeCharge number | .readCharge number => u16 number
  | .load kiln species schedule => u8 kiln ++ u8 species ++ u8 schedule
  | .start kiln | .hold kiln | .skip kiln | .unload kiln | .resume kiln | .abandon kiln | .readKiln kiln
  | .readProbes kiln => u8 kiln
  | .release kiln reason => u8 kiln ++ u8 reason
  | .kilnConfig kiln si ci k mp le lr ll jl sh =>
    u8 kiln ++ u8 si ++ u8 ci ++ u8 k ++ u8 mp ++ u8 le ++ u8 lr ++ u8 ll ++ u16 jl ++ u8 sh
  | .enablePort port window limit auto retry => u8 port ++ u8 window ++ u8 limit ++ u8 auto ++ u8 retry
  | .disablePort port | .readPort port => u8 port
  | .assignProbe serial kiln role tag => u32 serial ++ u8 kiln ++ u8 role ++ u16 tag
  | .unassignProbe serial | .forgetProbe serial => u32 serial
  | .sweepNow kiln choice => u8 kiln ++ u8 choice
  | .lineConfig cpm divert stack short polarity glitch =>
    u16 cpm ++ u32 divert ++ u32 stack ++ u16 short ++ u8 polarity ++ u8 glitch
  | .bayConfig bay enabled lo hi nominal target =>
    u8 bay ++ u8 enabled ++ u16 lo ++ u16 hi ++ u16 nominal ++ u16 target
  | .closePack bay | .readBay bay => u8 bay
  | .reprint serial | .voidLabel serial | .readPack serial | .collectPack serial => u32 serial
  | .labelConfig timeout => u8 timeout
  | .setClock year month day hour minute second =>
    u16 year ++ u8 month ++ u8 day ++ u8 hour ++ u8 minute ++ u8 second
  | .setMasks choices => choices.flatMap u8
  | .identify | .restart | .continueReply | .listTables | .listCharges | .listAssignments | .lineClear | .readLine
  | .listPacks | .readClock | .readRetained | .takeNotice | .peekNotices => []
  | .linkOctetReceived _ _ | .linkSilenceExpiry | .replySent _ | .busyReplySent | .powerOn _ | .resetPin _ _
  | .powerFail | .keepLevelLoss | .minuteEvent _ | .clockSecond | .fieldRequestSent _ | .replyWindowExpiry _
  | .fieldOctetReceived _ _ _ | .fieldOctetSilence _ | .fieldSilentWaitExpiry _ | .lineFault _ | .wakePulseEnd _
  | .wakeWaitExpiry _ | .attemptGapExpiry _ | .autoretryExpiry _ | .reestablishExpiry _
  | .controllerIntervalExpiry _ | .idleWaitExpiry _ | .controllerLost _ | .kilnPortUp _ | .probePortUp _
  | .probePortLeftUp _ | .sweepIntervalExpiry _ | .encoderStep _ | .eyeChange _ | .eyeFilterExpiry
  | .meterPortLeftUp | .divertPulseExpiry | .labelPauseExpiry | .labelTimeoutExpiry | .labelPortUp
  | .labelPortLeftUp => []

/-- The payload of a request command's frame: its kind octet and its fields. -/
def encodeRequest (i : Instr) : Option (List Octet) := (kindCode i).map (· :: requestFields i)

/-- A host frame: lead 0xB5, payload length, payload, check (R182). -/
def hostFrame (payload : List Octet) : List Octet :=
  let body := (0xB5 : Octet) :: BitVec.ofNat 8 payload.length :: payload
  body ++ [checkOctet 0xA5 body]

/-- A station request frame: lead 0x96, address, command, data length, data, check (R82). -/
def stationFrame (address : Nat) (command : Octet) (data : List Octet) : List Octet :=
  let body := (0x96 : Octet) :: BitVec.ofNat 8 address :: command :: BitVec.ofNat 8 data.length :: data
  body ++ [checkOctet 0x5A body]

end Sys2Proof
end

