-- ==== Sys2Proof/Machine/Flags.lean ====
section
/-!
DEFINITION. What follows from the state at every moment: which notice classes are waiting, the attention summary, and the levels
of the output pins ATTN, LINE_STOP, DIVERT and FPn_DE.
-/
namespace Sys2Proof.Machine

/-- The classes in priority order, 1 first (R173). -/
def noticeClasses : List NoticeClass :=
  [.kilnFault, .recovery, .lineStop, .labelFault, .portDown, .probeChange, .kilnStep, .chargeDried, .packReady,
    .moistureInvalid, .clockInvalid]

/-- A class's priority (R173). -/
def NoticeClass.priority : NoticeClass → Nat
  | .kilnFault => 1
  | .recovery => 2
  | .lineStop => 3
  | .labelFault => 4
  | .portDown => 5
  | .probeChange => 6
  | .kilnStep => 7
  | .chargeDried => 8
  | .packReady => 9
  | .moistureInvalid => 10
  | .clockInvalid => 11

/-- Some member of a numbered set is present. -/
def anyMember {n : Nat} (set : Vector Bool n) : Bool := set.toList.any id

/-- The class's subject set is non-empty; for PACK_READY, the count is 1 or more (R173). -/
def Notices.nonEmpty (n : Notices) : NoticeClass → Bool
  | .kilnFault => anyMember n.kilnFault
  | .recovery => anyMember n.recovery
  | .lineStop => !n.lineStop.isEmpty
  | .labelFault => anyMember n.labelFault
  | .portDown => anyMember n.portDown
  | .probeChange => anyMember n.probeChange
  | .kilnStep => anyMember n.kilnStep
  | .chargeDried => anyMember n.chargeDried
  | .packReady => decide (1 ≤ n.packReady)
  | .moistureInvalid => anyMember n.moistureInvalid
  | .clockInvalid => n.clockInvalid

/-- The class is masked; KILN_FAULT and RECOVERY never are (R173). -/
def Masks.masked (m : Masks) : NoticeClass → Bool
  | .kilnFault | .recovery => false
  | .lineStop => m.lineStop
  | .labelFault => m.labelFault
  | .portDown => m.portDown
  | .probeChange => m.probeChange
  | .kilnStep => m.kilnStep
  | .chargeDried => m.chargeDried
  | .packReady => m.packReady
  | .moistureInvalid => m.moistureInvalid
  | .clockInvalid => m.clockInvalid

/-- The class is waiting (R173). -/
def Notices.waiting (n : Notices) (c : NoticeClass) : Bool := n.nonEmpty c && !n.masks.masked c

/-- ATTN is asserted while some class is waiting and the part is out of reset (R176). -/
def State.attn (s : State) : Bool := (s.power == .on) && noticeClasses.any s.notices.waiting

/-- The attention summary: bit p - 1 is the class of priority p, set when waiting (R177, R196). -/
def Notices.summary (n : Notices) : Nat :=
  noticeClasses.foldr (fun c acc => (if n.waiting c then 2 ^ (c.priority - 1) else 0) + acc) 0

/-- LINE_STOP: asserted while the cause set is non-empty and while held in reset (R137). With main power off the output
is at its unpowered level (R170), given here as released. -/
def State.lineStopLevel (s : State) : Bool :=
  match s.power with
  | .on => !s.line.causes.isEmpty
  | .held => true
  | .off => false

/-- DIVERT: high for the pulse time, low in reset (R135). -/
def State.divertLevel (s : State) : Bool := (s.power == .on) && s.line.divertPulse

/-- The port is driving its line: a wake pulse, or the octets of a request (R81, R95). -/
def PortRecord.driving (r : PortRecord) : Bool :=
  r.wake == .pulse ||
    match r.exchange with
    | some e => e.phase == .sending
    | none => false

end Sys2Proof.Machine
end

