-- ==== Sys2Proof/Machine/Operands.lean ====
section
/-!
DEFINITION. The operands of request commands as the owners read them: the numbered subjects, flags and enumerations of R198, each
absent when the octet is out of its range.
-/
namespace Sys2Proof.Machine

/-- A kiln number 1..6. -/
def kilnOf (n : Nat) : Option KilnNo := numbered 6 n

/-- A port number 1..8. -/
def portOf (n : Nat) : Option PortNo := numbered 8 n

/-- A bay number 1..4. -/
def bayOf (n : Nat) : Option BayNo := numbered 4 n

/-- The value lies in lo..hi. -/
def inRange (lo hi n : Nat) : Bool := lo ≤ n && n ≤ hi

/-- A flag, on/off setting or yes/no choice: 0 or 1 (R198). -/
def flagOf : Nat → Option Bool
  | 0 => some false
  | 1 => some true
  | _ => none

/-- A role of R104: 0 CONTROL, 1 MONITOR, 2 EXCLUDED (R198). -/
def roleOf : Nat → Option ProbeRole
  | 0 => some .control
  | 1 => some .monitor
  | 2 => some .excluded
  | _ => none

/-- An advance rule by its number in R29. -/
def advanceRuleOf : Nat → Option AdvanceRule
  | 1 => some .time
  | 2 => some .mcAtOrBelow
  | 3 => some .spreadAtOrBelow
  | 4 => some .dryBulbReached
  | _ => none

/-- The number of an advance rule in R29. -/
def AdvanceRule.number : AdvanceRule → Nat
  | .time => 1
  | .mcAtOrBelow => 2
  | .spreadAtOrBelow => 3
  | .dryBulbReached => 4

/-- An overtime action by its number in R29. -/
def overtimeActionOf : Nat → Option OvertimeAction
  | 1 => some .advance
  | 2 => some .hold
  | _ => none

/-- The number of an overtime action in R29. -/
def OvertimeAction.number : OvertimeAction → Nat
  | .advance => 1
  | .hold => 2

/-- The threshold's range by advance rule (R29). -/
def thresholdValid (rule : AdvanceRule) (threshold maximum : Nat) : Bool :=
  match rule with
  | .time => inRange 1 65535 threshold && threshold ≤ maximum
  | .mcAtOrBelow => inRange 300 8000 threshold
  | .spreadAtOrBelow => threshold ≤ 7700
  | .dryBulbReached => threshold == 0

/-- The step that valid fields make (R29). -/
def stepOf (f : StepFields) : Option Step :=
  match advanceRuleOf f.rule, overtimeActionOf f.action with
  | some rule, some action =>
    if 0 ≤ f.target ∧ f.target ≤ 1200 ∧ f.depression ≤ 400 ∧ inRange 1 50 f.ramp ∧
        thresholdValid rule f.threshold f.maximum ∧ inRange 1 65535 f.maximum then
      some { target := f.target.toNat, depression := f.depression, ramp := f.ramp, rule := rule,
             threshold := f.threshold, maximum := f.maximum, action := action }
    else none
  | _, _ => none

/-- The steps that valid fields make; none as soon as one step fails R29. -/
def stepsOf : List StepFields → Option (List Step)
  | [] => some []
  | f :: rest =>
    match stepOf f, stepsOf rest with
    | some step, some steps => some (step :: steps)
    | _, _ => none

/-- The masks that nine choices make: 0 unmasked, 1 masked (R198). -/
def masksOf : List Nat → Option Masks
  | [a, b, c, d, e, f, g, h, i] =>
    match flagOf a, flagOf b, flagOf c, flagOf d, flagOf e, flagOf f, flagOf g, flagOf h, flagOf i with
    | some a, some b, some c, some d, some e, some f, some g, some h, some i =>
      some { lineStop := a, labelFault := b, portDown := c, probeChange := d, kilnStep := e, chargeDried := f,
             packReady := g, moistureInvalid := h, clockInvalid := i }
    | _, _, _, _, _, _, _, _, _ => none
  | _ => none

/-- A year divisible by 4 in 2000..2099 is a leap year (R164). -/
def monthLength (year month : Nat) : Nat :=
  match month with
  | 2 => if year % 4 = 0 then 29 else 28
  | 4 | 6 | 9 | 11 => 30
  | _ => 31

/-- The date and time lie in the ranges of R164. -/
def DateTime.valid (t : DateTime) : Bool :=
  inRange 2000 2099 t.year && inRange 1 12 t.month && inRange 1 (monthLength t.year t.month) t.day &&
    decide (t.hour ≤ 23) && decide (t.minute ≤ 59) && decide (t.second ≤ 59)

end Sys2Proof.Machine
end

