-- ==== Sys2Proof/Machine/Formats.lean ====
section
/-!
DEFINITION. The octets of reply contents (R196, R198): each record's fields in the order its rule lists them, each at the width its
quantity takes. DEDUCED, unsafe: where R198 leaves a width or a number open, log entry 24 says what stands here.
-/
namespace Sys2Proof.Machine

/-- A flag or on/off setting: 0 or 1. -/
def flag (b : Bool) : List Octet := u8 (if b then 1 else 0)

/-- An optional field: a presence octet, then the field at its full width, zeros when absent. -/
def optional (width : Nat) : Option (List Octet) → List Octet
  | none => u8 0 ++ List.replicate width 0
  | some octets => u8 1 ++ octets

/-- A list: a count octet, then the members. -/
def listOf {α : Type} (encode : α → List Octet) (members : List α) : List Octet :=
  u8 members.length ++ members.flatMap encode

/-- A set of up to 8 members: bit k for the (k + 1)-th. -/
def setOf (members : List Bool) : List Octet :=
  u8 (members.foldr (fun b acc => (if b then 1 else 0) + 2 * acc) 0)

/-- A kiln, port or bay as its number. -/
def numberOctet {n : Nat} (i : Fin n) : List Octet := u8 (i.val + 1)

/-- A controlling MC (R198): presence 0 absent, 1 a value, 2 INVALID. DESIGN CHOICE, unsafe: that the two value octets are 0
with INVALID too, where R198 states 0 for an absent field alone, is log entry 24. -/
def controllingMcOctets : ControllingMc → List Octet
  | .absent => u8 0 ++ u16 0
  | .value mc => u8 1 ++ u16 mc
  | .invalid => u8 2 ++ u16 0

/-- A date and time as a stamp's 7 octets. -/
def DateTime.octets (t : DateTime) : List Octet :=
  u16 t.year ++ u8 t.month ++ u8 t.day ++ u8 t.hour ++ u8 t.minute ++ u8 t.second

/-- A stamp: 7 octets, all 0 for NO_TIME. -/
def Stamp.octets : Stamp → List Octet
  | .noTime => List.replicate 7 0
  | .taken t => t.octets

/-- A position or distance, four octets. -/
def positionOctets (p : Position) : List Octet := u32 p.toNat

/-- Decimal digits as ASCII (R200). -/
def digitOctets (digits : List Nat) : List Octet := digits.map fun d => BitVec.ofNat 8 (0x30 + d)

/-! ### Enumerations, numbered from 0 in the order their rules name them -/

/-- R38. -/
def ChargeState.code : ChargeState → Nat
  | .kiln => 0
  | .staged => 1
  | .infeed => 2

/-- R55. -/
def KilnState.code : KilnState → Nat
  | .empty => 0
  | .loaded => 1
  | .running => 2
  | .held => 3
  | .faultHold => 4
  | .complete => 5
  | .recovery => 6

/-- R87. -/
def PortState.code : PortState → Nat
  | .off => 0
  | .establishing => 1
  | .up => 2
  | .lineFault => 3
  | .down => 4

/-- R81. -/
def FieldRate.code : FieldRate → Nat
  | .r230 => 0
  | .r57 => 1
  | .r19 => 2

/-- R181. -/
def LinkRate.code : LinkRate → Nat
  | .k57 => 0
  | .k115 => 1
  | .k230 => 2
  | .k460 => 3

/-- The command octets of R199. -/
def StationCommand.code : StationCommand → Octet
  | .identify => 0x01
  | .probeRead => 0x02
  | .setpoint => 0x03
  | .meterSample => 0x04
  | .labelPrint => 0x05
  | .labelStatus => 0x06

/-- R104. -/
def ProbeRole.code : ProbeRole → Nat
  | .control => 0
  | .monitor => 1
  | .excluded => 2

/-- R106. -/
def PresenceState.code : PresenceState → Nat
  | .active => 0
  | .lost => 1
  | .foreign => 2

/-- R106. -/
def RoleSource.code : RoleSource → Nat
  | .assigned => 0
  | .learned => 1

/-- R106. -/
def ReadingClass.code : ReadingClass → Nat
  | .usable => 0
  | .faulted => 1
  | .short => 2
  | .openLead => 3
  | .noCurve => 4

/-- R107. -/
def SweepKind.code : SweepKind → Nat
  | .regular => 0
  | .full => 1

/-- R127. -/
def NoReading.code : NoReading → Nat
  | .meterBusy => 0
  | .noReply => 1
  | .unusable => 2
  | .notSampled => 3

/-- R127. -/
def Grade.code : Grade → Nat
  | .pending => 0
  | .dry _ => 1
  | .redry => 2
  | .short => 3
  | .untraced => 4
  | .noBay => 5

/-- R143. -/
def BayState.code : BayState → Nat
  | .disabled => 0
  | .empty => 1
  | .opened => 2
  | .closing => 3
  | .waitRecord => 4
  | .labelling => 5
  | .labelFault => 6

/-- R152. -/
def LabelFaultReason.code : LabelFaultReason → Nat
  | .mismatch => 0
  | .applicator => 1
  | .timeout => 2
  | .port => 3

/-- R152. -/
def LabelState.code : LabelState → Nat
  | .queued => 0
  | .printing => 1
  | .confirmed => 2
  | .fault _ => 3
  | .void => 4

/-- R173; the class NONE of R178 takes the next number, 11. -/
def NoticeClass.code (c : NoticeClass) : Nat := c.priority - 1

/-! ### Sets in the order their rules name the members -/

/-- R55. -/
def HoldSet.octets (h : HoldSet) : List Octet := setOf [h.host, h.overtime, h.door, h.localControl, h.alarm]

/-- R106. -/
def ReadingFlags.octets (f : ReadingFlags) : List Octet :=
  setOf [f.uncorrected, f.saturatedWet, f.saturatedDry, f.suspect, f.reseeded]

/-- R119. -/
def ProbeEvents.octets (e : ProbeEvents) : List Octet :=
  setOf [e.new, e.lost, e.moved, e.swapped, e.tableFull, e.recovered]

/-- R137. -/
def CauseSet.octets (c : CauseSet) : List Octet := setOf [c.overflow, c.queueHigh, c.jam, c.recordsFull]

/-- R173, R175: one octet per mask in priority order. -/
def Masks.octets (m : Masks) : List Octet :=
  flag m.lineStop ++ flag m.labelFault ++ flag m.portDown ++ flag m.probeChange ++ flag m.kilnStep ++
    flag m.chargeDried ++ flag m.packReady ++ flag m.moistureInvalid ++ flag m.clockInvalid

/-! ### Records -/

/-- The identity of R192. -/
def identityContent (rate : LinkRate) : List Octet :=
  [0x48, 0x45, 0x46, 0x54, 0x52, 0x41] ++ u16 6412 ++ u8 Config.revision ++ u8 rate.code ++
    ([6, 8, 4, 12, 8, 16, 16, 48, 96, 24, 32, 8, 4, 11] : List Nat).flatMap u8

/-- A species entry's 19 fields in stored order (R22). -/
def SpeciesEntry.fields (e : SpeciesEntry) : List Octet :=
  u8 e.code ++ u16 e.kT ++ u16 e.packLimit ++ e.curve.flatMap fun p => u16 p.1 ++ u16 p.2

/-- A step's seven fields (R29). -/
def Step.octets (x : Step) : List Octet :=
  i16 x.target ++ u16 x.depression ++ u8 x.ramp ++ u8 x.rule.number ++ u16 x.threshold ++ u16 x.maximum ++
    u8 x.action.number

/-- The meter mean of a charge (R48). -/
def Charge.meterMean (c : Charge) : Option Nat :=
  if c.meterCount = 0 then none else some (roundHalfUp c.meterSum c.meterCount)

/-- A charge as READ-CHARGE and CLOSE-CHARGE return it (R38, R48, R51). DEDUCED, unsafe: that the number of pieces still
under way is 4 octets is log entry 24. -/
def Charge.octets (c : Charge) : List Octet :=
  u16 c.number ++ u8 c.state.code ++ optional 1 (c.kiln.map numberOctet) ++ u8 c.species ++ u8 c.schedule ++
    flag c.complete ++ flag c.abandoned ++ flag c.recovered ++ c.loadStamp.octets ++
    optional 7 (c.unloadStamp.map Stamp.octets) ++ controllingMcOctets c.finalMc ++ u32 c.metered ++ u32 c.queued ++
    u32 c.redry ++ u32 c.short ++ u32 c.noBay ++ u32 c.stacked ++ u32 c.cleared ++ u48 c.meterSum ++
    u32 c.meterCount ++ u8 c.openPackRefs ++ optional 2 (c.meterMean.map u16) ++ u32 c.queued

/-- A charge as LIST-CHARGES lists it (R52). -/
def Charge.listed (c : Charge) : List Octet :=
  u16 c.number ++ u8 c.state.code ++ optional 1 (c.kiln.map numberOctet) ++ u8 c.species ++ u8 c.schedule ++
    flag c.complete ++ flag c.abandoned ++ flag c.recovered ++ u32 c.queued ++ u8 c.openPackRefs

/-- The charge fields of a kiln record or snapshot. -/
def KilnCharge.octets (c : KilnCharge) : List Octet :=
  u16 c.number ++ u8 c.species ++ u16 c.speciesCheck ++ u8 c.schedule ++ u16 c.scheduleCheck

/-- The nine settings of R56. -/
def KilnConfig.octets (c : KilnConfig) : List Octet :=
  u8 c.sweepInterval ++ u8 c.controllerInterval ++ u8 c.wetCount ++ u8 c.minimumProbes ++ flag c.learning ++
    u8 (if c.learnMonitor then 1 else 0) ++ u8 c.lossLimit ++ u16 c.jumpLimit ++ u8 c.smoothingShift

/-- A kiln record's fields in the order of R55, each of the charge fields optional. DEDUCED, unsafe: that the remembered
state takes the numbers of R55's State row, that the controller status is three flag octets, and that each readback's valid
flag is one flag octet right after that readback, is log entry 24. -/
def KilnRecord.octets (r : KilnRecord) : List Octet :=
  u8 r.state.code ++ optional 2 (r.charge.map fun c => u16 c.number) ++
    optional 1 (r.charge.map fun c => u8 c.species) ++ optional 2 (r.charge.map fun c => u16 c.speciesCheck) ++
    optional 1 (r.charge.map fun c => u8 c.schedule) ++ optional 2 (r.charge.map fun c => u16 c.scheduleCheck) ++
    u8 r.stepIndex ++ u32 r.stepElapsed ++ u32 r.totalMinutes ++ i16 r.dryBulb ++ u16 r.depression ++
    r.holds.octets ++ flag r.overtimeDisarmed ++ optional 1 (r.remembered.map fun st => u8 st.code) ++
    i16 r.dryReadback ++ flag r.dryValid ++ i16 r.wetReadback ++ flag r.wetValid ++ flag r.status.door ++
    flag r.status.localControl ++ flag r.status.alarm ++ controllingMcOctets r.controllingMc ++
    optional 2 (r.spread.map u16) ++ optional 2 (r.driest.map u16) ++ r.config.octets

/-- The nine counters of a port in the order of R193. -/
def PortCounters.octets (c : PortCounters) : List Octet :=
  u32 c.good ++ u32 c.timeout ++ u32 c.truncated ++ u32 c.length ++ u32 c.check ++ u32 c.framing ++ u32 c.address ++
    u32 c.lineFaults ++ u32 c.establishments

/-- The ten line counters in the order of R193. -/
def LineCounters.octets (c : LineCounters) : List Octet :=
  u32 c.metered ++ u32 c.untraced ++ u32 c.meterBusy ++ u32 c.noReply ++ u32 c.short ++ u32 c.redry ++ u32 c.noBay ++
    u32 c.jams ++ u32 c.overflows ++ u32 c.cleared

/-- The exchanges a port holds waiting (R102). -/
def PortRecord.waitingCount (r : PortRecord) : Nat :=
  (if r.setpointDue then 1 else 0) + r.sweepQueue.length + (if r.waiting.isSome then 1 else 0)

/-- A port record as READ-PORT returns it (R102). DEDUCED, unsafe: that the failure count, the line-fault count, the attempt
number and the number of exchanges waiting are 1 octet each, and that the identity of station 0 is one optional field of a
kind of 1 octet, a serial of 4 and a version of 2, the widths of R199's station reply, and the exchange in flight one optional
field of its command code and its address, is log entry 24. -/
def PortRecord.octets (r : PortRecord) : List Octet :=
  u8 r.state.code ++ optional 1 (r.rate.map fun x => u8 x.code) ++ u8 r.replyWindow ++ u8 r.failureLimit ++
    flag r.autoReestablish ++ flag r.autoretry ++
    optional 7 (r.identity.map fun x => u8 x.kind ++ u32 x.serial ++ u16 x.version) ++ u8 r.failureCount ++
    u8 r.lineFaultCount ++ optional 1 (r.attempt.map u8) ++
    optional 2 (r.exchange.map fun e => [e.command.code] ++ u8 e.address) ++ u8 r.waitingCount

/-- An assignment entry (R104). -/
def Assignment.octets (a : Assignment) : List Octet :=
  u32 a.serial ++ numberOctet a.kiln ++ u8 a.role.code ++ u16 a.tag

/-- A presence entry with its position tag (R106, R120). DEDUCED, unsafe: that the miss count and the suspect count are 1
octet each is log entry 24. -/
def PresenceEntry.octets (e : PresenceEntry) (tag : Option Nat) : List Octet :=
  u32 e.serial ++ numberOctet e.port ++ u8 e.address ++ u8 e.state.code ++ optional 1 (e.role.map fun x => u8 x.code) ++
    optional 1 (e.source.map fun x => u8 x.code) ++ u8 e.missCount ++ optional 1 (e.lastClass.map fun x => u8 x.code) ++
    optional 2 (e.lastL.map u16) ++ optional 2 (e.lastMc.map u16) ++ e.lastFlags.octets ++
    optional 2 (e.smoothed.map u16) ++ u8 e.suspectCount ++ optional 2 (tag.map u16)

/-- A piece record (R127). DEDUCED, unsafe: that the reason, the MC and the bay are each an optional field is log entry 24. -/
def Piece.octets (p : Piece) : List Octet :=
  u16 p.sequence ++ u16 p.charge ++ optional 1 (p.species.map u8) ++ positionOctets p.lead ++
    optional 4 (p.trail.map positionOctets) ++ optional 2 (p.length.map u16) ++
    (match p.reading with
      | .pending => u8 0 ++ optional 1 none ++ optional 2 none
      | .read mc => u8 1 ++ optional 1 none ++ optional 2 (some (u16 mc))
      | .none reason => u8 2 ++ optional 1 (some (u8 reason.code)) ++ optional 2 none) ++
    (match p.grade with
      | .dry bay => u8 p.grade.code ++ optional 1 (some (numberOctet bay))
      | grade => u8 grade.code ++ optional 1 none) ++
    positionOctets p.divertAt ++ positionOctets p.stackAt

/-- The line as READ-LINE returns it (R140). DEDUCED, unsafe: that only the three settings which can be absent carry
presence octets, and that the levels of LINE_STOP and DIVERT, for which R198 has no row, are one octet each, 1 for asserted
or high and 0 for released or low, is log entry 24. -/
def lineContent (s : State) : List Octet :=
  let l := s.line
  optional 2 (l.config.countsPerMetre.map u16) ++ optional 4 (l.config.divertDistance.map u32) ++
    optional 4 (l.config.stackDistance.map u32) ++ u16 l.config.shortLimit ++
    u8 (if l.config.blockedLow then 1 else 0) ++ u8 l.config.glitchFilter ++ positionOctets l.counter ++
    u8 (if l.capture.blocked then 1 else 0) ++ flag l.capture.boardInEye ++
    optional 4 (l.capture.lastLead.map positionOctets) ++ optional 4 (l.capture.lastTrail.map positionOctets) ++
    optional 2 (l.capture.owner.map u16) ++ l.causes.octets ++ flag s.lineStopLevel ++ flag s.divertLevel ++
    optional 2 (l.sampleOwner.map u16) ++ u16 l.nextSequence ++
    u16 (match s.infeed with | some c => c.number | none => 0) ++ listOf Piece.octets l.queue

/-- A closed pack record (R152). DEDUCED, unsafe: that the check digit shown beside the code is 1 octet of value 0..9 is log
entry 24. -/
def PackRecord.octets (r : PackRecord) : List Octet :=
  u32 r.serial ++ u8 r.checkDigit ++ digitOctets r.code ++ numberOctet r.bay ++ u8 r.species ++ u16 r.nominal ++
    u16 r.pieceCount ++ u16 r.meanMc ++ u16 r.printedMc ++ u16 r.mcMax ++ digitOctets r.date ++
    listOf (fun c : Nat × Nat => u16 c.1 ++ u16 c.2) r.contributors ++ u8 r.label.code ++
    optional 1 (match r.label with | .fault reason => some (u8 reason.code) | _ => none) ++ optional 10 r.scanBack

/-- An open pack (R144). -/
def OpenPack.octets (p : OpenPack) : List Octet :=
  u8 p.species ++ u16 p.stacked ++ u16 p.reserved ++
    listOf (fun c : Contributor => u16 c.charge ++ u16 c.stacked ++ u16 c.reserved) p.contributors ++ u32 p.mcSum ++
    optional 2 (p.mcMax.map u16)

/-- The nominal order of a bay's settings (R142). -/
def BayConfig.octets (c : BayConfig) : List Octet :=
  flag c.enabled ++ u16 c.minimum ++ u16 c.maximum ++ u16 c.nominal ++ u16 c.target

/-- A bay as READ-BAY returns it (R160), with the serial of its closed record. DESIGN CHOICE, unsafe: that an absent open pack
is 13 zero octets, the width of `OpenPack.octets` with an empty contributor list, and that the serial, which R160 gives in
LABELLING and LABEL_FAULT, is an optional field, absent in every other state, is log entry 24. -/
def Bay.octets (b : Bay) (serial : Option Nat) : List Octet :=
  optional 9 (b.config.map BayConfig.octets) ++ u8 b.state.code ++ optional 13 (b.openPack.map OpenPack.octets) ++
    optional 4 (serial.map u32)

/-- A snapshot's fields in the order of R76. DEDUCED, unsafe: that its state is 0 for RUNNING and 1 for HELD is log
entry 24. -/
def Snapshot.octets (x : Snapshot) : List Octet :=
  x.charge.octets ++ u8 x.stepIndex ++ u32 x.stepElapsed ++ u32 x.totalMinutes ++ u8 (if x.running then 0 else 1) ++
    flag x.host ++ flag x.overtime ++ i16 x.dryBulb ++ u16 x.depression ++ flag x.overtimeDisarmed

/-- The retained store as READ-RETAINED returns it (R169). DEDUCED, unsafe: that a snapshot's valid flag is its presence octet,
with 25 zero octets after it when the snapshot is not valid, and that the charge-number counter is 2 octets, as the numbers it
holds, and the pack-serial counter 4 is log entry 24. -/
def retainedContent (b : Backup) : List Octet :=
  u16 b.chargeCounter ++ u32 b.packCounter ++
    b.snapshots.toList.flatMap fun x => optional 25 (x.map Snapshot.octets)

/-- A class's content as TAKE-NOTICE returns it (R178). DEDUCED, unsafe: that the PACK_READY count is 2 octets and that
KILN_STEP's content is the set and then six flag octets is log entry 24. -/
def Notices.content (n : Notices) : NoticeClass → List Octet
  | .kilnFault => setOf n.kilnFault.toList
  | .recovery => setOf n.recovery.toList
  | .lineStop => n.lineStop.octets
  | .labelFault => setOf n.labelFault.toList
  | .portDown => setOf n.portDown.toList
  | .probeChange => setOf n.probeChange.toList
  | .kilnStep => setOf n.kilnStep.toList ++ n.kilnStepOvertime.toList.flatMap flag
  | .chargeDried => setOf n.chargeDried.toList
  | .packReady => u16 n.packReady
  | .moistureInvalid => setOf n.moistureInvalid.toList
  | .clockInvalid => setOf [n.clockInvalid]

/-- Every class's content as PEEK-NOTICES returns it: the sets, the overtime flags, the count, the masks (R179).
DEDUCED, unsafe: their order and the count's 2 octets are log entry 24. -/
def Notices.peekContent (n : Notices) : List Octet :=
  setOf n.kilnFault.toList ++ setOf n.recovery.toList ++ n.lineStop.octets ++ setOf n.labelFault.toList ++
    setOf n.portDown.toList ++ setOf n.probeChange.toList ++ setOf n.kilnStep.toList ++ setOf n.chargeDried.toList ++
    setOf n.moistureInvalid.toList ++ setOf [n.clockInvalid] ++ n.kilnStepOvertime.toList.flatMap flag ++
    u16 n.packReady ++ n.masks.octets

/-- The data of a LABEL-PRINT (R200). -/
def PackRecord.labelContent (r : PackRecord) : List Octet :=
  digitOctets r.code ++ u8 r.species ++ u16 r.nominal ++ u16 r.pieceCount ++ u16 r.printedMc ++ digitOctets r.date ++
    listOf (fun c : Nat × Nat => u16 c.1) r.contributors

end Sys2Proof.Machine
end

