-- ==== Sys2Proof/Machine/LinkOps.lean ====
section
/-!
DEFINITION. How a request passes through the supervisory link: acceptance into the input buffer, BUSY, the composing of replies,
segments and the reply store (R185 to R191). A request command is the taking of the request by its owner (log entry 4).
-/
namespace Sys2Proof.Machine

/-- The codes of R196. -/
def statusCode : Status → Octet
  | .ok => 0x00
  | .unknownKind => 0x01
  | .badLength => 0x02
  | .outOfRange => 0x03
  | .notFound => 0x04
  | .wrongState => 0x05
  | .inUse => 0x06
  | .full => 0x07
  | .mismatch => 0x08
  | .busy => 0x09

/-- What an owner answers: a refusal, which changes nothing (R191), or OK with the reply content and the state after
the request. -/
inductive Answer where
  | refuse (status : Status)
  | ok (content : List Octet) (after : State)

/-- The content cut into segments of 235 octets, the last holding the rest (R189). -/
def cutSegments : Nat → List Octet → List (List Octet)
  | 0, content => [content]
  | fuel + 1, content =>
    if content.length ≤ Config.segmentLength then [content]
    else content.take Config.segmentLength :: cutSegments fuel (content.drop Config.segmentLength)

/-- The segments of a reply content. -/
def segmentsOf (content : List Octet) : List (List Octet) := cutSegments content.length content

/-- The payload of a reply other than OK: kind, status, summary (R189). -/
def refusalPayload (kind : Octet) (status : Status) (n : Notices) : List Octet :=
  kind :: statusCode status :: u16 n.summary

/-- The payload of an OK reply: kind, status, summary, segments remaining, segment (R189). -/
def okPayload (kind : Octet) (n : Notices) (remaining : Nat) (segment : List Octet) : List Octet :=
  kind :: statusCode .ok :: (u16 n.summary ++ u8 remaining ++ segment)

/-- A frame composed for the transmitter, which sends frames in the order they were composed (R187). -/
def State.compose (s : State) (busy : Bool) (payload : List Octet) : State :=
  s.modifyLink fun l => { l with sending := l.sending ++ [{ busy := busy, octets := hostFrame payload }] }

/-- The input buffer HELD with a request (R185). -/
def State.holdRequest (s : State) (kind : Octet) (request : Option Instr) (answered : Bool) : State :=
  s.modifyLink fun l => { l with buffer := some { kind := kind, request := request, answered := answered } }

/-- The remaining segments of an OK reply enter the reply store; none leaves it empty (R190). -/
def ReplyStore.ofSegments (rest : List (List Octet)) : ReplyStore :=
  { segments := rest, next := if rest.isEmpty then 0 else 2 }

/-- An OK reply to any request but CONTINUE: its first segment is sent, the rest stored (R189, R190). -/
def State.answerOk (s : State) (kind : Octet) (content : List Octet) : State :=
  match segmentsOf content with
  | [] => s
  | first :: rest =>
    (s.modifyLink fun l => { l with store := .ofSegments rest }).compose false
      (okPayload kind s.notices rest.length first)

/-- A reply other than OK (R189, R190). -/
def State.answerRefused (s : State) (kind : Octet) (status : Status) : State :=
  s.compose false (refusalPayload kind status s.notices)

/-- The owner takes the request whole and the link composes the reply (R188). -/
def performRequest (kind : Octet) (i : Instr) (owner : State → Answer) (s : State) : State :=
  let held := s.holdRequest kind (some i) true
  match owner held with
  | .refuse status => held.answerRefused kind status
  | .ok content after => after.answerOk kind content

/-- The refusal slot is taken (R186). -/
def Link.slotTaken (l : Link) : Bool := l.sending.any SendFrame.busy

/-- A complete frame while the buffer is HELD: BUSY into the refusal slot, or dropped and counted (R186). -/
def State.refuseBusy (s : State) (kind : Octet) : State :=
  if s.link.slotTaken then s.modifyLink fun l => { l with discarded := bump l.discarded }
  else s.compose true (refusalPayload kind .busy s.notices)

/-- The request in the buffer is this command, handed to its owner and not yet answered. -/
def Link.awaits (l : Link) (i : Instr) : Bool :=
  match l.buffer with
  | some h => h.request == some i && !h.answered
  | none => false

/-- A request command. With the buffer HELD by this very request, handed to its owner, the owner takes it. With the buffer
EMPTY the command stands for the request's whole frame as well: accepted, then taken. With the buffer HELD otherwise it
is a frame that completes while HELD. Out of reset only (R195). DESIGN CHOICE, safe: log entry 4. -/
def hostRequest (i : Instr) (owner : State → Answer) (s : State) : State :=
  let kind := (kindCode i).getD 0
  match s.power with
  | .held | .off => s
  | .on =>
    if s.link.buffer.isNone || s.link.awaits i then performRequest kind i owner s else s.refuseBusy kind

/-- A complete good frame is handed on (R185, R186, R188): accepted, with UNKNOWN_KIND or BAD_LENGTH answered by the link,
or refused BUSY. -/
def State.handOn (s : State) (payload : List Octet) : State :=
  let kind := payload.headD 0
  if s.link.buffer.isSome then s.refuseBusy kind
  else
    match parseRequest payload with
    | .ok i => s.holdRequest kind (some i) false
    | .error status => (s.holdRequest kind none true).answerRefused kind status

/-- A frame is discarded and counted (R184). -/
def State.discardFrame (s : State) (next : Receiver) : State :=
  s.modifyLink fun l => { l with receiver := next, discarded := bump l.discarded }

/-- An octet taken in RECEIVING without framing error, with the frame's octets so far (R183). -/
def State.receiveFrameOctet (s : State) (octets : List Octet) (octet : Octet) : State :=
  let now := octets ++ [octet]
  let length := (now.getD 1 0).toNat
  if now.length = 2 ∧ (length = 0 ∨ Config.maxPayload < length) then s.discardFrame .resync
  else if now.length = length + 3 ∧ 2 < now.length then
    if octetSum now = 0xA5 then
      (s.modifyLink fun l => { l with receiver := .hunt }).handOn ((now.drop 2).take length)
    else s.discardFrame .hunt
  else s.modifyLink fun l => { l with receiver := .receiving now }

/-- An octet on the supervisory link (R183). The silence wait starts again at every octet. -/
def State.receiveLinkOctet (s : State) (octet : Octet) (framingError : Bool) : State :=
  let s := s.modifyLink fun l => { l with silenceWait := true }
  match s.link.receiver with
  | .resync => s
  | .hunt =>
    if octet = 0xB5 ∧ framingError = false then s.modifyLink fun l => { l with receiver := .receiving [octet] } else s
  | .receiving octets => if framingError then s.discardFrame .resync else s.receiveFrameOctet octets octet

/-- The silence wait runs out (R183). -/
def State.linkSilence (s : State) : State :=
  if s.link.silenceWait then
    let s := s.modifyLink fun l => { l with silenceWait := false }
    match s.link.receiver with
    | .resync => s.modifyLink fun l => { l with receiver := .hunt }
    | .hunt => s
    | .receiving _ => s.discardFrame .hunt
  else s

end Sys2Proof.Machine
end

