-- ==== Sys2Proof/Machine/Charges.lean ====
section
/-!
DEFINITION. The charge table's requests (R44, R50 to R52).
-/
namespace Sys2Proof.Machine

/-- Every record in INFEED returned to STAGED (R44). -/
def State.clearInfeed (s : State) : State :=
  { s with charges := s.charges.map fun c => if c.state = .infeed then { c with state := .staged } else c }

/-- The number of the infeed charge, or 0 (R44). -/
def State.infeedNumber (s : State) : Nat :=
  match s.infeed with
  | some c => c.number
  | none => 0

/-- What the charge table answers to SET-INFEED: the number of the charge that left INFEED, or 0 (R44). -/
def setInfeedAnswer (number : Nat) (s : State) : Answer :=
  if number = 0 then .ok (u16 s.infeedNumber) s.clearInfeed
  else
    match s.charge number with
    | none => .refuse .notFound
    | some c =>
      match c.state with
      | .kiln => .refuse .wrongState
      | .infeed => .ok (u16 0) s
      | .staged =>
        .ok (u16 s.infeedNumber) (s.clearInfeed.modifyCharge number fun c => { c with state := .infeed })

/-- SET_INFEED (R44). -/
def execSetInfeed (number : Nat) (s : State) : Host.Outcome State Fault Refusal :=
  .next (hostRequest (.setInfeed number) (setInfeedAnswer number) s)

/-- What the charge table answers to CLOSE-CHARGE (R50). -/
def closeChargeAnswer (number : Nat) (s : State) : Answer :=
  if number = 0 then .refuse .outOfRange
  else
    match s.charge number with
    | none => .refuse .notFound
    | some c =>
      if c.state ≠ .staged then .refuse .wrongState
      else if 0 < c.queued ∨ 0 < c.openPackRefs then .refuse .inUse
      else .ok c.octets { s with charges := eraseBy Charge.number number s.charges }

/-- CLOSE_CHARGE (R50). -/
def execCloseCharge (number : Nat) (s : State) : Host.Outcome State Fault Refusal :=
  .next (hostRequest (.closeCharge number) (closeChargeAnswer number) s)

/-- What the charge table answers to READ-CHARGE (R51). -/
def readChargeAnswer (number : Nat) (s : State) : Answer :=
  if number = 0 then .refuse .outOfRange
  else
    match s.charge number with
    | none => .refuse .notFound
    | some c => .ok c.octets s

/-- READ_CHARGE (R51). -/
def execReadCharge (number : Nat) (s : State) : Host.Outcome State Fault Refusal :=
  .next (hostRequest (.readCharge number) (readChargeAnswer number) s)

/-- LIST_CHARGES (R52). -/
def execListCharges (s : State) : Host.Outcome State Fault Refusal :=
  .next (hostRequest .listCharges (fun s => .ok (listOf Charge.listed s.charges) s) s)

end Sys2Proof.Machine
end

