-- ==== Sys2Proof/Machine/PortOps.lean ====
section
/-!
DEFINITION. The field port controller's operations (05_field_ports.md): arbitration and sending, the three sweep operations,
establishment, entering and leaving UP, entering DOWN.
-/
namespace Sys2Proof.Machine

/-! ### Setpoints (R57) -/

/-- The mode RUN and the two temperatures of the next SETPOINT; OFF with zeros (R57). -/
structure Setpoint where
  run : Bool
  dryBulb : Nat
  wetBulb : Nat
deriving DecidableEq, Repr

/-- What the kiln supervisor supplies for a SETPOINT (R57). -/
def KilnRecord.setpoint (r : KilnRecord) : Setpoint :=
  match r.effectiveState with
  | .running | .held | .recovery => { run := true, dryBulb := r.dryBulb, wetBulb := r.dryBulb - r.depression }
  | .empty | .loaded | .complete | .faultHold => { run := false, dryBulb := 0, wetBulb := 0 }

/-- The data of a SETPOINT (R199). -/
def Setpoint.data (x : Setpoint) : List Octet := flag x.run ++ i16 x.dryBulb ++ i16 x.wetBulb

/-! ### Arbitration and sending (R97, R98, R100, R101) -/

/-- The line is free: UP, no exchange in flight, the silent wait ended (R97). -/
def PortRecord.lineFree (r : PortRecord) : Bool := r.state == .up && r.exchange.isNone && !r.silentWait

/-- The port begins an exchange: it drives the request frame of R82; the idle wait stops (R100). -/
def PortRecord.startExchange (r : PortRecord) (command : StationCommand) (address : Nat) (data : List Octet) : PortRecord :=
  { r with
    exchange := some { command := command, address := address,
                       request := stationFrame address command.code data, phase := .sending }
    idleWait := false
    healthDue := false }

/-- The station command of a sweep exchange. -/
def ProbeCommand.station : ProbeCommand → StationCommand
  | .read => .probeRead
  | .identify => .identify

/-- The waiting exchange that a kiln port with a free line sends: the controller exchange first, else the head of the
sweep queue (R98). -/
def PortRecord.sendOnKilnPort (r : PortRecord) (setpoint : Setpoint) : PortRecord :=
  if r.setpointDue then { r with setpointDue := false }.startExchange .setpoint 0 setpoint.data
  else
    match r.sweepQueue with
    | (address, command) :: rest => { r with sweepQueue := rest }.startExchange command.station address []
    | [] => r

/-- The waiting exchange that port 7 or 8 with a free line sends, else a health IDENTIFY that is due (R100, R101). -/
def PortRecord.sendOnDevicePort (r : PortRecord) : PortRecord :=
  match r.waiting with
  | some w => { r with waiting := none }.startExchange w.command 0 w.data
  | none => if r.healthDue then r.startExchange .identify 0 [] else r

/-- The port chooses a waiting exchange and sends it, when its line is free (R97). -/
def State.sendNext (s : State) (p : PortNo) : State :=
  if (s.port p).lineFree then
    match portKiln p with
    | some k => s.modifyPort p fun r => r.sendOnKilnPort (s.kiln k).setpoint
    | none => s.modifyPort p PortRecord.sendOnDevicePort
  else s

/-- The port's answers to a block that asks for an exchange (R97). -/
inductive PortAnswer where
  | taken
  | busy
  | notUp
deriving DecidableEq, Repr

/-- Port 7 or 8 holds an exchange of a block waiting or in flight; a health IDENTIFY is its own (R97, R100, R101). -/
def PortRecord.holdsBlockExchange (r : PortRecord) : Bool :=
  r.waiting.isSome ||
    match r.exchange with
    | some e => e.command != .identify
    | none => false

/-- The answer to a block that asks port 7 or 8 for an exchange (R97). -/
def PortRecord.answerTo (r : PortRecord) : PortAnswer :=
  if r.state != .up then .notUp else if r.holdsBlockExchange then .busy else .taken

/-- The exchange asked for becomes waiting, and is sent at once on a free line; with any other answer nothing is kept
(R97). -/
def State.askPort (s : State) (p : PortNo) (w : WaitingExchange) : State :=
  match (s.port p).answerTo with
  | .taken => (s.modifyPort p fun r => { r with waiting := some w }).sendNext p
  | .busy | .notUp => s

/-! ### Sweep operations (R99) -/

/-- The port accepts a plan: it is UP and its sweep queue is empty (R99). -/
def PortRecord.acceptsPlan (r : PortRecord) : Bool := r.state == .up && r.sweepQueue.isEmpty

/-- The plan enters the sweep queue, and its head is sent at once on a free line (R97, R99). -/
def State.putPlan (s : State) (p : PortNo) (plan : List (Nat × ProbeCommand)) : State :=
  (s.modifyPort p fun r => { r with sweepQueue := plan }).sendNext p

/-- The waiting exchange to an address is withdrawn (R99). -/
def State.withdraw (s : State) (p : PortNo) (address : Nat) : State :=
  s.modifyPort p fun r => { r with sweepQueue := r.sweepQueue.filter fun x => x.1 != address }

/-- The sweep queue is emptied (R99). -/
def State.discardSweep (s : State) (p : PortNo) : State := s.modifyPort p fun r => { r with sweepQueue := [] }

/-- The sweep exchange in flight on a port, if any (R116, R118). -/
def PortRecord.sweepInFlight (r : PortRecord) : Option (Nat × ProbeCommand) :=
  match r.exchange with
  | some e =>
    if e.address = 0 then none
    else
      match e.command with
      | .probeRead => some (e.address, .read)
      | .identify => some (e.address, .identify)
      | .setpoint | .meterSample | .labelPrint | .labelStatus => none
  | none => none

/-! ### Establishment (R90 to R92) -/

/-- An attempt begins with the wake pulse; its first IDENTIFY will be at 230.4 kbit/s (R90). -/
def PortRecord.beginAttempt (r : PortRecord) (number : Nat) : PortRecord :=
  { r with attempt := some number, wake := .pulse, nextRate := .r230, attemptGap := false }

/-- Establishment begins at attempt 1 (R90); any autoretry or re-establish wait is over. -/
def PortRecord.beginEstablishment (r : PortRecord) : PortRecord :=
  { r with state := .establishing, failureCount := 0, autoretryWait := false, reestablishWait := false }.beginAttempt 1

/-- The rate tried after one that failed (R90). -/
def FieldRate.next : FieldRate → Option FieldRate
  | .r230 => some .r57
  | .r57 => some .r19
  | .r19 => none

/-- The port sends the next IDENTIFY of its attempt, once the wake is over and the line silent; its rate is the current
rate from then on (R81, R90). -/
def PortRecord.sendIdentify (r : PortRecord) : PortRecord :=
  if r.state = .establishing ∧ r.wake = .none ∧ r.attemptGap = false ∧ r.silentWait = false ∧ r.exchange = none then
    { r with tryRate := r.nextRate }.startExchange .identify 0 []
  else r

/-- The port record as it enters UP, on a kiln port with the controller interval's length (R92). -/
def PortRecord.enterUp (r : PortRecord) (identity : Identity) (controllerInterval : Option Nat) : PortRecord :=
  { r with
    state := .up
    rate := some r.tryRate
    identity := some identity
    attempt := none
    failureCount := 0
    lineFaultCount := 0
    counters := { r.counters with establishments := bump r.counters.establishments }
    setpointDue := controllerInterval.isSome
    controllerInterval := controllerInterval
    idleWait := controllerInterval.isNone }

/-- Kiln k's controller interval in milliseconds, as its configuration holds it (R56, R98). -/
def State.controllerIntervalOf (s : State) (k : KilnNo) : Nat := (s.kiln k).config.controllerInterval * 1000

/-- The port enters UP and reports "port up" to its blocks (R92). Port 7's report has no effect at the tracker
and is not listed: DEDUCED, unsafe, log entry 6. -/
def State.enterUp (s : State) (p : PortNo) (identity : Identity) : State :=
  match portKiln p with
  | some k =>
    ((s.modifyPort p fun r => r.enterUp identity (some (s.controllerIntervalOf k))).report (.kilnPortUp k)).report
      (.probePortUp k)
  | none =>
    let s := s.modifyPort p fun r => r.enterUp identity none
    if p = labelPort then s.report .labelPortUp else s

/-- The port enters DOWN, posts PORT_DOWN, and waits 60 s when auto re-establish is on (R91, R96). A silent wait that
runs goes on: log entry 40. -/
def State.enterDown (s : State) (p : PortNo) : State :=
  (s.modifyPort p fun r =>
    { r with state := .down, attempt := none, exchange := none, wake := .none,
             attemptGap := false, reestablishWait := r.autoReestablish }).postPortDown p

/-! ### Leaving UP (R94) -/

/-- Both readbacks of kiln k marked not valid (R4, R74). -/
def State.loseReadbacks (s : State) (k : KilnNo) : State :=
  s.modifyKiln k fun r => { r with dryValid := false, wetValid := false }

/-- The port record as it has left UP: intervals stopped, rate absent, waiting exchanges discarded (R94). -/
def PortRecord.clearUp (r : PortRecord) : PortRecord :=
  { r with rate := none, controllerInterval := none, idleWait := false, healthDue := false, setpointDue := false,
           sweepQueue := [], waiting := none }

/-- The port reports that it has left UP (R94). From that moment no readback of its kiln is valid (R4): log entry 38. -/
def State.reportLeftUp (s : State) (p : PortNo) : State :=
  match portKiln p with
  | some k => ((s.loseReadbacks k).report (.controllerLost k)).report (.probePortLeftUp k)
  | none => if p = meterPort then s.report .meterPortLeftUp else s.report .labelPortLeftUp

end Sys2Proof.Machine
end

