-- ==== Sys2Proof/Machine/KilnOps.lean ====
section
/-!
DEFINITION. The kiln supervisor's operations (04_kiln_supervision.md): holds, the ramp, step advance and completion, the minute event,
controller replies, sweep results, loss of the controller, recovery.
-/
namespace Sys2Proof.Machine

/-! ### The current step (R28) -/

/-- The schedule a kiln's charge names, when present. -/
def State.kilnSchedule (s : State) (k : KilnNo) : Option Schedule :=
  match (s.kiln k).charge with
  | some c => s.schedule c.schedule
  | none => none

/-- The step at the kiln's step index. Where the schedule has no step there, which R80 leaves open, READ-KILN shows the
step's fields absent: DESIGN CHOICE, unsafe, log entry 37. -/
def State.currentStep (s : State) (k : KilnNo) : Option Step :=
  match s.kilnSchedule k with
  | some sch => sch.steps[(s.kiln k).stepIndex]?
  | none => none

/-! ### Hold reasons (R58) -/

/-- The kiln record with another hold set, and the change of state it brings in RUNNING or HELD (R58). -/
def KilnRecord.withHolds (r : KilnRecord) (holds : HoldSet) : KilnRecord :=
  { r with
    holds := holds
    state :=
      match r.state with
      | .running => if holds.isEmpty then .running else .held
      | .held => if holds.isEmpty then .running else .held
      | .empty => .empty
      | .loaded => .loaded
      | .faultHold => .faultHold
      | .complete => .complete
      | .recovery => .recovery }

/-- The kiln's hold set becomes another: a change writes a snapshot (R58, R76). -/
def State.setHolds (s : State) (k : KilnNo) (holds : HoldSet) : State :=
  if (s.kiln k).holds = holds then s
  else (s.modifyKiln k fun r => r.withHolds holds).writeSnapshot k

/-! ### Step advance and completion (R67, R68) -/

/-- The kiln completes its schedule (R68). -/
def State.completeKiln (s : State) (k : KilnNo) : State :=
  let mc := (s.kiln k).controllingMc
  let s :=
    match (s.kiln k).charge with
    | some c => s.recordFinalMc c.number mc
    | none => s
  (((s.modifyKiln k fun r => { r with state := .complete }).postChargeDried k)).writeSnapshot k

/-- The step advances, by overtime or not; at the last step the schedule completes (R67, R68). A kiln whose schedule is
absent cannot be here (R36): log entry 23. -/
def State.advanceStep (s : State) (k : KilnNo) (overtime : Bool) : State :=
  match s.kilnSchedule k with
  | none => s
  | some sch =>
    if (s.kiln k).stepIndex + 1 < sch.steps.length then
      ((s.modifyKiln k fun r =>
        { r with stepIndex := r.stepIndex + 1, stepElapsed := 0, overtimeDisarmed := false }).postKilnStep k
          overtime).writeSnapshot k
    else s.completeKiln k

/-! ### The minute event (R64 to R66) -/

/-- A value moved toward its target by at most the rate (R65). -/
def rampToward (current target rate : Nat) : Nat :=
  if current < target then min target (current + rate) else max target (current - rate)

/-- The minute's count and ramp in RUNNING (R65). -/
def KilnRecord.rampMinute (r : KilnRecord) (step : Step) : KilnRecord :=
  { r with
    stepElapsed := bump r.stepElapsed
    dryBulb := rampToward r.dryBulb step.target step.ramp
    depression := rampToward r.depression step.depression step.ramp }

/-- The test of the step's end by time, after the ramp (R66). -/
def State.testStepTime (s : State) (k : KilnNo) (step : Step) : State :=
  let r := s.kiln k
  if step.rule = .time ∧ step.threshold ≤ r.stepElapsed then s.advanceStep k false
  else if r.overtimeDisarmed = false ∧ step.maximum ≤ r.stepElapsed then
    match step.action with
    | .advance => s.advanceStep k true
    | .hold =>
      ((s.modifyKiln k fun r => r.withHolds { r.holds with overtime := true }).postKilnStep k true).writeSnapshot k
  else s

/-- The minute's work of a RUNNING kiln (R65, R66). -/
def State.runMinute (s : State) (k : KilnNo) : State :=
  match s.currentStep k with
  | some step => (s.modifyKiln k fun r => r.rampMinute step).testStepTime k step
  | none => s

/-- The minute event at kiln k (R64). -/
def State.kilnMinute (s : State) (k : KilnNo) : State :=
  if (s.kiln k).state = .empty then s
  else
    let s := s.modifyKiln k fun r => { r with totalMinutes := bump r.totalMinutes }
    let s := if (s.kiln k).state = .running then s.runMinute k else s
    if (s.kiln k).totalMinutes % 10 = 0 then s.writeSnapshot k else s

/-- The delivery of a minute event to kiln k: the minute count is the number of minute boundaries since the reset, each of
which delivers one event to each kiln (R162). DEDUCED, unsafe: log entry 7. -/
def State.deliverMinute (s : State) (k : KilnNo) : State :=
  let s := s.modifyKiln k fun r => { r with minuteEvents := bump r.minuteEvents }
  { s with minuteCount := max s.minuteCount (s.kiln k).minuteEvents }

/-! ### Controller replies (R59, R70) -/

/-- The hold set made to agree with the controller's flags (R59). -/
def HoldSet.agree (h : HoldSet) (c : ControllerStatus) : HoldSet :=
  { h with door := c.door, localControl := c.localControl, alarm := c.alarm }

/-- The dry-bulb advance test at a controller reply in RUNNING (R70). -/
def State.testDryBulb (s : State) (k : KilnNo) : State :=
  match s.currentStep k with
  | some step =>
    if step.rule = .dryBulbReached ∧ (step.target : Int) - 20 ≤ (s.kiln k).dryReadback ∧
        (s.kiln k).dryBulb = step.target then
      s.advanceStep k false
    else s
  | none => s

/-- A GOOD SETPOINT reply taken into the kiln record (R59). -/
def State.takeControllerReply (s : State) (k : KilnNo) (dry wet : Int) (status : ControllerStatus) : State :=
  let s := s.modifyKiln k fun r =>
    { r with dryReadback := dry, dryValid := true, wetReadback := wet, wetValid := true, status := status }
  let s := if (s.kiln k).state = .empty then s else s.setHolds k ((s.kiln k).holds.agree status)
  if (s.kiln k).state = .running then s.testDryBulb k else s

/-- The outcome of a SETPOINT exchange: GOOD is taken, any other leaves the record as it was (R59). The data are two
temperatures and the flags octet (R199). -/
def State.setpointOutcome (s : State) (k : KilnNo) (outcome : ExchangeOutcome) (reply : StationReply) : State :=
  match outcome, reply.data with
  | .good, [d0, d1, w0, w1, f] =>
    s.takeControllerReply k (int16 d0 d1) (int16 w0 w1)
      { door := f.getLsbD 0, localControl := f.getLsbD 1, alarm := f.getLsbD 2 }
  | _, _ => s

/-! ### Sweep results (R69) -/

/-- The moisture tests of a RUNNING kiln at a sweep result (R69). -/
def State.testMoisture (s : State) (k : KilnNo) : State :=
  match s.currentStep k with
  | some step =>
    match step.rule with
    | .mcAtOrBelow =>
      match (s.kiln k).controllingMc with
      | .value mc => if mc ≤ step.threshold then s.advanceStep k false else s
      | .invalid | .absent => s
    | .spreadAtOrBelow =>
      match (s.kiln k).spread with
      | some spread => if spread ≤ step.threshold then s.advanceStep k false else s
      | none => s
    | .time | .dryBulbReached => s
  | none => s

/-- A sweep result stored, MOISTURE_INVALID posted when the controlling MC turns INVALID, and the step tested in RUNNING
(R17, R69). None arrives for an EMPTY kiln, whose record keeps its EMPTY values: log entry 21. -/
def State.takeSweepResult (s : State) (k : KilnNo) (result : SweepResult) : State :=
  if (s.kiln k).state = .empty then s
  else
    let turned := result.controllingMc == .invalid && (s.kiln k).controllingMc != .invalid
    let s := s.modifyKiln k fun r =>
      { r with controllingMc := result.controllingMc, spread := result.spread, driest := result.driest }
    let s := if turned then s.postMoistureInvalid k else s
    if (s.kiln k).state = .running then s.testMoisture k else s

/-! ### Loss of the controller (R74, R75) -/

/-- The state a kiln in FAULT_HOLD returns to: the remembered one, adjusted by the hold set (R75). -/
def KilnRecord.returnState (r : KilnRecord) (remembered : KilnState) : KilnState :=
  match remembered with
  | .running => if r.holds.isEmpty then .running else .held
  | .held => if r.holds.isEmpty then .running else .held
  | .empty => .empty
  | .loaded => .loaded
  | .faultHold => .faultHold
  | .complete => .complete
  | .recovery => .recovery

/-- The kiln supervisor takes "controller lost" (R74). -/
def State.takeControllerLost (s : State) (k : KilnNo) : State :=
  let s := s.loseReadbacks k
  match (s.kiln k).state with
  | .empty | .faultHold => s
  | .loaded | .running | .held | .complete | .recovery =>
    (s.modifyKiln k fun r => { r with remembered := some r.state, state := .faultHold }).postKilnFault k

/-- A report of kiln k to the kiln supervisor. -/
def Report.ofKiln (k : KilnNo) (r : Report) : Bool := r == .controllerLost k || r == .kilnPortUp k

/-- With a "port up" of kiln k taken, the loss that came after it has been taken before it (R75). Losses and "port up"s come
in turn (R94), so it has been when the oldest report left is the next "port up", or none is left and the port is not
UP. -/
def State.lossOvertook (s : State) (k : KilnNo) : Bool :=
  match s.reports.find? (Report.ofKiln k) with
  | some r => r == .kilnPortUp k
  | none => (s.port (kilnPort k)).state != .up

/-- The kiln supervisor takes "port up" (R75). When the loss that came after it has already been taken, the kiln returns
and is put back in FAULT_HOLD with the same remembered state: DEDUCED, unsafe, log entry 6. -/
def State.takeKilnPortUp (s : State) (k : KilnNo) : State :=
  let r := s.kiln k
  match r.state, r.remembered with
  | .faultHold, some remembered =>
    if s.lossOvertook k then s.postKilnFault k
    else s.setKiln k { r with state := r.returnState remembered, remembered := none }
  | _, _ => s

/-! ### The EMPTY record and recovery (R55, R73, R77) -/

/-- The kiln record at the EMPTY values, keeping the readbacks, the controller status and the configuration (R73). -/
def KilnRecord.emptied (r : KilnRecord) : KilnRecord :=
  { KilnRecord.initial with
    dryReadback := r.dryReadback, dryValid := r.dryValid, wetReadback := r.wetReadback, wetValid := r.wetValid,
    status := r.status, config := r.config, minuteEvents := r.minuteEvents }

/-- The kiln record that recovery sets from a snapshot (R77). -/
def KilnRecord.recovered (r : KilnRecord) (x : Snapshot) : KilnRecord :=
  { r with
    state := .recovery
    charge := some x.charge
    stepIndex := x.stepIndex
    stepElapsed := x.stepElapsed
    totalMinutes := x.totalMinutes
    dryBulb := x.dryBulb
    depression := x.depression
    overtimeDisarmed := x.overtimeDisarmed
    holds := { HoldSet.empty with
      host := x.host || (!x.running && !x.overtime)
      overtime := x.overtime }
    remembered := none
    dryValid := false
    wetValid := false
    status := { door := false, localControl := false, alarm := false }
    controllingMc := .absent
    spread := none
    driest := none }

/-- Kiln k is recovered when its snapshot is valid: the charge rebuilt, the record set, RECOVERY posted (R54, R77,
R172). -/
def State.recoverKiln (s : State) (k : KilnNo) : State :=
  match s.snapshot k with
  | some x =>
    ((s.addCharge (.rebuilt k x s.stamp)).modifyKiln k fun r => r.recovered x).postRecovery k
  | none => s

/-- The six kilns, in ascending number. -/
def allKilns : List KilnNo := [0, 1, 2, 3, 4, 5]

/-- Every kiln whose snapshot is valid is recovered (R172). -/
def State.recoverKilns (s : State) : State := allKilns.foldl State.recoverKiln s

end Sys2Proof.Machine
end

