-- ==== Sys2Proof/Machine/ProbeOps.lean ====
section
/-!
DEFINITION. The probe unit's operations (06_probes_and_sweeps.md): events, identity resolution, readings and misses, planning, dropping,
completion, abort, loading and unloading.
-/
namespace Sys2Proof.Machine

/-! ### The tables (R104, R106) -/

/-- The canonical key of a presence entry: port, then address. -/
def PresenceEntry.place (e : PresenceEntry) : Nat := e.port.val * 32 + e.address

/-- The key of a place. -/
def placeOf (k : KilnNo) (address : Nat) : Nat := k.val * 32 + address

/-- The assignment entry of a serial. -/
def State.assignment (s : State) (serial : Nat) : Option Assignment := findBy Assignment.serial serial s.assignments

/-- The presence entry of a serial. -/
def State.presenceOf (s : State) (serial : Nat) : Option PresenceEntry :=
  findBy PresenceEntry.serial serial s.presence

/-- The presence entry at a place. -/
def State.presenceAt (s : State) (k : KilnNo) (address : Nat) : Option PresenceEntry :=
  findBy PresenceEntry.place (placeOf k address) s.presence

/-- A presence entry stored at its place. -/
def State.putPresence (s : State) (e : PresenceEntry) : State :=
  { s with presence := insertBy PresenceEntry.place e s.presence }

/-- The presence entry at a place removed. -/
def State.removePresence (s : State) (k : KilnNo) (address : Nat) : State :=
  { s with presence := eraseBy PresenceEntry.place (placeOf k address) s.presence }

/-- Every presence entry of port n removed (R122). -/
def State.clearPresence (s : State) (k : KilnNo) : State :=
  { s with presence := s.presence.filter fun e => e.port != k }

/-! ### Probe events (R119) -/

/-- An event added to kiln k's set; from empty, the kiln is posted to PROBE_CHANGE (R119). -/
def State.addProbeEvent (s : State) (k : KilnNo) (event : ProbeEvent) : State :=
  let wasEmpty := (s.sweep k).events.isEmpty
  let s := s.modifySweep k fun r => { r with events := r.events.add event }
  if wasEmpty then s.postProbeChange k else s

/-! ### Completion (R117) -/

/-- The selection over port k's entries as they now stand (R14 to R16). -/
def State.selection (s : State) (k : KilnNo) : SweepResult :=
  select (candidateValues s.presence k) (s.kiln k).config.wetCount (s.kiln k).config.minimumProbes

/-- The sweep of kiln k completes: IDLE, and its result to the kiln supervisor (R117). -/
def State.completeSweep (s : State) (k : KilnNo) : State :=
  let s := s.modifySweep k fun r => { r with kind := none }
  s.takeSweepResult k (s.selection k)

/-- The sweep completes when it is SWEEPING with nothing outstanding (R111, R116, R117). -/
def State.completeIfDone (s : State) (k : KilnNo) : State :=
  if (s.sweep k).kind.isSome && (s.sweep k).outstanding.isEmpty then s.completeSweep k else s

/-! ### Dropping a planned exchange (R116) -/

/-- The planned exchange to an address of kiln k is dropped; the completion it may bring is taken by the caller, after
the event that caused the drop (R116). -/
def State.dropPlanned (s : State) (k : KilnNo) (address : Nat) : State :=
  match (s.sweep k).outstanding.find? fun x => x.1 == address with
  | some pair =>
    if (s.sweep k).kind.isSome then
      let inFlight := (s.port (kilnPort k)).sweepInFlight == some pair
      ((s.modifySweep k fun r =>
        { r with outstanding := r.outstanding.erase pair
                 discard := if inFlight then some pair else r.discard }).withdraw (kilnPort k) address)
    else s
  | none => s

/-! ### Identity resolution (R112, R113) -/

/-- What the assignment table and the configuration make of a serial heard on port k: a role with its source, or
FOREIGN (R113). -/
def State.resolveRole (s : State) (k : KilnNo) (serial : Nat) : Option (ProbeRole × RoleSource) :=
  match s.assignment serial with
  | some a => if a.kiln = k then some (a.role, .assigned) else none
  | none =>
    if (s.kiln k).config.learning then
      some (if (s.kiln k).config.learnMonitor then .monitor else .control, .learned)
    else some (.monitor, .learned)

/-- A presence entry at creation (R106), its role resolved (R113). -/
def PresenceEntry.created (serial : Nat) (k : KilnNo) (address : Nat)
    (resolved : Option (ProbeRole × RoleSource)) : PresenceEntry :=
  { serial := serial, port := k, address := address, state := if resolved.isSome then .active else .foreign,
    role := resolved.map Prod.fst, source := resolved.map Prod.snd, missCount := 0, lastClass := none, lastL := none,
    lastMc := none, lastFlags := .none, smoothed := none, suspectCount := 0 }

/-- The role resolved afresh for an existing entry (R113), with the event it brings. -/
def PresenceEntry.resolved (e : PresenceEntry) (resolved : Option (ProbeRole × RoleSource)) :
    PresenceEntry × Option ProbeEvent :=
  match resolved with
  | none =>
    if e.state = .foreign then (e, none)
    else
      ({ e with state := .foreign, role := none, source := none, smoothed := none, lastMc := none,
                suspectCount := 0, missCount := 0 }, some .moved)
  | some (role, source) =>
    if e.state = .foreign then ({ e with state := .active, role := some role, source := some source }, some .new)
    else ({ e with role := some role, source := some source }, none)

/-- Step 1 of R112: the serial's entry at another place is removed and its planned exchange dropped. -/
def State.leaveOldPlace (s : State) (k : KilnNo) (address serial : Nat) : State :=
  match s.presenceOf serial with
  | some e =>
    if e.port = k ∧ e.address = address then s
    else
      let s := (s.removePresence e.port e.address).dropPlanned e.port e.address
      if e.port = k then s.addProbeEvent k .swapped else s.addProbeEvent e.port .moved
  | none => s

/-- Step 2 of R112: another serial's entry at the address is removed. -/
def State.leavePlace (s : State) (k : KilnNo) (address serial : Nat) : State :=
  match s.presenceAt k address with
  | some e => if e.serial = serial then s else (s.removePresence k address).addProbeEvent k .swapped
  | none => s

/-- Steps 3 to 5 of R112: the entry at the address, resolved afresh, or a new one where there is room. -/
def State.settleEntry (s : State) (k : KilnNo) (address serial : Nat) : State :=
  let resolved := s.resolveRole k serial
  match s.presenceAt k address with
  | some e =>
    let (entry, event) := e.resolved resolved
    let s := s.putPresence entry
    match event with
    | some event => s.addProbeEvent k event
    | none => s
  | none =>
    if Config.presenceCapacity ≤ s.presence.length then s.addProbeEvent k .tableFull
    else
      (s.putPresence (.created serial k address resolved)).addProbeEvent k
        (if resolved.isSome then .new else .moved)

/-- Identity resolution of a serial heard on port k at an address (R112, R113). -/
def State.resolveIdentity (s : State) (k : KilnNo) (address serial : Nat) : State :=
  ((s.leaveOldPlace k address serial).leavePlace k address serial).settleEntry k address serial

/-! ### Readings and misses (R114, R115) -/

/-- A miss added to the entry, which may make it LOST (R115). -/
def PresenceEntry.miss (e : PresenceEntry) (lossLimit : Nat) : PresenceEntry × Bool :=
  let count := if e.missCount < 255 then e.missCount + 1 else e.missCount
  if e.state = .active ∧ lossLimit ≤ count then ({ e with missCount := count, state := .lost }, true)
  else ({ e with missCount := count }, false)

/-- A miss counted to the entry at (k, address), when one is present and not FOREIGN (R115). -/
def State.countMiss (s : State) (k : KilnNo) (address : Nat) : State :=
  match s.presenceAt k address with
  | some e =>
    if e.state = .foreign then s
    else
      let (entry, lost) := e.miss (s.kiln k).config.lossLimit
      let s := s.putPresence entry
      if lost then s.addProbeEvent k .lost else s
  | none => s

/-- A USABLE reading recorded and smoothed: a LOST entry returns to ACTIVE with S cleared first (R9, R10, R114). -/
def PresenceEntry.takeUsable (e : PresenceEntry) (reading : Reading) (mc shift jumpLimit : Nat) : PresenceEntry :=
  let lost := e.state == .lost
  let x := smooth (if lost then none else e.smoothed) (if lost then 0 else e.suspectCount) mc shift jumpLimit
  { e with
    state := .active
    missCount := 0
    lastClass := some reading.cls
    lastL := some reading.lCode
    lastMc := some mc
    lastFlags := { reading.flags with suspect := x.suspect, reseeded := x.reseeded }
    smoothed := some x.value
    suspectCount := x.suspectCount }

/-- A reading of any other class recorded; S and the suspect count stay (R9, R114). -/
def PresenceEntry.takeUnusable (e : PresenceEntry) (reading : Reading) : PresenceEntry :=
  { e with lastClass := some reading.cls, lastL := some reading.lCode, lastMc := none, lastFlags := reading.flags }

/-- The reading result recorded in the entry at (k, address) (R114). -/
def State.recordReading (s : State) (k : KilnNo) (e : PresenceEntry) (reading : Reading) : State :=
  match reading.cls, reading.mc with
  | .usable, some mc =>
    let s := s.putPresence
      (e.takeUsable reading mc (s.kiln k).config.smoothingShift (s.kiln k).config.jumpLimit)
    if e.state = .lost then s.addProbeEvent k .recovered else s
  | .noCurve, _ => s.putPresence (e.takeUnusable reading)
  | .usable, none | .faulted, _ | .short, _ | .openLead, _ =>
    (s.putPresence (e.takeUnusable reading)).countMiss k e.address

/-- The species entry that converts a probe reading of kiln k: that of the charge in state KILN that names the kiln
(R2). Without such a charge, which the spec rules out, there is no curve: log entry 22. -/
def State.probeSpecies (s : State) (k : KilnNo) : Option SpeciesEntry :=
  match s.kilnCharge k with
  | some c => s.speciesEntry c.species
  | none => none

/-- The dry-bulb readback a probe reading is converted at, when valid (R2, R4). -/
def State.probeTemperature (s : State) (k : KilnNo) : Option Int :=
  if (s.kiln k).dryValid then some (s.kiln k).dryReadback else none

/-- A GOOD PROBE-READ gives a reading to the entry it settled, unless that is absent or FOREIGN (R114). -/
def State.probeReading (s : State) (k : KilnNo) (address lCode : Nat) (fault : Bool) : State :=
  match s.presenceAt k address with
  | some e =>
    if e.state = .foreign then s
    else s.recordReading k e (convert lCode fault (s.probeTemperature k) (s.probeSpecies k))
  | none => s

/-! ### Outcomes of sweep exchanges (R111) -/

/-- The serial of a GOOD outcome's reply that identity resolution takes; an IDENTIFY reply of another kind than a probe's
has none (R112, R199). -/
def replySerial (command : ProbeCommand) (data : List Octet) : Option Nat :=
  match command, data with
  | .read, [a, b, c, d, _, _, _] => some (num32 a b c d)
  | .identify, [kind, a, b, c, d, _, _] => if kind = 0x02 then some (num32 a b c d) else none
  | _, _ => none

/-- The L-code and measurement fault of a PROBE-READ reply (R199). -/
def replyReading (data : List Octet) : Option (Nat × Bool) :=
  match data with
  | [_, _, _, _, l0, l1, status] => some (num16 l0 l1, status.getLsbD 0)
  | _ => none

/-- A GOOD outcome handled (R112 to R114). -/
def State.goodProbeOutcome (s : State) (k : KilnNo) (address : Nat) (command : ProbeCommand) (data : List Octet) :
    State :=
  match replySerial command data with
  | none => s
  | some serial =>
    let s := s.resolveIdentity k address serial
    match command, replyReading data with
    | .read, some (lCode, fault) => s.probeReading k address lCode fault
    | _, _ => s

/-- An outcome matched with the outstanding list is handled (R111). -/
def State.handleProbeOutcome (s : State) (k : KilnNo) (address : Nat) (command : ProbeCommand)
    (outcome : ExchangeOutcome) (data : List Octet) : State :=
  match outcome, command with
  | .good, _ => s.goodProbeOutcome k address command data
  | _, .read => s.countMiss k address
  | _, .identify => s

/-- The kiln that a GOOD outcome's serial leaves, when it stood on another port: a drop there may complete that kiln's
sweep (R112, R116). -/
def State.leftKiln (s : State) (k : KilnNo) (command : ProbeCommand) (outcome : ExchangeOutcome)
    (data : List Octet) : Option KilnNo :=
  match outcome, replySerial command data with
  | .good, some serial =>
    match s.presenceOf serial with
    | some e => if e.port = k then none else some e.port
    | none => none
  | _, _ => none

/-- The outcome of a sweep exchange (R111): ignored against the discard mark or when it is not outstanding, else handled;
then the sweep may complete, and after the whole event the sweep of a kiln whose planned exchange was dropped
(R116). -/
def State.probeOutcome (s : State) (k : KilnNo) (address : Nat) (command : ProbeCommand) (outcome : ExchangeOutcome)
    (data : List Octet) : State :=
  if (s.sweep k).discard = some (address, command) then s.modifySweep k fun r => { r with discard := none }
  else if (address, command) ∈ (s.sweep k).outstanding then
    let other := s.leftKiln k command outcome data
    let s := s.modifySweep k fun r => { r with outstanding := r.outstanding.erase (address, command) }
    let s := (s.handleProbeOutcome k address command outcome data).completeIfDone k
    match other with
    | some j => s.completeIfDone j
    | none => s
  else s

/-! ### Planning (R110) -/

/-- The addresses 1..24. -/
def probeAddresses : List Nat := (List.range 24).map (· + 1)

/-- The reads of a plan: entries ACTIVE or LOST whose role is not EXCLUDED, in ascending address (R110). -/
def State.plannedReads (s : State) (k : KilnNo) : List (Nat × ProbeCommand) :=
  probeAddresses.filterMap fun a =>
    match s.presenceAt k a with
    | some e => if e.state ≠ .foreign ∧ e.role ≠ some .excluded then some (a, .read) else none
    | none => none

/-- The address is a discovery address (R110). -/
def State.discoveryAddress (s : State) (k : KilnNo) (address : Nat) : Bool :=
  match s.presenceAt k address with
  | some e => e.state == .foreign || e.role == some .excluded
  | none => true

/-- The address after one, 24 being followed by 1 (R110). -/
def nextAddress (a : Nat) : Nat := if 24 ≤ a then 1 else a + 1

/-- The addresses from the cursor upward, once round (R110). -/
def addressesFrom (cursor : Nat) : List Nat :=
  probeAddresses.filter (fun a => decide (cursor ≤ a)) ++ probeAddresses.filter (fun a => decide (a < cursor))

/-- The discovery addresses of a FULL plan. -/
def State.fullDiscovery (s : State) (k : KilnNo) : List Nat := probeAddresses.filter (s.discoveryAddress k)

/-- The discovery addresses of a REGULAR plan with learning on: the first four from the cursor (R110). -/
def State.regularDiscovery (s : State) (k : KilnNo) : List Nat :=
  ((addressesFrom (s.sweep k).cursor).filter (s.discoveryAddress k)).take 4

/-- The kind of the next plan, its discovery addresses, and the cursor it leaves (R110). -/
def State.planDiscovery (s : State) (k : KilnNo) : SweepKind × List Nat × Nat :=
  let cursor := (s.sweep k).cursor
  if (s.sweep k).fullScan then (.full, s.fullDiscovery k, cursor)
  else if (s.kiln k).config.learning then
    let taken := s.regularDiscovery k
    (.regular, taken, match taken.getLast? with | some a => nextAddress a | none => cursor)
  else (.regular, [], cursor)

/-- The plan of kiln k's next sweep: reads, then discovery (R110). -/
def State.sweepPlan (s : State) (k : KilnNo) : List (Nat × ProbeCommand) :=
  s.plannedReads k ++ (s.planDiscovery k).2.1.map fun a => (a, .identify)

/-- A sweep is planned for kiln k (R110). An empty plan is complete at once (R117). A plan the port does not take leaves
the sweep IDLE and restores the full-scan flag; "busy", which comes only after a late "port left UP", is taken as "port
not UP" (DESIGN CHOICE, unsafe: log entries 20, 32 and 39). -/
def State.planSweep (s : State) (k : KilnNo) : State :=
  let plan := s.sweepPlan k
  let (kind, _, cursor) := s.planDiscovery k
  if plan.isEmpty then
    (s.modifySweep k fun r => { r with kind := some kind, outstanding := [], fullScan := false,
                                       cursor := cursor }).completeSweep k
  else if (s.port (kilnPort k)).acceptsPlan then
    (s.modifySweep k fun r => { r with kind := some kind, outstanding := plan, fullScan := false,
                                       cursor := cursor }).putPlan (kilnPort k) plan
  else s.modifySweep k fun r => { r with cursor := cursor }

/-! ### Abort, loading and unloading (R118, R122) -/

/-- The sweep record after an abort: a FULL sweep sets the full-scan flag again (R118). -/
def SweepRecord.aborted (r : SweepRecord) : SweepRecord :=
  { r with kind := none, outstanding := [], fullScan := r.fullScan || r.kind == some .full }

/-- The abort that "port left UP" brings (R118). -/
def State.abortSweep (s : State) (k : KilnNo) : State := s.modifySweep k SweepRecord.aborted

/-- The abort that unloading brings: the port's sweep queue discarded, a sweep exchange in flight marked (R118). -/
def State.abortForUnload (s : State) (k : KilnNo) : State :=
  if (s.sweep k).kind.isSome then
    let inFlight := (s.port (kilnPort k)).sweepInFlight
    (s.modifySweep k fun r =>
      { r.aborted with discard := if inFlight.isSome then inFlight else r.discard }).discardSweep (kilnPort k)
  else s

/-- The probe unit is told that kiln k has been loaded (R122). -/
def State.probesLoaded (s : State) (k : KilnNo) : State :=
  (s.clearPresence k).modifySweep k fun r => { r with events := .empty, fullScan := true, cursor := 1 }

/-- The probe unit is told that kiln k has been unloaded (R122). -/
def State.probesUnloaded (s : State) (k : KilnNo) : State :=
  ((s.abortForUnload k).clearPresence k).modifySweep k fun r => { r with events := .empty }

/-- A sweep is due for kiln k at an expiry: the states of R108 and the sweep IDLE. -/
def State.sweepDue (s : State) (k : KilnNo) : Bool :=
  (s.sweep k).kind.isNone &&
    match (s.kiln k).state with
    | .loaded | .running | .held | .complete | .recovery => true
    | .empty | .faultHold => false

/-- Kiln k's sweep interval in milliseconds, as its configuration holds it (R56, R108). -/
def State.sweepIntervalOf (s : State) (k : KilnNo) : Nat := (s.kiln k).config.sweepInterval * 60000

end Sys2Proof.Machine
end

