-- ==== Sys2Proof/Machine/LabelOps.lean ====
section
/-!
DEFINITION. The label unit's operations (R155 to R158): starting the current job, the outcomes of the label exchanges, confirmation
and fault.
-/
namespace Sys2Proof.Machine

/-- The closed pack record of a serial (R152). -/
def State.pack (s : State) (serial : Nat) : Option PackRecord := findBy PackRecord.serial serial s.packs

/-- The closed pack record of a serial changed. -/
def State.modifyPack (s : State) (serial : Nat) (f : PackRecord → PackRecord) : State :=
  { s with packs := updateBy PackRecord.serial serial f s.packs }

/-- The closed pack record of the current job (R155). -/
def State.currentRecord (s : State) : Option PackRecord :=
  match s.label.jobs.head? with
  | some serial => s.pack serial
  | none => none

/-! ### Asking port 8 (R156) -/

/-- The port's answer to the label unit. -/
def State.labelAnswer (s : State) : PortAnswer := (s.port labelPort).answerTo

/-- The label unit asks port 8 for a LABEL-PRINT of a record; it is outstanding when the port takes it (R155, R156). -/
def State.askPrint (s : State) (record : PackRecord) : State :=
  match s.labelAnswer with
  | .taken =>
    (s.modifyLabel fun l => { l with outstanding := some { status := false, stale := false } }).askPort labelPort
      { command := .labelPrint, data := record.labelContent }
  | .busy | .notUp => s

/-- The label unit asks port 8 for a LABEL-STATUS; it is outstanding when the port takes it (R155, R156). -/
def State.askStatus (s : State) : State :=
  match s.labelAnswer with
  | .taken =>
    (s.modifyLabel fun l => { l with outstanding := some { status := true, stale := false } }).askPort labelPort
      { command := .labelStatus, data := [] }
  | .busy | .notUp => s

/-- The job at the head is started when it is UNSTARTED and no exchange is outstanding; unless the port takes its
LABEL-PRINT it stays UNSTARTED (R156). Log entry 19. -/
def State.startCurrent (s : State) : State :=
  match s.label.phase, s.label.outstanding, s.currentRecord, s.labelAnswer with
  | some .unstarted, none, some record, .taken =>
    (s.modifyLabel fun l => { l with phase := some .print, timeout := some (l.timeoutSetting * 1000) }).askPrint record
  | _, _, _, _ => s

/-! ### The label queue (R155) -/

/-- A job joins the tail; in an empty queue it becomes current, UNSTARTED (R155). -/
def LabelUnit.append (l : LabelUnit) (serial : Nat) : LabelUnit :=
  { l with jobs := l.jobs ++ [serial], phase := if l.jobs.isEmpty then some .unstarted else l.phase }

/-- A label job for a serial is queued; in an empty queue it is started at once (R153, R156, R159). -/
def State.appendJob (s : State) (serial : Nat) : State :=
  let wasEmpty := s.label.jobs.isEmpty
  let s := s.modifyLabel fun l => l.append serial
  if wasEmpty then s.startCurrent else s

/-- The current job leaves: the pause and the label timeout stop, the next job becomes current and UNSTARTED (R157,
R158). -/
def LabelUnit.finishJob (l : LabelUnit) : LabelUnit :=
  { l with
    jobs := l.jobs.tail
    phase := if l.jobs.tail.isEmpty then none else some .unstarted
    pause := false
    timeout := none }

/-! ### Settling a record (R157 to R159) -/

/-- The bay of a record returns to EMPTY and every contributor's reference is dropped (R157, R159). -/
def State.freeBay (s : State) (record : PackRecord) : State :=
  record.contributors.foldl (fun s c => s.dropReference c.1) (s.modifyBay record.bay fun b => { b with state := .empty })

/-- The current job is CONFIRMED (R157). -/
def State.confirmLabel (s : State) (record : PackRecord) : State :=
  (((s.modifyPack record.serial fun r => { r with label := .confirmed }).modifyLabel LabelUnit.finishJob).freeBay
    record).startCurrent

/-- An outstanding exchange gets the stale mark (R158). -/
def LabelUnit.markStale (l : LabelUnit) : LabelUnit :=
  { l with outstanding := l.outstanding.map fun x => { x with stale := true } }

/-- The current job goes to FAULT with a reason, after a MISMATCH with the scan-back (R158). -/
def State.faultLabel (s : State) (record : PackRecord) (reason : LabelFaultReason) (scanBack : Option (List Octet)) :
    State :=
  ((((s.modifyPack record.serial fun r => { r with label := .fault reason, scanBack := scanBack }).modifyLabel
    fun l => l.markStale.finishJob).modifyBay record.bay fun b => { b with state := .labelFault }).postLabelFault
      record.bay).startCurrent

/-- The current job goes to FAULT, when there is one (R158). -/
def State.faultCurrent (s : State) (reason : LabelFaultReason) : State :=
  match s.currentRecord with
  | some record => s.faultLabel record reason none
  | none => s

/-! ### Outcomes of label exchanges (R156, R199) -/

/-- The pause starts (R156). -/
def State.startPause (s : State) : State := s.modifyLabel fun l => { l with pause := true }

/-- The outcome of a LABEL-PRINT: ACCEPT moves the job to POLL; a refusal or a failure is asked again after the pause
(R156). A status that is neither ACCEPT nor REFUSE is taken as REFUSE (R199). -/
def State.printOutcome (s : State) (record : PackRecord) (outcome : ExchangeOutcome) (status : Octet) : State :=
  if outcome = .good ∧ status = 0x00 then
    ((s.modifyPack record.serial fun r => { r with label := .printing }).modifyLabel
      fun l => { l with phase := some .poll }).startPause
  else s.startPause

/-- The outcome of a LABEL-STATUS: APPLIED and FAULT settle the job, anything else is polled again (R156 to R158,
R199). -/
def State.statusOutcome (s : State) (record : PackRecord) (outcome : ExchangeOutcome) (reply : StationReply) : State :=
  if outcome = .good ∧ reply.status = 0x02 then
    if reply.data = digitOctets record.code then s.confirmLabel record
    else s.faultLabel record .mismatch (some reply.data)
  else if outcome = .good ∧ reply.status = 0x03 then s.faultLabel record .applicator none
  else s.startPause

/-- The outcome of a label exchange: the outstanding exchange becomes absent first; a stale one is ignored and the next
job may start (R156, R158). One that arrives with none outstanding, after a late "port left UP", is ignored: DESIGN
CHOICE, unsafe, log entry 39. -/
def State.labelOutcome (s : State) (isStatus : Bool) (outcome : ExchangeOutcome) (reply : StationReply) : State :=
  match s.label.outstanding with
  | none => s.startCurrent
  | some x =>
    let s := s.modifyLabel fun l => { l with outstanding := none }
    if x.stale then s.startCurrent
    else
      match s.currentRecord with
      | none => s
      | some record =>
        if isStatus then s.statusOutcome record outcome reply else s.printOutcome record outcome reply.status

/-- The pause runs out: the LABEL-PRINT is asked again in PRINT, the LABEL-STATUS asked in POLL (R156). -/
def State.labelPauseOver (s : State) : State :=
  let s := s.modifyLabel fun l => { l with pause := false }
  match s.label.phase, s.currentRecord with
  | some .print, some record => s.askPrint record
  | some .poll, some _ => s.askStatus
  | _, _ => s

/-- "Port left UP" from port 8: any outstanding exchange becomes absent, and a job in PRINT or POLL is faulted (R158). -/
def State.labelPortLost (s : State) : State :=
  let s := s.modifyLabel fun l => { l with outstanding := none }
  match s.label.phase with
  | some .print | some .poll => s.faultCurrent .port
  | some .unstarted | none => s.startCurrent

end Sys2Proof.Machine
end

