-- ==== Sys2Proof/Machine/LineStop.lean ====
section
/-!
DEFINITION. The line-stop cause set of the planer line tracker (R137), which the pack builder asks to change too.
-/
namespace Sys2Proof.Machine

/-- A cause enters the set, posted to LINE_STOP when it was not in it (R137). -/
def State.addCause (s : State) (cause : StopCause) : State :=
  if s.line.causes.has cause then s
  else (s.modifyLine fun l => { l with causes := l.causes.put cause true }).postLineStop cause

/-- A cause leaves the set; nothing is withdrawn from the notice unit (R137). -/
def State.removeCause (s : State) (cause : StopCause) : State :=
  s.modifyLine fun l => { l with causes := l.causes.put cause false }

end Sys2Proof.Machine
end

