-- ==== Sys2Proof/Machine/PackOps.lean ====
section
/-!
DEFINITION. The pack builder's operations (R144 to R154): choosing a bay, reserving, stacking, releasing, closing, serials and the
figures of a closed pack record.
-/
namespace Sys2Proof.Machine

/-- The four bays, in ascending number. -/
def allBays : List BayNo := [0, 1, 2, 3]

/-! ### Choosing a bay (R145) -/

/-- The charge is in the contributor list. -/
def OpenPack.names (p : OpenPack) (charge : Nat) : Bool := p.contributors.any fun c => c.charge == charge

/-- The open pack takes another piece of the species and charge, under the target (R145). -/
def OpenPack.admits (p : OpenPack) (target species charge : Nat) : Bool :=
  p.species == species && decide (p.stacked + p.reserved < target) &&
    (p.names charge || decide (p.contributors.length < Config.contributorCapacity))

/-- The bay is eligible for a piece (R145). -/
def Bay.eligible (b : Bay) (length species charge : Nat) : Bool :=
  match b.config with
  | none => false
  | some c =>
    inRange c.minimum c.maximum length &&
      match b.state, b.openPack with
      | .empty, _ => true
      | .opened, some p => p.admits c.target species charge
      | _, _ => false

/-- The lowest-numbered eligible bay (R145). -/
def State.chooseBay (s : State) (length species charge : Nat) : Option BayNo :=
  allBays.find? fun b => (s.bay b).eligible length species charge

/-! ### Reserving (R146) -/

/-- A new open pack of a species (R146). -/
def OpenPack.begun (species : Nat) : OpenPack :=
  { species := species, stacked := 0, reserved := 0, contributors := [], mcSum := 0, mcMax := none }

/-- One contributor's counts changed. -/
def OpenPack.changeContributor (p : OpenPack) (charge : Nat) (f : Contributor → Contributor) : OpenPack :=
  { p with contributors := updateBy Contributor.charge charge f p.contributors }

/-- The charge joins the contributor list when it is not in it (R146). -/
def OpenPack.join (p : OpenPack) (charge : Nat) : OpenPack :=
  if p.names charge then p
  else { p with contributors := p.contributors ++ [{ charge := charge, stacked := 0, reserved := 0 }] }

/-- The pack's and the contributor's reserved counts rise by one (R146). -/
def OpenPack.reserve (p : OpenPack) (charge : Nat) : OpenPack :=
  { (p.join charge).changeContributor charge (fun c => { c with reserved := c.reserved + 1 }) with
    reserved := p.reserved + 1 }

/-- The pack a reservation is made in: the bay's, or a new one in an EMPTY bay (R146). -/
def Bay.packFor (b : Bay) (species : Nat) : OpenPack :=
  match b.state, b.openPack with
  | .opened, some p => p
  | _, _ => .begun species

/-- A reservation in bay b for a piece of a charge (R146). -/
def State.reservePlace (s : State) (b : BayNo) (species charge : Nat) : State :=
  let pack := (s.bay b).packFor species
  let s := s.modifyBay b fun bay => { bay with state := .opened, openPack := some (pack.reserve charge) }
  if pack.names charge then s else s.addReference charge

/-! ### Serials and figures (R150, R151) -/

/-- The serial after n: 1000000 turns into 1 (R150). -/
def nextSerial (n : Nat) : Nat := if n + 1 = 1000000 then 1 else n + 1

/-- The serial that the pack builder issues next (R150). -/
def State.issuedSerial (s : State) : Nat :=
  freeNumber nextSerial (fun n => (s.pack n).isSome) 8 s.backup.packCounter

/-- The last `width` decimal digits of a number, leading zeros kept. -/
def decimalDigits : Nat → Nat → List Nat
  | 0, _ => []
  | width + 1, n => decimalDigits width (n / 10) ++ [n % 10]

/-- The weights of the nine digits (R151). -/
def codeWeights : List Nat := [3, 1, 3, 1, 3, 1, 3, 1, 3]

/-- The check digit of nine digits (R151). -/
def checkDigit (digits : List Nat) : Nat := (10 - (List.zipWith (· * ·) digits codeWeights).sum % 10) % 10

/-- The code's first nine digits: the serial, the species code (R151). -/
def codeDigits (serial species : Nat) : List Nat := decimalDigits 6 serial ++ decimalDigits 3 species

/-- The date of a record written now: YYYYMMDD, or zeros while the clock is not valid (R151). -/
def State.dateDigits (s : State) : List Nat :=
  if s.backup.clockValid then
    decimalDigits 4 s.backup.clock.year ++ decimalDigits 2 s.backup.clock.month ++ decimalDigits 2 s.backup.clock.day
  else List.replicate 8 0

/-- The closed pack record of an open pack (R151, R152). -/
def OpenPack.closedRecord (p : OpenPack) (serial : Nat) (b : BayNo) (nominal : Nat) (date : List Nat) : PackRecord :=
  { serial := serial
    checkDigit := checkDigit (codeDigits serial p.species)
    code := codeDigits serial p.species ++ [checkDigit (codeDigits serial p.species)]
    bay := b
    species := p.species
    nominal := nominal
    pieceCount := p.stacked
    meanMc := roundHalfUp p.mcSum p.stacked
    printedMc := roundHalfUp p.mcSum (10 * p.stacked)
    mcMax := p.mcMax.getD 0
    date := date
    contributors := p.contributors.map fun c => (c.charge, c.stacked)
    label := .queued
    scanBack := none }

/-- The nominal length of a bay's configuration (R142); a bay that holds a pack has one. -/
def Bay.nominal (b : Bay) : Nat :=
  match b.config with
  | some c => c.nominal
  | none => 0

/-- A closed pack record is written for bay b's pack, its label queued, PACK_READY posted (R153, third case). -/
def State.writeRecord (s : State) (b : BayNo) (p : OpenPack) : State :=
  let serial := s.issuedSerial
  let record := p.closedRecord serial b (s.bay b).nominal s.dateDigits
  let s := { s with backup := { s.backup with packCounter := serial }, packs := s.packs ++ [record] }
  let s := s.modifyBay b fun bay => { bay with state := .labelling, openPack := none }
  (s.appendJob serial).postPackReady

/-! ### Closing (R153, R154) -/

/-- Some bay is in WAIT_RECORD. -/
def State.someBayWaits (s : State) : Bool := allBays.any fun b => (s.bay b).state == .waitRecord

/-- Bay b's pack closes (R153). -/
def State.closePack (s : State) (b : BayNo) : State :=
  match (s.bay b).openPack with
  | none => s
  | some p =>
    if p.stacked = 0 then s.modifyBay b fun bay => { bay with state := .empty, openPack := none }
    else if Config.packCapacity ≤ s.packs.length then
      let alone := !s.someBayWaits
      let s := s.modifyBay b fun bay => { bay with state := .waitRecord }
      if alone then s.addCause .recordsFull else s
    else s.writeRecord b p

/-- A bay in WAIT_RECORD is given a place in the closed pack list, while there is one (R154). -/
def State.givePlace (s : State) (b : BayNo) : State :=
  match (s.bay b).state, (s.bay b).openPack with
  | .waitRecord, some p => if s.packs.length < Config.packCapacity then s.writeRecord b p else s
  | _, _ => s

/-- The freed place goes to the bays in WAIT_RECORD in ascending number; RECORDS_FULL leaves the cause set when none
remains (R154). -/
def State.giveFreedPlace (s : State) : State :=
  let s := allBays.foldl State.givePlace s
  if s.someBayWaits then s else s.removeCause .recordsFull

/-! ### Stacking and releasing (R147, R148) -/

/-- A reservation turned into a stacked piece (R147). -/
def OpenPack.stack (p : OpenPack) (charge mc : Nat) : OpenPack :=
  { p.changeContributor charge (fun c => { c with reserved := c.reserved - 1, stacked := c.stacked + 1 }) with
    reserved := p.reserved - 1
    stacked := p.stacked + 1
    mcSum := p.mcSum + mc
    mcMax := match p.mcMax with
      | none => some mc
      | some top => some (max top mc) }

/-- The target of a bay's configuration. -/
def Bay.target (b : Bay) : Nat :=
  match b.config with
  | some c => c.target
  | none => 0

/-- A piece is stacked in bay b (R147). -/
def State.stackPiece (s : State) (b : BayNo) (charge mc : Nat) : State :=
  match (s.bay b).openPack with
  | none => s
  | some p =>
    let q := p.stack charge mc
    let s := s.modifyBay b fun bay => { bay with openPack := some q }
    match (s.bay b).state with
    | .opened => if (s.bay b).target ≤ q.stacked then s.closePack b else s
    | .closing => if q.reserved = 0 then s.closePack b else s
    | .disabled | .empty | .waitRecord | .labelling | .labelFault => s

/-- The contributor entries without those whose counts are both 0 (R148). -/
def OpenPack.dropIdle (p : OpenPack) : OpenPack :=
  { p with contributors := p.contributors.filter fun c => !(c.stacked == 0 && c.reserved == 0) }

/-- A reservation taken back (R148). -/
def OpenPack.unreserve (p : OpenPack) (charge : Nat) : OpenPack :=
  { p.changeContributor charge (fun c => { c with reserved := c.reserved - 1 }) with
    reserved := p.reserved - 1 }.dropIdle

/-- A reservation of bay b is released (R148). -/
def State.releasePlace (s : State) (b : BayNo) (charge : Nat) : State :=
  match (s.bay b).openPack with
  | none => s
  | some p =>
    let q := p.unreserve charge
    let s := s.modifyBay b fun bay => { bay with openPack := some q }
    let s := if p.names charge && !q.names charge then s.dropReference charge else s
    match (s.bay b).state with
    | .opened =>
      if q.stacked = 0 ∧ q.reserved = 0 then s.modifyBay b fun bay => { bay with state := .empty, openPack := none }
      else s
    | .closing => if q.reserved = 0 then s.closePack b else s
    | .disabled | .empty | .waitRecord | .labelling | .labelFault => s

end Sys2Proof.Machine
end

