-- ==== Sys2Proof/Machine/TrackerOps.lean ====
section
/-!
DEFINITION. The planer line tracker's operations (07_the_planer_line.md): positions, edges, samples, lengths, grades, the divert and
stack positions, clearing the line.
-/
namespace Sys2Proof.Machine

/-! ### Positions (R123) -/

/-- Half the circle of positions, 2^31. -/
def halfCircle : Nat := 2147483648

/-- Position p is reached at the counter's value (R123). -/
def reached (counter p : Position) : Bool := decide ((counter - p).toNat < halfCircle)

/-- Position q is after position p (R123). -/
def isAfter (q p : Position) : Bool := decide (1 ≤ (q - p).toNat ∧ (q - p).toNat < halfCircle)

/-- The line is configured: no setting is absent (R124). -/
def LineConfig.configured (c : LineConfig) : Bool :=
  c.countsPerMetre.isSome && c.divertDistance.isSome && c.stackDistance.isSome

/-- A distance in counts; an unconfigured line has none and takes no edge (R124). -/
def distance (d : Option Nat) : Position := BitVec.ofNat 32 (d.getD 0)

/-! ### The piece queue (R127, R128) -/

/-- The queued piece that a sequence number names: the latest, since a number may come round while a DRY piece that
holds it is still queued. DEDUCED: log entry 42. -/
def State.piece (s : State) (sequence : Nat) : Option Piece :=
  findLast (fun p => p.sequence == sequence) s.line.queue

/-- The queued piece that a sequence number names, changed (log entry 42). -/
def State.modifyPiece (s : State) (sequence : Nat) (f : Piece → Piece) : State :=
  s.modifyLine fun l => { l with queue := updateLast (fun p => p.sequence == sequence) f l.queue }

/-- The line counters changed. -/
def State.countLine (s : State) (f : LineCounters → LineCounters) : State :=
  s.modifyLine fun l => { l with counters := f l.counters }

/-- An owner that names the piece becomes absent. -/
def disown (sequence : Nat) (owner : Option Nat) : Option Nat := if owner = some sequence then none else owner

/-- One record leaves the queue, from wherever it stands (R128); QUEUE_HIGH leaves the cause set when fewer than 28 remain
(R137). -/
def State.removePiece (s : State) (p : Piece) : State :=
  let s := s.modifyLine fun l => { l with queue := l.queue.erase p }
  if s.line.queue.length < Config.queueHigh then s.removeCause .queueHigh else s

/-- A record leaves the queue at the gate: the capture's owner and the sample owner are absent when it was theirs (R126,
R134). -/
def State.removeAtGate (s : State) (p : Piece) : State :=
  (s.modifyLine fun l =>
    { l with
      capture := { l.capture with owner := disown p.sequence l.capture.owner }
      sampleOwner := disown p.sequence l.sampleOwner }).removePiece p

/-! ### The grade decision (R133) -/

/-- The species entry of a piece, when present. -/
def State.pieceSpecies (s : State) (p : Piece) : Option SpeciesEntry :=
  match p.species with
  | some code => s.speciesEntry code
  | none => none

/-- The MC is no higher than the pack limit of the piece's species, which is present (R133, step 3). -/
def State.packable (s : State) (p : Piece) (mc : Nat) : Bool :=
  match s.pieceSpecies p with
  | some e => decide (mc ≤ e.packLimit)
  | none => false

/-- The grade of a piece with its length and its final reading, and the state with the reservation made (R133). A reading
still PENDING is not final: the grade stays PENDING, even of a short piece. -/
def State.gradeOf (s : State) (p : Piece) (length : Nat) : Grade × State :=
  match p.reading with
  | .pending => (.pending, s)
  | .none _ => (if length < s.line.config.shortLimit then .short else .redry, s)
  | .read mc =>
    if length < s.line.config.shortLimit then (.short, s)
    else if s.packable p mc then
      match s.chooseBay length (p.species.getD 0) p.charge with
      | some b => (.dry b, s.reservePlace b (p.species.getD 0) p.charge)
      | none => (.noBay, s)
    else (.redry, s)

/-- The grade decision for a piece, when its grade is PENDING and its length and reading are final (R133). -/
def State.decideGrade (s : State) (sequence : Nat) : State :=
  match s.piece sequence with
  | some p =>
    match p.grade, p.length with
    | .pending, some length =>
      let (grade, s) := s.gradeOf p length
      s.modifyPiece sequence fun p => { p with grade := grade }
    | _, _ => s
  | none => s

/-! ### Samples (R130, R131) -/

/-- A piece's reading is settled. -/
def State.settleReading (s : State) (sequence : Nat) (reading : PieceReading) : State :=
  s.modifyPiece sequence fun p => { p with reading := reading }

/-- A piece's reading becomes NONE with NO_REPLY, counted (R130, R131, R134). -/
def State.noReply (s : State) (sequence : Nat) : State :=
  (s.settleReading sequence (.none .noReply)).countLine fun c => { c with noReply := bump c.noReply }

/-- The sample that a traced piece triggers (R130). -/
def State.triggerSample (s : State) (sequence : Nat) : State :=
  match (s.port meterPort).answerTo with
  | .taken =>
    (s.modifyLine fun l => { l with sampleOwner := some sequence }).askPort meterPort
      { command := .meterSample, data := [] }
  | .busy =>
    (s.settleReading sequence (.none .meterBusy)).countLine fun c => { c with meterBusy := bump c.meterBusy }
  | .notUp => s.noReply sequence

/-- A converted meter reading reaches the piece and, when USABLE, its charge (R20, R131). -/
def State.meterReading (s : State) (p : Piece) (reading : Reading) : State :=
  match reading.cls, reading.mc with
  | .usable, some mc => (s.settleReading p.sequence (.read mc)).addMeterReading p.charge mc
  | _, _ => s.settleReading p.sequence (.none .unusable)

/-- The L-code, the board temperature and the measurement fault of a METER-SAMPLE reply (R199). -/
def meterReply (data : List Octet) : Option (Nat × Int × Bool) :=
  match data with
  | [l0, l1, t0, t1, status] => some (num16 l0 l1, int16 t0 t1, status.getLsbD 0)
  | _ => none

/-- The outcome of a METER-SAMPLE settles the sample owner's reading; without an owner it is ignored (R131). -/
def State.meterOutcome (s : State) (outcome : ExchangeOutcome) (data : List Octet) : State :=
  match s.line.sampleOwner with
  | none => s
  | some sequence =>
    let s := s.modifyLine fun l => { l with sampleOwner := none }
    let s :=
      match outcome, meterReply data, s.piece sequence with
      | .good, some (l, t, fault), some p => s.meterReading p (convert l fault (some t) (s.pieceSpecies p))
      | _, _, _ => s.noReply sequence
    s.decideGrade sequence

/-- The tracker takes "port left UP" from port 7 (R131). -/
def State.meterPortLost (s : State) : State :=
  match s.line.sampleOwner with
  | none => s
  | some sequence =>
    ((s.modifyLine fun l => { l with sampleOwner := none }).noReply sequence).decideGrade sequence

/-! ### Leading edge (R126, R129) -/

/-- The record a leading edge makes for a charge (R127); no charge makes it UNTRACED (R129). -/
def Line.newPiece (l : Line) (lead : Position) (charge : Option Charge) : Piece :=
  { sequence := l.nextSequence
    charge := match charge with | some c => c.number | none => 0
    species := charge.map Charge.species
    lead := lead
    trail := none
    length := none
    reading := if charge.isSome then .pending else .none .notSampled
    grade := if charge.isSome then .pending else .untraced
    divertAt := lead + distance l.config.divertDistance
    stackAt := lead + distance l.config.stackDistance }

/-- The infeed charge that the charge table counts a piece to: one that is not full (R45). -/
def State.countingCharge (s : State) : Option Charge :=
  match s.infeed with
  | some c => if c.isFull then none else some c
  | none => none

/-- The charge table counts a piece to a charge (R45); without one, the piece is untraced (R129). -/
def State.countPiece (s : State) (charge : Option Charge) (intoQueue : Bool) : State :=
  match charge with
  | some c => s.modifyCharge c.number fun c => c.countPiece intoQueue
  | none => s.countLine fun c => { c with untraced := bump c.untraced }

/-- A piece that overflows (R129). -/
def State.overflowPiece (s : State) : State :=
  ((s.countPiece s.countingCharge false).countLine
    fun c => { c with overflows := bump c.overflows, cleared := bump c.cleared }).addCause .overflow

/-- The piece of a leading edge that finds room (R129). -/
def State.appendPiece (s : State) (lead : Position) : State :=
  let charge := s.countingCharge
  let sequence := s.line.nextSequence
  let s := s.countPiece charge true
  let s := s.modifyLine fun l =>
    { l with
      queue := l.queue ++ [l.newPiece lead charge]
      nextSequence := (sequence + 1) % 65536
      capture := { l.capture with owner := some sequence } }
  let s := if s.line.queue.length = Config.queueHigh then s.addCause .queueHigh else s
  if charge.isSome then s.triggerSample sequence else s

/-- A leading edge taken: metered rises, then the piece overflows or joins the queue (R129). -/
def State.takeLead (s : State) (lead : Position) : State :=
  let s := s.modifyLine fun l =>
    { l with capture := { l.capture with boardInEye := true, lastLead := some lead, lastTrail := none, owner := none } }
  let s := s.countLine fun c => { c with metered := bump c.metered }
  if Config.queueCapacity ≤ s.line.queue.length then s.overflowPiece else s.appendPiece lead

/-- A leading edge is taken when no board is in the eye and it is after the last trail position, if any (R126). -/
def Capture.takesLead (c : Capture) (p : Position) : Bool :=
  !c.boardInEye &&
    match c.lastTrail with
    | some trail => isAfter p trail
    | none => true

/-! ### Trailing edge (R126, R132) -/

/-- The length of a travel in millimetres, at most 65535 (R132). -/
def lengthOf (travel countsPerMetre : Nat) : Nat := min 65535 (roundHalfUp (1000 * travel) countsPerMetre)

/-- A trailing edge taken: its owner's record takes the trail position and the length, and the grade decision follows when
the reading is final (R132). -/
def State.takeTrail (s : State) (trail : Position) : State :=
  let owner := s.line.capture.owner
  let s := s.modifyLine fun l =>
    { l with capture := { l.capture with boardInEye := false, lastTrail := some trail, owner := none } }
  match owner with
  | none => s
  | some sequence =>
    let counts := s.line.config.countsPerMetre.getD 1
    let s := s.modifyPiece sequence fun p =>
      { p with trail := some trail, length := some (lengthOf (trail - p.lead).toNat counts) }
    s.decideGrade sequence

/-- A trailing edge is taken when a board is in the eye and it is after the last lead position (R126). -/
def Capture.takesTrail (c : Capture) (p : Position) : Bool :=
  c.boardInEye &&
    match c.lastLead with
    | some lead => isAfter p lead
    | none => false

/-! ### The photo-eye (R125) -/

/-- A filtered edge: the eye level follows it, and it is taken or ignored by R126. That the eye level follows an ignored
edge too is DEDUCED, unsafe: log entry 14. -/
def State.filteredEdge (s : State) (blocked : Bool) (p : Position) : State :=
  let s := s.modifyLine fun l => { l with capture := { l.capture with blocked := blocked } }
  if blocked then (if s.line.capture.takesLead p then s.takeLead p else s)
  else if s.line.capture.takesTrail p then s.takeTrail p else s

/-- A level of the EYE pin as a board in the beam (R125). -/
def LineConfig.senses (c : LineConfig) (level : Bool) : Bool := level != c.blockedLow

/-- The input changes: a change from the eye level starts the filter, or is taken at once with a filter of 0; a change
back to it is ignored (R125). The unconfigured line takes no edge (R124). -/
def State.changeEye (s : State) (level : Bool) : State :=
  if s.line.eyePin = level then s
  else
    let s := s.modifyLine fun l => { l with eyePin := level }
    if s.line.config.configured then
      let blocked := s.line.config.senses level
      if blocked = s.line.capture.blocked then s.modifyLine fun l => { l with eyeFilter := none }
      else if s.line.config.glitchFilter = 0 then s.filteredEdge blocked s.line.counter
      else s.modifyLine fun l => { l with eyeFilter := some l.counter }
    else s

/-- The input has held its new level for the filter time: the edge is at the position of the change (R125). -/
def State.eyeFilterOver (s : State) : State :=
  match s.line.eyeFilter with
  | some p => (s.modifyLine fun l => { l with eyeFilter := none }).filteredEdge (!s.line.capture.blocked) p
  | none => s

/-! ### Divert and stack positions (R134 to R136) -/

/-- A piece without a trail at its divert position is removed as cleared, for JAM (R134). -/
def State.jamPiece (s : State) (p : Piece) : State :=
  (((s.removeAtGate p).settlePiece p.charge .cleared).countLine
    fun c => { c with jams := bump c.jams, cleared := bump c.cleared }).addCause .jam

/-- The DIVERT output is asserted and its pulse time started (R135). -/
def State.pulseDivert (s : State) : State := s.modifyLine fun l => { l with divertPulse := true }

/-- The counter of a diverted piece's grade (R134, R139). -/
def LineCounters.diverted (c : LineCounters) : Fate → LineCounters
  | .redry => { c with redry := bump c.redry }
  | .short => { c with short := bump c.short }
  | .noBay => { c with noBay := bump c.noBay }
  | .stacked => c
  | .cleared => c

/-- The fate of a piece that is diverted with a grade (R46); an UNTRACED piece has none. -/
def Grade.fate : Grade → Option Fate
  | .redry => some .redry
  | .short => some .short
  | .noBay => some .noBay
  | .untraced => none
  | .dry _ => none
  | .pending => none

/-- A graded piece leaves through the gate (R134, third row). -/
def State.divertPiece (s : State) (p : Piece) : State :=
  let s := s.pulseDivert.removeAtGate p
  match p.grade.fate with
  | some fate => (s.settlePiece p.charge fate).countLine fun c => c.diverted fate
  | none => s

/-- The grade of a piece at the gate whose reading is settled NONE: SHORT or REDRY, which reserves no place (R133,
R134). -/
def State.gradedAtGate (s : State) (p : Piece) : Piece :=
  match p.grade, p.length with
  | .pending, some length => { p with grade := (s.gradeOf p length).1 }
  | _, _ => p

/-- The record of a piece at the gate when it leaves: a reading still PENDING is settled NO_REPLY and the grade decided
(R134, second row). -/
def State.pieceAtGate (s : State) (p : Piece) : Piece :=
  match p.reading with
  | .pending => s.gradedAtGate { p with reading := .none .noReply }
  | .read _ => p
  | .none _ => p

/-- The second row of R134: a reading still PENDING is settled, counted, and the sample owner made absent. -/
def State.settleAtGate (s : State) (p : Piece) : State :=
  match p.reading with
  | .pending =>
    (s.modifyLine fun l => { l with sampleOwner := none, queue := l.queue.replace p (s.pieceAtGate p) }).countLine
      fun c => { c with noReply := bump c.noReply }
  | .read _ => s
  | .none _ => s

/-- A queued piece at its divert position (R134). A DRY piece passes; a graded one is diverted. -/
def State.atGate (s : State) (p : Piece) : State :=
  match p.trail with
  | none => s.jamPiece p
  | some _ =>
    match (s.pieceAtGate p).grade with
    | .redry | .short | .noBay | .untraced => (s.settleAtGate p).divertPiece (s.pieceAtGate p)
    | .dry _ | .pending => s.settleAtGate p

/-- The grade is DRY. -/
def Grade.isDry : Grade → Bool
  | .dry _ => true
  | .pending | .redry | .short | .untraced | .noBay => false

/-- The queued pieces whose divert position is reached and whose grade is not DRY, in queue order (R134). -/
def Line.atDivert (l : Line) : List Piece :=
  l.queue.filter fun p => !p.grade.isDry && reached l.counter p.divertAt

/-- A DRY piece at its stack position leaves the queue, is settled as stacked and handed to its bay (R136). -/
def State.atStacker (s : State) (p : Piece) : State :=
  match p.grade, p.reading with
  | .dry b, .read mc => ((s.removePiece p).settlePiece p.charge .stacked).stackPiece b p.charge mc
  | _, _ => s

/-- The queued DRY pieces whose stack position is reached, in queue order (R136). -/
def Line.atStack (l : Line) : List Piece :=
  l.queue.filter fun p => p.grade.isDry && reached l.counter p.stackAt

/-- The counter takes a new value, and the pieces at their positions are handled, the gate's before the stacker's
(R123, R134, R136). DESIGN CHOICE, safe: log entry 30. -/
def State.moveCounter (s : State) (counter : Position) : State :=
  let s := s.modifyLine fun l => { l with counter := counter }
  let s := s.line.atDivert.foldl State.atGate s
  s.line.atStack.foldl State.atStacker s

/-! ### LINE-CLEAR (R138) -/

/-- One record cleared: settled, its reservation released, counted (R138). -/
def State.clearPiece (s : State) (p : Piece) : State :=
  let s := s.settlePiece p.charge .cleared
  let s :=
    match p.grade with
    | .dry b => s.releasePlace b p.charge
    | .pending | .redry | .short | .untraced | .noBay => s
  s.countLine fun c => { c with cleared := bump c.cleared }

/-- The line cleared (R138). -/
def State.clearLine (s : State) : State :=
  let pieces := s.line.queue
  let s := s.modifyLine fun l => { l with queue := [] }
  let s := pieces.foldl State.clearPiece s
  let s := s.modifyLine fun l =>
    { l with sampleOwner := none, capture := { l.capture with owner := none } }
  ((s.removeCause .overflow).removeCause .jam).removeCause .queueHigh

end Sys2Proof.Machine
end

