-- ==== Sys2Proof/Machine/PortEvents.lean ====
section
/-!
DEFINITION. How the field port controller's events run (R81 to R101): the reception and judging of replies, the end of an exchange
with its three steps, line faults, disabling, and the run-outs of the port's waits.
-/
namespace Sys2Proof.Machine

/-! ### Judging a reply (R83, R85) -/

/-- The expected reply data length of a command, for LABEL-STATUS by the reply status octet (R83, R199). -/
def expectedLength (command : StationCommand) (status : Octet) : Nat :=
  match command with
  | .identify => 7
  | .probeRead => 7
  | .setpoint => 5
  | .meterSample => 5
  | .labelPrint => 0
  | .labelStatus => if status = 0x02 then 10 else 0

/-- The reply status octet and the data of a whole reply frame: lead, address, status, length, data, check (R199). -/
def replyOf (octets : List Octet) : StationReply :=
  { status := octets.getD 2 0, data := (octets.drop 4).take (octets.getD 3 0).toNat }

/-- The outcome of a whole frame of the stated length, the first check that applies (R85). -/
def Exchange.judge (e : Exchange) (octets : List Octet) : ExchangeOutcome :=
  if octetSum octets ≠ 0x5A then .check
  else if (octets.getD 1 0).toNat ≠ e.address then .address
  else if (octets.getD 3 0).toNat ≠ expectedLength e.command (octets.getD 2 0) then .length
  else .good

/-! ### The end of an exchange (R86) -/

/-- One added to the counter of an outcome (R103). -/
def PortCounters.count (c : PortCounters) : ExchangeOutcome → PortCounters
  | .good => { c with good := bump c.good }
  | .timeout => { c with timeout := bump c.timeout }
  | .truncated => { c with truncated := bump c.truncated }
  | .length => { c with length := bump c.length }
  | .check => { c with check := bump c.check }
  | .framing => { c with framing := bump c.framing }
  | .address => { c with address := bump c.address }

/-- The exchange is over: counted, nothing in flight, the silent wait started (R81), and on a port 7 or 8 in UP the idle
wait (R100, R101). -/
def PortRecord.closeExchange (r : PortRecord) (outcome : ExchangeOutcome) (device : Bool) : PortRecord :=
  { r with
    exchange := none
    silentWait := true
    counters := r.counters.count outcome
    idleWait := device && r.state == .up }

/-- The first step of R86 at port p. -/
def State.closeExchange (s : State) (p : PortNo) (outcome : ExchangeOutcome) : State :=
  s.modifyPort p fun r => r.closeExchange outcome (portKiln p).isNone

/-- The second step of R86: the outcome of a block's exchange reaches that block; the port's own IDENTIFYs to station 0
have no block. -/
def State.handOutcome (s : State) (p : PortNo) (e : Exchange) (outcome : ExchangeOutcome) (reply : StationReply) :
    State :=
  match portKiln p, e.command with
  | some k, .setpoint => s.setpointOutcome k outcome reply
  | some k, .probeRead => s.probeOutcome k e.address .read outcome reply.data
  | some k, .identify => if e.address = 0 then s else s.probeOutcome k e.address .identify outcome reply.data
  | none, .meterSample => s.meterOutcome outcome reply.data
  | none, .labelPrint => s.labelOutcome false outcome reply
  | none, .labelStatus => s.labelOutcome true outcome reply
  | _, _ => s

/-- The identity in the data of an IDENTIFY reply (R83, R199). -/
def identityOf (data : List Octet) : Option Identity :=
  match data with
  | [kind, a, b, c, d, v0, v1] => some { kind := kind.toNat, serial := num32 a b c d, version := num16 v0 v1 }
  | _ => none

/-- The port leaves UP by the failure limit: into ESTABLISHING, then the report (R93, R94). -/
def State.failureLimitReached (s : State) (p : PortNo) : State :=
  (s.modifyPort p fun r => r.clearUp.beginEstablishment).reportLeftUp p

/-- A GOOD outcome of an exchange with station 0 clears the failure count (R93); that of a health IDENTIFY replaces the
identity (R100). -/
def PortRecord.stationGood (r : PortRecord) (e : Exchange) (data : List Octet) : PortRecord :=
  { r with
    failureCount := 0
    identity := if e.command = .identify then (identityOf data).orElse (fun _ => r.identity) else r.identity }

/-- The failure count after a failed exchange with station 0, and what it brings (R93). -/
def State.stationFailed (s : State) (p : PortNo) : State :=
  let s := s.modifyPort p fun r => { r with failureCount := r.failureCount + 1 }
  if (s.port p).failureLimit ≤ (s.port p).failureCount then s.failureLimitReached p else s

/-- An outcome in UP applied to the port's own record (R86, R93). -/
def State.applyInUp (s : State) (p : PortNo) (e : Exchange) (outcome : ExchangeOutcome) (reply : StationReply) : State :=
  if e.address ≠ 0 then s
  else if outcome = .good then s.modifyPort p fun r => r.stationGood e reply.data
  else s.stationFailed p

/-- A failed IDENTIFY of an attempt: the next one at the next rate, or the end of the attempt (R90, R91). -/
def State.identifyFailed (s : State) (p : PortNo) : State :=
  match (s.port p).tryRate.next with
  | some rate => s.modifyPort p fun r => { r with nextRate := rate }
  | none =>
    if (s.port p).attempt.getD 1 < 4 then s.modifyPort p fun r => { r with attemptGap := true } else s.enterDown p

/-- An outcome in ESTABLISHING applied to the establishment procedure (R90). -/
def State.applyInEstablishing (s : State) (p : PortNo) (outcome : ExchangeOutcome) (reply : StationReply) : State :=
  match outcome, identityOf reply.data with
  | .good, some identity => s.enterUp p identity
  | _, _ => s.identifyFailed p

/-- The third step of R86. -/
def State.applyOutcome (s : State) (p : PortNo) (e : Exchange) (outcome : ExchangeOutcome) (reply : StationReply) :
    State :=
  match (s.port p).state with
  | .up => s.applyInUp p e outcome reply
  | .establishing => s.applyInEstablishing p outcome reply
  | .off | .lineFault | .down => s

/-- The exchange in flight on a port ends with an outcome: its three steps (R86). -/
def State.endExchange (s : State) (p : PortNo) (outcome : ExchangeOutcome) (reply : StationReply) : State :=
  match (s.port p).exchange with
  | none => s
  | some e => ((s.closeExchange p outcome).handOutcome p e outcome reply).applyOutcome p e outcome reply

/-- The reply of an exchange that ended without a GOOD one: nothing is handed on with it (R86). -/
def noReplyData : StationReply := { status := 0, data := [] }

/-! ### Sending and receiving (R84, R85) -/

/-- The phase of the exchange in flight changed. -/
def PortRecord.setPhase (r : PortRecord) (phase : ExchangePhase) : PortRecord :=
  { r with exchange := r.exchange.map fun e => { e with phase := phase } }

/-- The check octet of the request has been sent: the reply window opens (R84). -/
def State.requestSent (s : State) (p : PortNo) : State :=
  match (s.port p).exchange with
  | some e => if e.phase = .sending then s.modifyPort p fun r => r.setPhase .window else s
  | none => s

/-- The reply window runs out (R84). -/
def State.windowOver (s : State) (p : PortNo) : State :=
  match (s.port p).exchange with
  | some e => if e.phase = .window then s.endExchange p .timeout noReplyData else s
  | none => s

/-- A silence of more than 3 octet times within a reply (R85). -/
def State.octetSilence (s : State) (p : PortNo) : State :=
  match (s.port p).exchange with
  | some e =>
    match e.phase with
    | .receiving _ => s.endExchange p .truncated noReplyData
    | .sending => s
    | .window => s
  | none => s

/-- An octet of the reply after its lead (R85). -/
def State.receiveReplyOctet (s : State) (p : PortNo) (e : Exchange) (octets : List Octet) (octet : Octet)
    (error : Bool) : State :=
  let now := octets ++ [octet]
  let length := (now.getD 3 0).toNat
  if error then s.endExchange p .framing noReplyData
  else if now.length = 4 ∧ Config.maxStationData < length then s.endExchange p .length noReplyData
  else if 4 < now.length ∧ now.length = length + 5 then s.endExchange p (e.judge now) (replyOf now)
  else s.modifyPort p fun r => r.setPhase (.receiving now)

/-- An octet on a field line (R81, R84, R85). Outside an exchange, and while the port itself drives the line, it is not
received. -/
def State.receiveFieldOctet (s : State) (p : PortNo) (octet : Octet) (error : Bool) : State :=
  match (s.port p).exchange with
  | none => s
  | some e =>
    match e.phase with
    | .sending => s
    | .window =>
      if octet = 0x69 ∧ error = false then s.modifyPort p fun r => r.setPhase (.receiving [octet]) else s
    | .receiving octets => s.receiveReplyOctet p e octets octet error

/-! ### Line faults (R95, R96) -/

/-- The port record after a line fault: counted, everything of the attempt and the exchange over, LINE_FAULT entered with
the autoretry wait when it is on (R95, R96). The silent wait goes on: log entry 40. -/
def PortRecord.faulted (r : PortRecord) : PortRecord :=
  { r with
    state := .lineFault
    exchange := none
    wake := .none
    attemptGap := false
    attempt := none
    lineFaultCount := min 5 (r.lineFaultCount + 1)
    autoretryWait := r.autoretry
    counters := { r.counters with lineFaults := bump r.counters.lineFaults } }

/-- The exchange in flight at a line fault ends FRAMING, counted and handed on only (R95). -/
def State.faultExchange (s : State) (p : PortNo) : State :=
  match (s.port p).exchange with
  | some e => (s.closeExchange p .framing).handOutcome p e .framing noReplyData
  | none => s

/-- After a line fault: DOWN at the fifth without an UP between (R96). -/
def State.enterFaulted (s : State) (p : PortNo) : State :=
  let s := s.modifyPort p PortRecord.faulted
  if (s.port p).lineFaultCount = 5 then (s.modifyPort p fun r => { r with autoretryWait := false }).enterDown p else s

/-- A line fault at a port that drives its line (R95). A port drives in ESTABLISHING and UP only: log entry 17. -/
def State.takeLineFault (s : State) (p : PortNo) : State :=
  if (s.port p).driving then
    let wasUp := (s.port p).state == .up
    let s := s.faultExchange p
    if wasUp then ((s.modifyPort p PortRecord.clearUp).enterFaulted p).reportLeftUp p else s.enterFaulted p
  else s

/-! ### Enabling and disabling (R88, R89) -/

/-- The settings stored, the line-fault count cleared, establishment begun (R88). -/
def PortRecord.enabled (r : PortRecord) (window limit : Nat) (auto retry : Bool) : PortRecord :=
  { r with
    replyWindow := window
    failureLimit := limit
    autoReestablish := auto
    autoretry := retry
    lineFaultCount := 0 }.beginEstablishment

/-- The port record as DISABLE-PORT leaves it (R89). The line's silent wait goes on, and begins with the exchange that is
abandoned (R81): log entry 40. -/
def PortRecord.disabled (r : PortRecord) : PortRecord :=
  { r.clearUp with
    state := .off
    exchange := none
    silentWait := r.silentWait || r.exchange.isSome
    wake := .none
    attempt := none
    attemptGap := false
    autoretryWait := false
    reestablishWait := false
    failureCount := 0
    lineFaultCount := 0 }

/-- A port disabled from any state but OFF (R89). -/
def State.disable (s : State) (p : PortNo) : State :=
  if (s.port p).state = .off then s
  else
    let wasUp := (s.port p).state == .up
    let s := s.modifyPort p PortRecord.disabled
    if wasUp then s.reportLeftUp p else s

/-! ### Run-outs of the port's waits -/

/-- The silent wait ends: the next IDENTIFY of an attempt, or a waiting exchange in UP, is sent (R81, R90, R97). -/
def State.silentWaitOver (s : State) (p : PortNo) : State :=
  if (s.port p).silentWait then
    (s.modifyPort p fun r => { r with silentWait := false }.sendIdentify).sendNext p
  else s

/-- The wake pulse ends and the wait of 3 octet times begins (R90). -/
def PortRecord.endWakePulse (r : PortRecord) : PortRecord :=
  match r.wake with
  | .pulse => { r with wake := .wait }
  | .wait => r
  | .none => r

/-- The wait after the wake pulse ends and the attempt's first IDENTIFY is sent (R90). -/
def PortRecord.endWakeWait (r : PortRecord) : PortRecord :=
  match r.wake with
  | .wait => { r with wake := .none }.sendIdentify
  | .pulse => r
  | .none => r

/-- The gap after a failed attempt ends and the next attempt begins (R90). -/
def PortRecord.endAttemptGap (r : PortRecord) : PortRecord :=
  if r.attemptGap then r.beginAttempt (r.attempt.getD 1 + 1) else r

/-- The autoretry wait ends and establishment begins (R96). -/
def PortRecord.endAutoretry (r : PortRecord) : PortRecord := if r.autoretryWait then r.beginEstablishment else r

/-- The re-establish wait ends and establishment begins (R91). -/
def PortRecord.endReestablish (r : PortRecord) : PortRecord := if r.reestablishWait then r.beginEstablishment else r

/-- Kiln k's controller interval runs out: a SETPOINT becomes waiting and the interval starts again (R98). -/
def State.controllerIntervalOver (s : State) (k : KilnNo) : State :=
  match (s.port (kilnPort k)).controllerInterval with
  | some _ =>
    (s.modifyPort (kilnPort k) fun r =>
      { r with setpointDue := true, controllerInterval := some (s.controllerIntervalOf k) }).sendNext (kilnPort k)
  | none => s

/-- The idle wait of port 7 or 8 runs out: with no exchange waiting a health IDENTIFY is due, but on port 8 with a current
job the wait starts again (R100, R101). Log entry 18. -/
def State.idleWaitOver (s : State) (p : PortNo) : State :=
  if (s.port p).idleWait then
    let s := s.modifyPort p fun r => { r with idleWait := false }
    if (s.port p).waiting.isSome then s
    else if p = labelPort ∧ s.label.jobs ≠ [] then s.modifyPort p fun r => { r with idleWait := true }
    else (s.modifyPort p fun r => { r with healthDue := true }).sendNext p
  else s

end Sys2Proof.Machine
end

