-- ==== Sys2Proof/Machine/ResetOps.lean ====
section
/-!
DEFINITION. Resets and power (R170 to R172, R194), the calendar clock's advance (R164), and the gate that keeps the part still while
it is held in reset or without main power.
-/
namespace Sys2Proof.Machine

/-- An event of the running part: it changes nothing while the part is held in reset or without main power (R162, R170,
R195). Log entry 9. -/
def State.whenOn (s : State) (f : State → State) : State :=
  match s.power with
  | .on => f s
  | .held => s
  | .off => s

/-- A reset that keeps the backup domain: every volatile block at its reset values, the rate read from the straps, then
each kiln with a valid snapshot recovered (R172, R181). -/
def State.resetKept (s : State) (straps : Straps) : State :=
  (State.volatileReset s.backup s.line.eyePin (.ofStraps straps) s.pending).recoverKilns

/-- A power-on: with the domain-valid mark clear the backup domain is cleared and "clock" posted (R171), else it is kept
(R172). -/
def State.powerOnReset (s : State) (straps : Straps) : State :=
  if s.backup.domainValid then s.resetKept straps
  else (State.volatileReset .cleared s.line.eyePin (.ofStraps straps) s.pending).postClockInvalid

/-- The part without its volatile state: held in reset, or without main power (R170, R195). No wait runs (R163). -/
def State.stilled (s : State) (power : Power) : State :=
  { State.volatileReset s.backup s.line.eyePin s.link.rate s.pending with
    power := power
    link := { Link.initial s.link.rate with silenceWait := false } }

/-- RESETN goes low, goes high, or is pulsed; without main power it does nothing (R172). Log entry 8. -/
def State.moveResetPin (s : State) (edge : ResetEdge) (straps : Straps) : State :=
  match s.power, edge with
  | .off, _ => s
  | .on, .pulse => s.resetKept straps
  | .held, .pulse => s.resetKept straps
  | .on, .low => s.stilled .held
  | .held, .low => s
  | .held, .high => s.resetKept straps
  | .on, .high => s

/-- The last second of 2099 (R164). -/
def DateTime.last : DateTime := { year := 2099, month := 12, day := 31, hour := 23, minute := 59, second := 59 }

/-- The day after, at midnight (R164). -/
def DateTime.nextDay (t : DateTime) : DateTime :=
  if t.day < monthLength t.year t.month then
    { t with day := t.day + 1, hour := 0, minute := 0, second := 0 }
  else if t.month < 12 then { t with month := t.month + 1, day := 1, hour := 0, minute := 0, second := 0 }
  else { year := t.year + 1, month := 1, day := 1, hour := 0, minute := 0, second := 0 }

/-- The second after, before any wrap of the century (R164). -/
def DateTime.nextSecond (t : DateTime) : DateTime :=
  if t.second < 59 then { t with second := t.second + 1 }
  else if t.minute < 59 then { t with minute := t.minute + 1, second := 0 }
  else if t.hour < 23 then { t with hour := t.hour + 1, minute := 0, second := 0 }
  else t.nextDay

/-- The clock set to a date and time. -/
def State.setClock (s : State) (t : DateTime) (valid : Bool) : State :=
  { s with backup := { s.backup with clock := t, clockValid := valid } }

/-- The clock advances by one second, wrapping at its last (R164). -/
def State.advanceClock (s : State) : State :=
  if s.backup.clock = .last then (s.setClock .epoch false).whenOn State.postClockInvalid
  else s.setClock s.backup.clock.nextSecond s.backup.clockValid

end Sys2Proof.Machine
end

