-- ==== Sys2Proof/Machine/Kilns.lean ====
section
/-!
DEFINITION. The kiln supervisor's requests (R56, R60 to R63, R71, R73, R78 to R80) and the events it takes: the minute event (R64)
and the reports of its ports (R74, R75).
-/
namespace Sys2Proof.Machine

/-- Kiln k's port is UP. -/
def State.kilnPortIsUp (s : State) (k : KilnNo) : Bool := (s.port (kilnPort k)).state == .up

/-! ### LOAD and START -/

/-- The hold set that the controller status gives a kiln at LOAD (R62). -/
def ControllerStatus.holds (c : ControllerStatus) : HoldSet := HoldSet.empty.agree c

/-- The kiln record that LOAD fills (R62). -/
def KilnRecord.loaded (r : KilnRecord) (charge : KilnCharge) (first : Option Step) : KilnRecord :=
  { r.emptied with
    state := .loaded
    charge := some charge
    dryBulb := match first with | some x => x.target | none => 0
    depression := match first with | some x => x.depression | none => 0
    holds := r.status.holds }

/-- A LOAD with its checks passed: the charge created, the record filled, the probe unit told, the first snapshot
written (R40, R62, R122). -/
def State.loadKiln (s : State) (k : KilnNo) (e : SpeciesEntry) (id : Nat) (x : Schedule) : State :=
  let number := s.issuedChargeNumber
  let s := (s.writeChargeCounter number).addCharge (.created number k e.code id s.stamp)
  let charge : KilnCharge :=
    { number := number, species := e.code, speciesCheck := e.checkValue, schedule := id, scheduleCheck := x.checkValue }
  ((s.modifyKiln k fun r => r.loaded charge x.steps.head?).probesLoaded k).writeSnapshot k

/-- What the kiln supervisor answers to LOAD (R62). -/
def loadAnswer (kiln species schedule : Nat) (s : State) : Answer :=
  match kilnOf kiln with
  | none => .refuse .outOfRange
  | some k =>
    if !(inRange 1 255 species && inRange 1 8 schedule) then .refuse .outOfRange
    else if (s.kiln k).state ≠ .empty then .refuse .wrongState
    else
      match s.speciesEntry species, s.schedule schedule with
      | some e, some x =>
        if Config.chargeCapacity ≤ s.charges.length then .refuse .full
        else .ok (u16 s.issuedChargeNumber) (s.loadKiln k e schedule x)
      | _, _ => .refuse .notFound

/-- LOAD (R62). -/
def execLoad (kiln species schedule : Nat) (s : State) : Host.Outcome State Fault Refusal :=
  .next (hostRequest (.load kiln species schedule) (loadAnswer kiln species schedule) s)

/-- An integer clamped to 0..hi. -/
def clampTo (hi : Nat) (x : Int) : Nat := min hi x.toNat

/-- The current dry-bulb that START sets (R63). -/
def KilnRecord.startDryBulb (r : KilnRecord) (first : Option Step) : Nat :=
  if r.dryValid then clampTo 1200 r.dryReadback
  else match first with | some x => x.target | none => r.dryBulb

/-- The current depression that START sets (R63). -/
def KilnRecord.startDepression (r : KilnRecord) (first : Option Step) : Nat :=
  if r.dryValid && r.wetValid then clampTo 400 (r.dryReadback - r.wetReadback)
  else match first with | some x => x.depression | none => r.depression

/-- The kiln record that START sets going at step 0 (R63). -/
def KilnRecord.started (r : KilnRecord) (first : Option Step) : KilnRecord :=
  { r with
    state := if r.holds.isEmpty then .running else .held
    stepIndex := 0
    stepElapsed := 0
    overtimeDisarmed := false
    dryBulb := r.startDryBulb first
    depression := r.startDepression first }

/-- Step 0 of the kiln's schedule, when present. -/
def State.firstStep (s : State) (k : KilnNo) : Option Step :=
  match s.kilnSchedule k with
  | some x => x.steps.head?
  | none => none

/-- What the kiln supervisor answers to START (R63). -/
def startAnswer (kiln : Nat) (s : State) : Answer :=
  match kilnOf kiln with
  | none => .refuse .outOfRange
  | some k =>
    if (s.kiln k).state ≠ .loaded then .refuse .wrongState
    else if !s.kilnPortIsUp k then .refuse .wrongState
    else .ok [] ((s.modifyKiln k fun r => r.started (s.firstStep k)).writeSnapshot k)

/-- START (R63). -/
def execStart (kiln : Nat) (s : State) : Host.Outcome State Fault Refusal :=
  .next (hostRequest (.start kiln) (startAnswer kiln) s)

/-! ### HOLD and RELEASE -/

/-- What the kiln supervisor answers to HOLD (R60). -/
def holdAnswer (kiln : Nat) (s : State) : Answer :=
  match kilnOf kiln with
  | none => .refuse .outOfRange
  | some k =>
    match (s.kiln k).state with
    | .empty | .complete => .refuse .wrongState
    | .loaded | .running | .held | .faultHold | .recovery =>
      .ok [] (s.setHolds k { (s.kiln k).holds with host := true })

/-- HOLD (R60). -/
def execHold (kiln : Nat) (s : State) : Host.Outcome State Fault Refusal :=
  .next (hostRequest (.hold kiln) (holdAnswer kiln) s)

/-- A RELEASE of HOST (R61). -/
def State.releaseHost (s : State) (k : KilnNo) : State := s.setHolds k { (s.kiln k).holds with host := false }

/-- A RELEASE of OVERTIME, which disarms the maximum of the current step (R61). -/
def State.releaseOvertime (s : State) (k : KilnNo) : State :=
  (s.modifyKiln k fun r => { r with overtimeDisarmed := true }).setHolds k
    { (s.kiln k).holds with overtime := false }

/-- What the kiln supervisor answers to RELEASE; the reason is 0 for HOST and 1 for OVERTIME (R61, R198). -/
def releaseAnswer (kiln reason : Nat) (s : State) : Answer :=
  match kilnOf kiln, flagOf reason with
  | some k, some overtime =>
    if (s.kiln k).state = .empty then .refuse .wrongState
    else if overtime then
      if (s.kiln k).holds.overtime then .ok [] (s.releaseOvertime k) else .refuse .wrongState
    else if (s.kiln k).holds.host then .ok [] (s.releaseHost k)
    else .refuse .wrongState
  | _, _ => .refuse .outOfRange

/-- RELEASE (R61). -/
def execRelease (kiln reason : Nat) (s : State) : Host.Outcome State Fault Refusal :=
  .next (hostRequest (.release kiln reason) (releaseAnswer kiln reason) s)

/-! ### SKIP, UNLOAD, RESUME, ABANDON -/

/-- The reply content of SKIP: the new step index, or its absence for COMPLETE (R71; log entry 24). -/
def State.skipContent (s : State) (k : KilnNo) : List Octet :=
  optional 1 (if (s.kiln k).state = .complete then none else some (u8 (s.kiln k).stepIndex))

/-- What the kiln supervisor answers to SKIP (R71). -/
def skipAnswer (kiln : Nat) (s : State) : Answer :=
  match kilnOf kiln with
  | none => .refuse .outOfRange
  | some k =>
    match (s.kiln k).state with
    | .running | .held => .ok ((s.advanceStep k false).skipContent k) (s.advanceStep k false)
    | .empty | .loaded | .faultHold | .complete | .recovery => .refuse .wrongState

/-- SKIP (R71). -/
def execSkip (kiln : Nat) (s : State) : Host.Outcome State Fault Refusal :=
  .next (hostRequest (.skip kiln) (skipAnswer kiln) s)

/-- The number of the charge a kiln holds. -/
def KilnRecord.chargeNumber (r : KilnRecord) : Nat :=
  match r.charge with
  | some c => c.number
  | none => 0

/-- What UNLOAD and ABANDON do: the charge staged, the snapshot invalid, the probe unit told, the record EMPTY (R73). -/
def State.unloadKiln (s : State) (k : KilnNo) : State :=
  (((s.stageCharge (s.kiln k).chargeNumber).setSnapshot k none).probesUnloaded k).modifyKiln k KilnRecord.emptied

/-- What the kiln supervisor answers to UNLOAD (R73). -/
def unloadAnswer (kiln : Nat) (s : State) : Answer :=
  match kilnOf kiln with
  | none => .refuse .outOfRange
  | some k =>
    if (s.kiln k).state = .empty then .refuse .wrongState
    else .ok (u16 (s.kiln k).chargeNumber) (s.unloadKiln k)

/-- UNLOAD (R73). -/
def execUnload (kiln : Nat) (s : State) : Host.Outcome State Fault Refusal :=
  .next (hostRequest (.unload kiln) (unloadAnswer kiln) s)

/-- The kiln record that RESUME sets going (R78). -/
def KilnRecord.resumed (r : KilnRecord) : KilnRecord :=
  { r with state := if r.holds.isEmpty then .running else .held }

/-- RESUME's checks on the tables, after which it is taken (R78). -/
def resumeChecked (s : State) (k : KilnNo) (c : KilnCharge) : Answer :=
  match s.speciesEntry c.species, s.schedule c.schedule with
  | some e, some x =>
    if e.checkValue ≠ c.speciesCheck ∨ x.checkValue ≠ c.scheduleCheck then .refuse .mismatch
    else if x.steps.length ≤ (s.kiln k).stepIndex then .refuse .mismatch
    else .ok [] ((s.modifyKiln k KilnRecord.resumed).writeSnapshot k)
  | _, _ => .refuse .notFound

/-- What the kiln supervisor answers to RESUME (R78). -/
def resumeAnswer (kiln : Nat) (s : State) : Answer :=
  match kilnOf kiln with
  | none => .refuse .outOfRange
  | some k =>
    if (s.kiln k).state ≠ .recovery ∨ s.kilnPortIsUp k = false then .refuse .wrongState
    else
      match (s.kiln k).charge with
      | some c => resumeChecked s k c
      | none => .refuse .notFound

/-- RESUME (R78). -/
def execResume (kiln : Nat) (s : State) : Host.Outcome State Fault Refusal :=
  .next (hostRequest (.resume kiln) (resumeAnswer kiln) s)

/-- What the kiln supervisor answers to ABANDON (R79). -/
def abandonAnswer (kiln : Nat) (s : State) : Answer :=
  match kilnOf kiln with
  | none => .refuse .outOfRange
  | some k =>
    if (s.kiln k).state ≠ .recovery then .refuse .wrongState
    else .ok (u16 (s.kiln k).chargeNumber) (s.unloadKiln k)

/-- ABANDON (R79). -/
def execAbandon (kiln : Nat) (s : State) : Host.Outcome State Fault Refusal :=
  .next (hostRequest (.abandon kiln) (abandonAnswer kiln) s)

/-! ### KILN_CONFIG and READ_KILN -/

/-- The configuration that nine values make, when each is in its range; the learn role is 0 for CONTROL and 1 for
MONITOR (R56, R198). -/
def kilnConfigOf (si ci wet probes learning role loss jump shift : Nat) : Option KilnConfig :=
  match flagOf learning, flagOf role with
  | some learning, some role =>
    if inRange 1 60 si && inRange 2 60 ci && inRange 1 8 wet && inRange 1 24 probes && inRange 2 15 loss &&
        inRange 50 2000 jump && decide (shift ≤ 3) then
      some { sweepInterval := si, controllerInterval := ci, wetCount := wet, minimumProbes := probes,
             learning := learning, learnMonitor := role, lossLimit := loss, jumpLimit := jump, smoothingShift := shift }
    else none
  | _, _ => none

/-- What the kiln supervisor answers to KILN-CONFIG (R56). -/
def kilnConfigAnswer (kiln : Nat) (config : Option KilnConfig) (s : State) : Answer :=
  match kilnOf kiln, config with
  | some k, some c => .ok [] (s.modifyKiln k fun r => { r with config := c })
  | _, _ => .refuse .outOfRange

/-- KILN_CONFIG (R56). -/
def execKilnConfig (kiln si ci wet probes learning role loss jump shift : Nat) (s : State) :
    Host.Outcome State Fault Refusal :=
  .next (hostRequest (.kilnConfig kiln si ci wet probes learning role loss jump shift)
    (kilnConfigAnswer kiln (kilnConfigOf si ci wet probes learning role loss jump shift)) s)

/-- The current step's seven fields, each with its absence (R80; log entry 24). -/
def stepFieldsOptional (x : Option Step) : List Octet :=
  optional 2 (x.map fun x => i16 x.target) ++ optional 2 (x.map fun x => u16 x.depression) ++
    optional 1 (x.map fun x => u8 x.ramp) ++ optional 1 (x.map fun x => u8 x.rule.number) ++
    optional 2 (x.map fun x => u16 x.threshold) ++ optional 2 (x.map fun x => u16 x.maximum) ++
    optional 1 (x.map fun x => u8 x.action.number)

/-- The reply content of READ-KILN (R80). DEDUCED, unsafe: that the step count is 1 octet is log entry 24. DESIGN CHOICE,
unsafe: that the step count and the seven step fields, which R80 adds while the kiln has a charge, are sent for an EMPTY kiln
as well, each marked absent at its full width, and that the step count is marked absent with an absent schedule, is log
entry 24. -/
def State.kilnContent (s : State) (k : KilnNo) : List Octet :=
  let r := s.kiln k
  r.octets ++ optional 1 ((s.kilnSchedule k).map fun x => u8 x.steps.length) ++
    stepFieldsOptional (s.currentStep k) ++ i16 r.setpoint.dryBulb ++ i16 r.setpoint.wetBulb

/-- What the kiln supervisor answers to READ-KILN (R80). -/
def readKilnAnswer (kiln : Nat) (s : State) : Answer :=
  match kilnOf kiln with
  | none => .refuse .outOfRange
  | some k => .ok (s.kilnContent k) s

/-- READ_KILN (R80). -/
def execReadKiln (kiln : Nat) (s : State) : Host.Outcome State Fault Refusal :=
  .next (hostRequest (.readKiln kiln) (readKilnAnswer kiln) s)

/-! ### Events -/

/-- MINUTE_EVENT (R64, R162). -/
def execMinuteEvent (k : KilnNo) (s : State) : Host.Outcome State Fault Refusal :=
  .next (s.whenOn fun s => (s.deliverMinute k).kilnMinute k)

/-- CONTROLLER_LOST: the kiln supervisor takes the report (R74). It may take a later loss before an earlier "port up"
(R75; log entry 6). -/
def execControllerLost (k : KilnNo) (s : State) : Host.Outcome State Fault Refusal :=
  .next (s.whenOn fun s =>
    if Report.controllerLost k ∈ s.reports then (s.takeReport (.controllerLost k)).takeControllerLost k else s)

/-- KILN_PORT_UP: the kiln supervisor takes the report (R75). -/
def execKilnPortUp (k : KilnNo) (s : State) : Host.Outcome State Fault Refusal :=
  .next (s.whenOn fun s =>
    if s.reportNext (.kilnPortUp k) then (s.takeReport (.kilnPortUp k)).takeKilnPortUp k else s)

end Sys2Proof.Machine
end

