-- ==== Sys2Proof/Machine/LinkRequests.lean ====
section
/-!
DEFINITION. The meanings of the link's own requests IDENTIFY, READ_COUNTERS, RESTART and CONTINUE (R190, R192 to R194) and of the
link's events (R183, R185, R186).
-/
namespace Sys2Proof.Machine

/-- IDENTIFY (R192). -/
def execIdentify (s : State) : Host.Outcome State Fault Refusal :=
  .next (hostRequest .identify (fun s => .ok (identityContent s.link.rate) s) s)

/-- A subject of READ-COUNTERS: a port, the line (9) or the link (10) (R193, R198). -/
inductive CounterSubject where
  | port (p : PortNo)
  | line
  | link
deriving DecidableEq, Repr

/-- The subject that a number names. -/
def counterSubject (n : Nat) : Option CounterSubject :=
  if n = 9 then some .line else if n = 10 then some .link else (portOf n).map .port

/-- The counters of a subject in the order of R193. -/
def State.counterOctets (s : State) : CounterSubject → List Octet
  | .port p => (s.port p).counters.octets
  | .line => s.line.counters.octets
  | .link => u32 s.link.discarded

/-- The counters of a subject set to 0 (R193). -/
def State.clearCounters (s : State) : CounterSubject → State
  | .port p => s.modifyPort p fun r => { r with counters := .zero }
  | .line => s.countLine fun _ => .zero
  | .link => s.modifyLink fun l => { l with discarded := 0 }

/-- What the link answers to READ-COUNTERS; the choice is 0 for KEEP and 1 for CLEAR (R193, R198). -/
def readCountersAnswer (subject choice : Nat) (s : State) : Answer :=
  match counterSubject subject, flagOf choice with
  | some x, some clear => .ok (u8 subject ++ s.counterOctets x) (if clear then s.clearCounters x else s)
  | _, _ => .refuse .outOfRange

/-- READ_COUNTERS (R193). -/
def execReadCounters (subject choice : Nat) (s : State) : Host.Outcome State Fault Refusal :=
  .next (hostRequest (.readCounters subject choice) (readCountersAnswer subject choice) s)

/-- RESTART: answered here; the reset follows when its reply has been sent (R194). -/
def execRestart (s : State) : Host.Outcome State Fault Refusal :=
  .next (hostRequest .restart (fun s => .ok [] s) s)

/-- The reply store moved on by one segment (R190). -/
def ReplyStore.advance (x : ReplyStore) : ReplyStore :=
  { segments := x.segments.tail, next := if x.segments.tail.isEmpty then 0 else x.next + 1 }

/-- A CONTINUE taken by the link (R190). -/
def State.takeContinue (s : State) : State :=
  let held := s.holdRequest 0x04 (some .continueReply) true
  match held.link.store.segments with
  | [] => held.answerRefused 0x04 .wrongState
  | segment :: rest =>
    (held.modifyLink fun l => { l with store := l.store.advance }).compose false
      (okPayload 0x04 held.notices rest.length segment)

/-- CONTINUE (R190); the buffer as for every request (log entry 4). -/
def execContinue (s : State) : Host.Outcome State Fault Refusal :=
  .next (s.whenOn fun s =>
    if s.link.buffer.isNone || s.link.awaits .continueReply then s.takeContinue else s.refuseBusy 0x04)

/-- LINK_OCTET_RECEIVED (R183). -/
def execLinkOctetReceived (octet : Octet) (framingError : Bool) (s : State) : Host.Outcome State Fault Refusal :=
  .next (s.whenOn fun s => s.receiveLinkOctet octet framingError)

/-- LINK_SILENCE_EXPIRY (R183). -/
def execLinkSilenceExpiry (s : State) : Host.Outcome State Fault Refusal := .next (s.whenOn State.linkSilence)

/-- The oldest frame composed has been sent. -/
def State.popFrame (s : State) : State := s.modifyLink fun l => { l with sending := l.sending.tail }

/-- The held request is a RESTART. -/
def Link.restarting (l : Link) : Bool :=
  match l.buffer with
  | some h => h.request == some .restart
  | none => false

/-- The last octet of the held request's reply has been sent: the buffer becomes EMPTY, and after a RESTART the part
resets (R185, R194). It is the frame that is sent next only when no BUSY reply was composed before it (R187). -/
def State.replyDone (s : State) (straps : Straps) : State :=
  match s.link.sending with
  | frame :: _ =>
    if frame.busy then s
    else if s.link.restarting then s.resetKept straps
    else s.popFrame.modifyLink fun l => { l with buffer := none }
  | [] => s

/-- REPLY_SENT (R185, R194). -/
def execReplySent (straps : Straps) (s : State) : Host.Outcome State Fault Refusal :=
  .next (s.whenOn fun s => s.replyDone straps)

/-- The last octet of a BUSY reply has been sent: the refusal slot is free (R186). -/
def State.busyDone (s : State) : State :=
  match s.link.sending with
  | frame :: _ => if frame.busy then s.popFrame else s
  | [] => s

/-- BUSY_REPLY_SENT (R186). -/
def execBusyReplySent (s : State) : Host.Outcome State Fault Refusal := .next (s.whenOn State.busyDone)

end Sys2Proof.Machine
end

