-- ==== Sys2Proof/Machine/NoticeRequests.lean ====
section
/-!
DEFINITION. The notice unit's requests (R175, R178, R179).
-/
namespace Sys2Proof.Machine

/-- The waiting class of highest priority (R178). -/
def Notices.first (n : Notices) : Option NoticeClass := noticeClasses.find? n.waiting

/-- A class emptied; KILN_STEP with its overtime flags, PACK_READY by its count (R173, R178). -/
def Notices.emptied (n : Notices) : NoticeClass → Notices
  | .kilnFault => { n with kilnFault := Vector.replicate 6 false }
  | .recovery => { n with recovery := Vector.replicate 6 false }
  | .lineStop => { n with lineStop := .empty }
  | .labelFault => { n with labelFault := Vector.replicate 4 false }
  | .portDown => { n with portDown := Vector.replicate 8 false }
  | .probeChange => { n with probeChange := Vector.replicate 6 false }
  | .kilnStep => { n with kilnStep := Vector.replicate 6 false, kilnStepOvertime := Vector.replicate 6 false }
  | .chargeDried => { n with chargeDried := Vector.replicate 6 false }
  | .packReady => { n with packReady := 0 }
  | .moistureInvalid => { n with moistureInvalid := Vector.replicate 6 false }
  | .clockInvalid => { n with clockInvalid := false }

/-- What the notice unit answers to TAKE-NOTICE; the class NONE has the number 11 (R178; log entry 24). -/
def takeNoticeAnswer (s : State) : Answer :=
  match s.notices.first with
  | some c => .ok (u8 c.code ++ s.notices.content c) (s.modifyNotices fun n => n.emptied c)
  | none => .ok (u8 11) s

/-- TAKE_NOTICE (R178). -/
def execTakeNotice (s : State) : Host.Outcome State Fault Refusal := .next (hostRequest .takeNotice takeNoticeAnswer s)

/-- PEEK_NOTICES (R179). -/
def execPeekNotices (s : State) : Host.Outcome State Fault Refusal :=
  .next (hostRequest .peekNotices (fun s => .ok s.notices.peekContent s) s)

/-- What the notice unit answers to SET-MASKS (R175). -/
def setMasksAnswer (choices : List Nat) (s : State) : Answer :=
  match masksOf choices with
  | some m => .ok m.octets (s.modifyNotices fun n => { n with masks := m })
  | none => .refuse .outOfRange

/-- SET_MASKS (R175). -/
def execSetMasks (choices : List Nat) (s : State) : Host.Outcome State Fault Refusal :=
  .next (hostRequest (.setMasks choices) (setMasksAnswer choices) s)

end Sys2Proof.Machine
end

