-- ==== Sys2Proof/Machine/Packs.lean ====
section
/-!
DEFINITION. The requests of the pack builder and the label unit (R142, R149, R155, R159, R160) and the label unit's events (R156,
R158).
-/
namespace Sys2Proof.Machine

/-- The bay configuration that five settings make, when each is in its range (R142). -/
def bayConfigOf (enabled lo hi nominal target : Nat) : Option BayConfig :=
  match flagOf enabled with
  | some enabled =>
    if inRange 300 9999 lo && inRange lo 9999 hi && inRange 300 9999 nominal && inRange 1 2000 target then
      some { enabled := enabled, minimum := lo, maximum := hi, nominal := nominal, target := target }
    else none
  | none => none

/-- What the pack builder answers to BAY-CONFIG (R142). -/
def bayConfigAnswer (bay : Nat) (config : Option BayConfig) (s : State) : Answer :=
  match bayOf bay, config with
  | some b, some c =>
    if (s.bay b).state = .empty ∨ (s.bay b).state = .disabled then
      .ok [] (s.modifyBay b fun x =>
        { x with config := some c, state := if c.enabled then .empty else .disabled })
    else .refuse .inUse
  | _, _ => .refuse .outOfRange

/-- BAY_CONFIG (R142). -/
def execBayConfig (bay enabled lo hi nominal target : Nat) (s : State) : Host.Outcome State Fault Refusal :=
  .next (hostRequest (.bayConfig bay enabled lo hi nominal target)
    (bayConfigAnswer bay (bayConfigOf enabled lo hi nominal target)) s)

/-- A bay in OPEN enters CLOSING, and its pack closes at once when no place is reserved (R149). -/
def State.beginClosing (s : State) (b : BayNo) : State :=
  let s := s.modifyBay b fun x => { x with state := .closing }
  match (s.bay b).openPack with
  | some p => if p.reserved = 0 then s.closePack b else s
  | none => s

/-- The reply content of CLOSE-PACK: the bay's state as the request left it, by its number (R149; log entry 24). -/
def State.bayStateContent (s : State) (b : BayNo) : List Octet := u8 (s.bay b).state.code

/-- What the pack builder answers to CLOSE-PACK (R149). -/
def closePackAnswer (bay : Nat) (s : State) : Answer :=
  match bayOf bay with
  | none => .refuse .outOfRange
  | some b =>
    match (s.bay b).state with
    | .disabled | .empty | .waitRecord | .labelling | .labelFault => .refuse .wrongState
    | .closing => .ok (s.bayStateContent b) s
    | .opened => .ok ((s.beginClosing b).bayStateContent b) (s.beginClosing b)

/-- CLOSE_PACK (R149). -/
def execClosePack (bay : Nat) (s : State) : Host.Outcome State Fault Refusal :=
  .next (hostRequest (.closePack bay) (closePackAnswer bay) s)

/-- The record that a request names by its serial, or the refusal of R159. -/
def State.namedPack (s : State) (serial : Nat) : Except Status PackRecord :=
  if !inRange 1 999999 serial then .error .outOfRange
  else
    match s.pack serial with
    | some r => .ok r
    | none => .error .notFound

/-- The label state is FAULT. -/
def LabelState.isFault : LabelState → Bool
  | .fault _ => true
  | .queued | .printing | .confirmed | .void => false

/-- A record in FAULT printed again: QUEUED, its job queued, its bay LABELLING (R159). -/
def State.reprintLabel (s : State) (r : PackRecord) : State :=
  ((s.modifyPack r.serial fun r => { r with label := .queued, scanBack := none }).modifyBay r.bay
    fun b => { b with state := .labelling }).appendJob r.serial

/-- What the pack builder answers to REPRINT (R159). -/
def reprintAnswer (serial : Nat) (s : State) : Answer :=
  match s.namedPack serial with
  | .error status => .refuse status
  | .ok r => if r.label.isFault then .ok [] (s.reprintLabel r) else .refuse .wrongState

/-- REPRINT (R159). -/
def execReprint (serial : Nat) (s : State) : Host.Outcome State Fault Refusal :=
  .next (hostRequest (.reprint serial) (reprintAnswer serial) s)

/-- What the pack builder answers to VOID-LABEL (R159). -/
def voidLabelAnswer (serial : Nat) (s : State) : Answer :=
  match s.namedPack serial with
  | .error status => .refuse status
  | .ok r =>
    if r.label.isFault then .ok [] ((s.modifyPack serial fun r => { r with label := .void }).freeBay r)
    else .refuse .wrongState

/-- VOID_LABEL (R159). -/
def execVoidLabel (serial : Nat) (s : State) : Host.Outcome State Fault Refusal :=
  .next (hostRequest (.voidLabel serial) (voidLabelAnswer serial) s)

/-- What the pack builder answers to READ-PACK (R160). -/
def readPackAnswer (serial : Nat) (s : State) : Answer :=
  match s.namedPack serial with
  | .error status => .refuse status
  | .ok r => .ok r.octets s

/-- READ_PACK (R160). -/
def execReadPack (serial : Nat) (s : State) : Host.Outcome State Fault Refusal :=
  .next (hostRequest (.readPack serial) (readPackAnswer serial) s)

/-- A record as LIST-PACKS lists it (R160). -/
def PackRecord.listed (r : PackRecord) : List Octet := u32 r.serial ++ numberOctet r.bay ++ u8 r.label.code

/-- LIST_PACKS (R160). -/
def execListPacks (s : State) : Host.Outcome State Fault Refusal :=
  .next (hostRequest .listPacks (fun s => .ok (listOf PackRecord.listed s.packs) s) s)

/-- The label state lets the record be collected (R160). -/
def LabelState.settled : LabelState → Bool
  | .confirmed | .void => true
  | .queued | .printing | .fault _ => false

/-- What the pack builder answers to COLLECT-PACK (R154, R160). -/
def collectPackAnswer (serial : Nat) (s : State) : Answer :=
  match s.namedPack serial with
  | .error status => .refuse status
  | .ok r =>
    if r.label.settled then .ok r.octets { s with packs := eraseBy PackRecord.serial serial s.packs }.giveFreedPlace
    else .refuse .wrongState

/-- COLLECT_PACK (R160). -/
def execCollectPack (serial : Nat) (s : State) : Host.Outcome State Fault Refusal :=
  .next (hostRequest (.collectPack serial) (collectPackAnswer serial) s)

/-- The serial of a bay's closed record in LABELLING and LABEL_FAULT (R160). -/
def State.bayRecordSerial (s : State) (b : BayNo) : Option Nat :=
  match (s.bay b).state with
  | .labelling | .labelFault => (s.packs.find? fun r => r.bay == b && !r.label.settled).map PackRecord.serial
  | .disabled | .empty | .opened | .closing | .waitRecord => none

/-- What the pack builder answers to READ-BAY (R160). -/
def readBayAnswer (bay : Nat) (s : State) : Answer :=
  match bayOf bay with
  | none => .refuse .outOfRange
  | some b => .ok ((s.bay b).octets (s.bayRecordSerial b)) s

/-- READ_BAY (R160). -/
def execReadBay (bay : Nat) (s : State) : Host.Outcome State Fault Refusal :=
  .next (hostRequest (.readBay bay) (readBayAnswer bay) s)

/-- What the label unit answers to LABEL-CONFIG (R155). -/
def labelConfigAnswer (timeout : Nat) (s : State) : Answer :=
  if inRange 5 120 timeout then .ok [] (s.modifyLabel fun l => { l with timeoutSetting := timeout })
  else .refuse .outOfRange

/-- LABEL_CONFIG (R155). -/
def execLabelConfig (timeout : Nat) (s : State) : Host.Outcome State Fault Refusal :=
  .next (hostRequest (.labelConfig timeout) (labelConfigAnswer timeout) s)

/-! ### Events -/

/-- LABEL_PAUSE_EXPIRY (R156). -/
def execLabelPauseExpiry (s : State) : Host.Outcome State Fault Refusal :=
  .next (s.whenOn fun s => if s.label.pause then s.labelPauseOver else s)

/-- LABEL_TIMEOUT_EXPIRY (R158). -/
def execLabelTimeoutExpiry (s : State) : Host.Outcome State Fault Refusal :=
  .next (s.whenOn fun s =>
    if s.label.timeout.isSome then (s.modifyLabel fun l => { l with timeout := none }).faultCurrent .timeout else s)

/-- LABEL_PORT_UP: the label unit takes the report and starts an UNSTARTED job (R156). -/
def execLabelPortUp (s : State) : Host.Outcome State Fault Refusal :=
  .next (s.whenOn fun s => if s.reportNext .labelPortUp then (s.takeReport .labelPortUp).startCurrent else s)

/-- LABEL_PORT_LEFT_UP: the label unit takes the report (R158). -/
def execLabelPortLeftUp (s : State) : Host.Outcome State Fault Refusal :=
  .next (s.whenOn fun s =>
    if s.reportNext .labelPortLeftUp then (s.takeReport .labelPortLeftUp).labelPortLost else s)

end Sys2Proof.Machine
end

