-- ==== Sys2Proof/Machine/PlanerLine.lean ====
section
/-!
DEFINITION. The planer line tracker's requests (R124, R138, R140) and events (R123, R125, R131, R135).
-/
namespace Sys2Proof.Machine

/-- The line configuration that six settings make, when each is in its range; the polarity is 0 for BLOCKED_HIGH and 1
for BLOCKED_LOW (R124, R198). -/
def lineConfigOf (counts divert stack short polarity glitch : Nat) : Option LineConfig :=
  match flagOf polarity with
  | some blockedLow =>
    if inRange 100 10000 counts && inRange 1 1073741824 divert && inRange (divert + 1) 1073741824 stack &&
        inRange 300 6000 short && decide (glitch ≤ 20) then
      some { countsPerMetre := some counts, divertDistance := some divert, stackDistance := some stack,
             shortLimit := short, blockedLow := blockedLow, glitchFilter := glitch }
    else none
  | none => none

/-- The line with a new configuration: the eye's present level is the starting level, and a filter that runs is dropped
(R124, R125; log entry 14). -/
def Line.configure (l : Line) (c : LineConfig) : Line :=
  { l with config := c, capture := { l.capture with blocked := c.senses l.eyePin }, eyeFilter := none }

/-- What the planer line tracker answers to LINE-CONFIG (R124). -/
def lineConfigAnswer (config : Option LineConfig) (s : State) : Answer :=
  match config with
  | none => .refuse .outOfRange
  | some c => if s.line.queue ≠ [] then .refuse .inUse else .ok [] (s.modifyLine fun l => l.configure c)

/-- LINE_CONFIG (R124). -/
def execLineConfig (counts divert stack short polarity glitch : Nat) (s : State) : Host.Outcome State Fault Refusal :=
  .next (hostRequest (.lineConfig counts divert stack short polarity glitch)
    (lineConfigAnswer (lineConfigOf counts divert stack short polarity glitch)) s)

/-- What the planer line tracker answers to LINE-CLEAR: how many records were removed (R138). DEDUCED, unsafe: that this
number is 1 octet is log entry 24. -/
def lineClearAnswer (s : State) : Answer := .ok (u8 s.line.queue.length) s.clearLine

/-- LINE_CLEAR (R138). -/
def execLineClear (s : State) : Host.Outcome State Fault Refusal := .next (hostRequest .lineClear lineClearAnswer s)

/-- READ_LINE (R140). -/
def execReadLine (s : State) : Host.Outcome State Fault Refusal :=
  .next (hostRequest .readLine (fun s => .ok (lineContent s) s) s)

/-! ### Events -/

/-- The encoder moves by one step, or by a change that gives no direction (R123). -/
def State.encoderMoves (s : State) (move : EncoderMove) : State :=
  match move with
  | .forward => s.moveCounter (s.line.counter + 1)
  | .reverse => s.moveCounter (s.line.counter - 1)
  | .both => s

/-- ENCODER_STEP (R123, R134, R136). -/
def execEncoderStep (move : EncoderMove) (s : State) : Host.Outcome State Fault Refusal :=
  .next (s.whenOn fun s => s.encoderMoves move)

/-- EYE_CHANGE (R125): the pin's level changes at any time; the tracker sees it while the part runs. -/
def execEyeChange (level : Bool) (s : State) : Host.Outcome State Fault Refusal :=
  .next (match s.power with
    | .on => s.changeEye level
    | .held => s.modifyLine fun l => { l with eyePin := level }
    | .off => s.modifyLine fun l => { l with eyePin := level })

/-- EYE_FILTER_EXPIRY (R125). -/
def execEyeFilterExpiry (s : State) : Host.Outcome State Fault Refusal := .next (s.whenOn State.eyeFilterOver)

/-- METER_PORT_LEFT_UP: the tracker takes the report (R131). -/
def execMeterPortLeftUp (s : State) : Host.Outcome State Fault Refusal :=
  .next (s.whenOn fun s =>
    if s.reportNext .meterPortLeftUp then (s.takeReport .meterPortLeftUp).meterPortLost else s)

/-- DIVERT_PULSE_EXPIRY: DIVERT is released (R135). -/
def execDivertPulseExpiry (s : State) : Host.Outcome State Fault Refusal :=
  .next (s.whenOn fun s => s.modifyLine fun l => { l with divertPulse := false })

end Sys2Proof.Machine
end

