-- ==== Sys2Proof/Machine/Ports.lean ====
section
/-!
DEFINITION. The field port controller's requests (R88, R89, R102) and the events on its lines and waits (R81 to R101).
-/
namespace Sys2Proof.Machine

/-- The reply window is allowed on the port (R88). -/
def windowValid (p : PortNo) (window : Nat) : Bool :=
  if (portKiln p).isSome then inRange 5 100 window else window == 10

/-- What the field port controller answers to ENABLE-PORT (R88). -/
def enablePortAnswer (port window limit auto retry : Nat) (s : State) : Answer :=
  match portOf port, flagOf auto, flagOf retry with
  | some p, some auto, some retry =>
    if !inRange 2 10 limit then .refuse .outOfRange
    else if !windowValid p window then .refuse .outOfRange
    else if (s.port p).state = .establishing ∨ (s.port p).state = .up then .refuse .wrongState
    else .ok [] (s.modifyPort p fun r => r.enabled window limit auto retry)
  | _, _, _ => .refuse .outOfRange

/-- ENABLE_PORT (R88). -/
def execEnablePort (port window limit auto retry : Nat) (s : State) : Host.Outcome State Fault Refusal :=
  .next (hostRequest (.enablePort port window limit auto retry) (enablePortAnswer port window limit auto retry) s)

/-- What the field port controller answers to DISABLE-PORT (R89). -/
def disablePortAnswer (port : Nat) (s : State) : Answer :=
  match portOf port with
  | none => .refuse .outOfRange
  | some p => .ok [] (s.disable p)

/-- DISABLE_PORT (R89). -/
def execDisablePort (port : Nat) (s : State) : Host.Outcome State Fault Refusal :=
  .next (hostRequest (.disablePort port) (disablePortAnswer port) s)

/-- What the field port controller answers to READ-PORT (R102). -/
def readPortAnswer (port : Nat) (s : State) : Answer :=
  match portOf port with
  | none => .refuse .outOfRange
  | some p => .ok (s.port p).octets s

/-- READ_PORT (R102). -/
def execReadPort (port : Nat) (s : State) : Host.Outcome State Fault Refusal :=
  .next (hostRequest (.readPort port) (readPortAnswer port) s)

/-! ### Events -/

/-- FIELD_REQUEST_SENT (R84). -/
def execFieldRequestSent (p : PortNo) (s : State) : Host.Outcome State Fault Refusal :=
  .next (s.whenOn fun s => s.requestSent p)

/-- REPLY_WINDOW_EXPIRY (R84). -/
def execReplyWindowExpiry (p : PortNo) (s : State) : Host.Outcome State Fault Refusal :=
  .next (s.whenOn fun s => s.windowOver p)

/-- FIELD_OCTET_RECEIVED (R84, R85). -/
def execFieldOctetReceived (p : PortNo) (octet : Octet) (error : Bool) (s : State) :
    Host.Outcome State Fault Refusal :=
  .next (s.whenOn fun s => s.receiveFieldOctet p octet error)

/-- FIELD_OCTET_SILENCE (R85). -/
def execFieldOctetSilence (p : PortNo) (s : State) : Host.Outcome State Fault Refusal :=
  .next (s.whenOn fun s => s.octetSilence p)

/-- FIELD_SILENT_WAIT_EXPIRY (R81). -/
def execFieldSilentWaitExpiry (p : PortNo) (s : State) : Host.Outcome State Fault Refusal :=
  .next (s.whenOn fun s => s.silentWaitOver p)

/-- LINE_FAULT (R95). -/
def execLineFault (p : PortNo) (s : State) : Host.Outcome State Fault Refusal :=
  .next (s.whenOn fun s => s.takeLineFault p)

/-- WAKE_PULSE_END (R90). -/
def execWakePulseEnd (p : PortNo) (s : State) : Host.Outcome State Fault Refusal :=
  .next (s.whenOn fun s => s.modifyPort p PortRecord.endWakePulse)

/-- WAKE_WAIT_EXPIRY (R90). -/
def execWakeWaitExpiry (p : PortNo) (s : State) : Host.Outcome State Fault Refusal :=
  .next (s.whenOn fun s => s.modifyPort p PortRecord.endWakeWait)

/-- ATTEMPT_GAP_EXPIRY (R90). -/
def execAttemptGapExpiry (p : PortNo) (s : State) : Host.Outcome State Fault Refusal :=
  .next (s.whenOn fun s => s.modifyPort p PortRecord.endAttemptGap)

/-- AUTORETRY_EXPIRY (R96). -/
def execAutoretryExpiry (p : PortNo) (s : State) : Host.Outcome State Fault Refusal :=
  .next (s.whenOn fun s => s.modifyPort p PortRecord.endAutoretry)

/-- REESTABLISH_EXPIRY (R91). -/
def execReestablishExpiry (p : PortNo) (s : State) : Host.Outcome State Fault Refusal :=
  .next (s.whenOn fun s => s.modifyPort p PortRecord.endReestablish)

/-- CONTROLLER_INTERVAL_EXPIRY (R98). -/
def execControllerIntervalExpiry (k : KilnNo) (s : State) : Host.Outcome State Fault Refusal :=
  .next (s.whenOn fun s => s.controllerIntervalOver k)

/-- IDLE_WAIT_EXPIRY (R100, R101). -/
def execIdleWaitExpiry (p : PortNo) (s : State) : Host.Outcome State Fault Refusal :=
  .next (s.whenOn fun s => s.idleWaitOver p)

end Sys2Proof.Machine
end

