-- ==== Sys2Proof/Machine/Probes.lean ====
section
/-!
DEFINITION. The probe unit's requests (R105, R109, R120, R121) and events (R108, R118).
-/
namespace Sys2Proof.Machine

/-- What the probe unit answers to ASSIGN-PROBE (R105). -/
def assignProbeAnswer (serial kiln role tag : Nat) (s : State) : Answer :=
  match kilnOf kiln, roleOf role with
  | some k, some role =>
    if (s.assignment serial).isNone && decide (Config.assignmentCapacity ≤ s.assignments.length) then .refuse .full
    else
      .ok [] { s with assignments := insertBy Assignment.serial ⟨serial, k, role, tag⟩ s.assignments }
  | _, _ => .refuse .outOfRange

/-- ASSIGN_PROBE (R105). -/
def execAssignProbe (serial kiln role tag : Nat) (s : State) : Host.Outcome State Fault Refusal :=
  .next (hostRequest (.assignProbe serial kiln role tag) (assignProbeAnswer serial kiln role tag) s)

/-- What the probe unit answers to UNASSIGN-PROBE (R105). -/
def unassignProbeAnswer (serial : Nat) (s : State) : Answer :=
  if (s.assignment serial).isNone then .refuse .notFound
  else .ok [] { s with assignments := eraseBy Assignment.serial serial s.assignments }

/-- UNASSIGN_PROBE (R105). -/
def execUnassignProbe (serial : Nat) (s : State) : Host.Outcome State Fault Refusal :=
  .next (hostRequest (.unassignProbe serial) (unassignProbeAnswer serial) s)

/-- LIST_ASSIGNMENTS (R105). -/
def execListAssignments (s : State) : Host.Outcome State Fault Refusal :=
  .next (hostRequest .listAssignments (fun s => .ok (listOf Assignment.octets s.assignments) s) s)

/-- The full-scan flag set when the choice is yes (R109). -/
def State.chooseFullScan (s : State) (k : KilnNo) (full : Bool) : State :=
  if full then s.modifySweep k fun r => { r with fullScan := true } else s

/-- What the probe unit answers to SWEEP-NOW, with the already-sweeping indication (R109). -/
def sweepNowAnswer (kiln choice : Nat) (s : State) : Answer :=
  match kilnOf kiln, flagOf choice with
  | some k, some full =>
    if (s.kiln k).state = .empty ∨ (s.kiln k).state = .faultHold ∨ (s.port (kilnPort k)).state ≠ .up then
      .refuse .wrongState
    else if (s.sweep k).kind.isSome then .ok (flag true) (s.chooseFullScan k full)
    else .ok (flag false) ((s.chooseFullScan k full).planSweep k)
  | _, _ => .refuse .outOfRange

/-- SWEEP_NOW (R109). -/
def execSweepNow (kiln choice : Nat) (s : State) : Host.Outcome State Fault Refusal :=
  .next (hostRequest (.sweepNow kiln choice) (sweepNowAnswer kiln choice) s)

/-- The position tag of the assignment entry that holds a serial (R120). -/
def State.tagOf (s : State) (serial : Nat) : Option Nat := (s.assignment serial).map Assignment.tag

/-- The reply content of READ-PROBES (R120). DEDUCED, unsafe: that the number of outstanding pairs is 1 octet is log entry 24.
DESIGN CHOICE, unsafe: that in IDLE, where R120 gives no such number, it is sent as an optional field of its own, absent with
a zero octet, is log entry 24 as well. -/
def State.probesContent (s : State) (k : KilnNo) : List Octet :=
  let r := s.sweep k
  listOf (fun e : PresenceEntry => e.octets (s.tagOf e.serial)) (s.presence.filter fun e => e.port == k) ++
    r.events.octets ++ flag r.kind.isSome ++ optional 1 (r.kind.map fun x => u8 x.code) ++
    optional 1 (r.kind.map fun _ => u8 r.outstanding.length)

/-- What the probe unit answers to READ-PROBES; the event set is emptied (R120). -/
def readProbesAnswer (kiln : Nat) (s : State) : Answer :=
  match kilnOf kiln with
  | none => .refuse .outOfRange
  | some k => .ok (s.probesContent k) (s.modifySweep k fun r => { r with events := .empty })

/-- READ_PROBES (R120). -/
def execReadProbes (kiln : Nat) (s : State) : Host.Outcome State Fault Refusal :=
  .next (hostRequest (.readProbes kiln) (readProbesAnswer kiln) s)

/-- The entry removed, its planned exchange dropped, and the sweep it may complete (R116, R121). That the completion comes
before the reply is composed is a DESIGN CHOICE, unsafe: log entry 41. -/
def State.forgetEntry (s : State) (e : PresenceEntry) : State :=
  ((s.removePresence e.port e.address).dropPlanned e.port e.address).completeIfDone e.port

/-- What the probe unit answers to FORGET-PROBE (R121). -/
def forgetProbeAnswer (serial : Nat) (s : State) : Answer :=
  match s.presenceOf serial with
  | none => .refuse .notFound
  | some e => .ok (numberOctet e.port ++ u8 e.address) (s.forgetEntry e)

/-- FORGET_PROBE (R121). -/
def execForgetProbe (serial : Nat) (s : State) : Host.Outcome State Fault Refusal :=
  .next (hostRequest (.forgetProbe serial) (forgetProbeAnswer serial) s)

/-! ### Events -/

/-- The probe unit takes "port up": the sweep interval starts (R108). -/
def State.probePortUp (s : State) (k : KilnNo) : State :=
  s.modifySweep k fun r => { r with interval := some (s.sweepIntervalOf k) }

/-- PROBE_PORT_UP (R108). -/
def execProbePortUp (k : KilnNo) (s : State) : Host.Outcome State Fault Refusal :=
  .next (s.whenOn fun s =>
    if s.reportNext (.probePortUp k) then (s.takeReport (.probePortUp k)).probePortUp k else s)

/-- The probe unit takes "port left UP": the interval stops, the discard mark is absent, a sweep in flight is aborted
(R108, R118). A report taken only after the port is UP again with a new plan leaves the port's sweep queue: DESIGN
CHOICE, unsafe, log entry 39. -/
def State.probePortLeftUp (s : State) (k : KilnNo) : State :=
  let s := if (s.sweep k).kind.isSome then s.abortSweep k else s
  s.modifySweep k fun r => { r with interval := none, discard := none }

/-- PROBE_PORT_LEFT_UP (R108, R118). -/
def execProbePortLeftUp (k : KilnNo) (s : State) : Host.Outcome State Fault Refusal :=
  .next (s.whenOn fun s =>
    if s.reportNext (.probePortLeftUp k) then (s.takeReport (.probePortLeftUp k)).probePortLeftUp k else s)

/-- The sweep interval runs out: it starts again, and a sweep that is due is planned (R108). -/
def State.sweepIntervalOver (s : State) (k : KilnNo) : State :=
  match (s.sweep k).interval with
  | some _ =>
    let s := s.modifySweep k fun r => { r with interval := some (s.sweepIntervalOf k) }
    if s.sweepDue k then s.planSweep k else s
  | none => s

/-- SWEEP_INTERVAL_EXPIRY (R108). -/
def execSweepIntervalExpiry (k : KilnNo) (s : State) : Host.Outcome State Fault Refusal :=
  .next (s.whenOn fun s => s.sweepIntervalOver k)

end Sys2Proof.Machine
end

