-- ==== Sys2Proof/Machine/Tables.lean ====
section
/-!
DEFINITION. The table store's requests on species and schedules (02_species_and_schedules.md).
-/
namespace Sys2Proof.Machine

/-! ### Species -/

/-- A species code 1..255. -/
def validCode (code : Nat) : Bool := inRange 1 255 code

/-- The L values rise and the M values fall along the curve (R22). -/
def curveOrdered : List (Nat × Nat) → Bool
  | (l0, m0) :: (l1, m1) :: rest => decide (l0 < l1) && decide (m1 < m0) && curveOrdered ((l1, m1) :: rest)
  | [_] => true
  | [] => true

/-- The other 18 fields form a valid entry (R22). -/
def validSpecies (kT packLimit : Nat) (curve : List (Nat × Nat)) : Bool :=
  decide (kT ≤ 400) && (curve.length == 8) &&
    (curve.all fun p => decide (p.1 ≤ 65535) && inRange 300 8000 p.2) && curveOrdered curve &&
    match curve.head?, curve.getLast? with
    | some first, some last => decide (last.2 ≤ packLimit) && decide (packLimit < first.2)
    | _, _ => false

/-- The check value of a species entry (R23). -/
def speciesCheck (code kT packLimit : Nat) (curve : List (Nat × Nat)) : Nat :=
  (code + kT + packLimit + (curve.map fun p => p.1 + p.2).sum) % 65536

/-- The entry stored for its code, replacing any entry there (R24). -/
def State.putSpecies (s : State) (e : SpeciesEntry) : State :=
  { s with species := insertBy SpeciesEntry.code e s.species }

/-- What the table store answers to WRITE-SPECIES (R24). -/
def writeSpeciesAnswer (code kT packLimit : Nat) (curve : List (Nat × Nat)) (s : State) : Answer :=
  let check := speciesCheck code kT packLimit curve
  if !validCode code then .refuse .outOfRange
  else if !validSpecies kT packLimit curve then .refuse .outOfRange
  else if (s.speciesEntry code).isSome && decide (0 < s.speciesReferences code) then .refuse .inUse
  else if (s.speciesEntry code).isNone && decide (Config.speciesCapacity ≤ s.species.length) then .refuse .full
  else
    .ok (u8 code ++ u16 check)
      (s.putSpecies { code := code, kT := kT, packLimit := packLimit, curve := curve, checkValue := check })

/-- WRITE_SPECIES (R24). -/
def execWriteSpecies (code kT packLimit : Nat) (curve : List (Nat × Nat)) (s : State) :
    Host.Outcome State Fault Refusal :=
  .next (hostRequest (.writeSpecies code kT packLimit curve) (writeSpeciesAnswer code kT packLimit curve) s)

/-- What the table store answers to DELETE-SPECIES (R26). -/
def deleteSpeciesAnswer (code : Nat) (s : State) : Answer :=
  if !validCode code then .refuse .outOfRange
  else if (s.speciesEntry code).isNone then .refuse .notFound
  else if 0 < s.speciesReferences code then .refuse .inUse
  else .ok [] { s with species := eraseBy SpeciesEntry.code code s.species }

/-- DELETE_SPECIES (R26). -/
def execDeleteSpecies (code : Nat) (s : State) : Host.Outcome State Fault Refusal :=
  .next (hostRequest (.deleteSpecies code) (deleteSpeciesAnswer code) s)

/-- What the table store answers to READ-SPECIES (R27). -/
def readSpeciesAnswer (code : Nat) (s : State) : Answer :=
  if !validCode code then .refuse .outOfRange
  else
    match s.speciesEntry code with
    | none => .refuse .notFound
    | some e => .ok (e.fields ++ u16 e.checkValue ++ u8 (s.speciesReferences code)) s

/-- READ_SPECIES (R27). -/
def execReadSpecies (code : Nat) (s : State) : Host.Outcome State Fault Refusal :=
  .next (hostRequest (.readSpecies code) (readSpeciesAnswer code) s)

/-! ### Schedules -/

/-- The place in 1..8 of a schedule id. -/
def schedulePlace (id : Nat) : Option (Fin 8) := numbered 8 id

/-- The schedule at a place replaced. -/
def State.setSchedule (s : State) (i : Fin 8) (x : Option Schedule) : State :=
  { s with schedules := s.schedules.set i.val x i.isLt }

/-- The sum of a step's seven field values (R30). -/
def Step.sum (x : Step) : Nat :=
  x.target + x.depression + x.ramp + x.rule.number + x.threshold + x.maximum + x.action.number

/-- The check value of a schedule (R30). -/
def scheduleCheck (id : Nat) (steps : List Step) : Nat :=
  (id + steps.length + (steps.map Step.sum).sum) % 65536

/-- What the table store answers to WRITE-SCHEDULE (R31). The declared count is the number of steps carried (R197); a command
with another count, which no frame spells, is answered OUT_OF_RANGE: DESIGN CHOICE, log entry 34. -/
def writeScheduleAnswer (id count : Nat) (fields : List StepFields) (s : State) : Answer :=
  match schedulePlace id with
  | none => .refuse .outOfRange
  | some place =>
    if !(inRange 1 16 count && fields.length == count) then .refuse .outOfRange
    else
      match stepsOf fields with
      | none => .refuse .outOfRange
      | some steps =>
        if (s.schedule id).isSome && decide (0 < s.scheduleReferences id) then .refuse .inUse
        else
          .ok (u8 id ++ u16 (scheduleCheck id steps))
            (s.setSchedule place (some { steps := steps, checkValue := scheduleCheck id steps }))

/-- WRITE_SCHEDULE (R31). -/
def execWriteSchedule (id count : Nat) (steps : List StepFields) (s : State) : Host.Outcome State Fault Refusal :=
  .next (hostRequest (.writeSchedule id count steps) (writeScheduleAnswer id count steps) s)

/-- What the table store answers to DELETE-SCHEDULE (R32). -/
def deleteScheduleAnswer (id : Nat) (s : State) : Answer :=
  match schedulePlace id with
  | none => .refuse .outOfRange
  | some place =>
    if (s.schedule id).isNone then .refuse .notFound
    else if 0 < s.scheduleReferences id then .refuse .inUse
    else .ok [] (s.setSchedule place none)

/-- DELETE_SCHEDULE (R32). -/
def execDeleteSchedule (id : Nat) (s : State) : Host.Outcome State Fault Refusal :=
  .next (hostRequest (.deleteSchedule id) (deleteScheduleAnswer id) s)

/-- What the table store answers to READ-SCHEDULE (R32). DEDUCED, unsafe: that the step count is 1 octet is log entry 24. -/
def readScheduleAnswer (id : Nat) (s : State) : Answer :=
  match schedulePlace id with
  | none => .refuse .outOfRange
  | some _ =>
    match s.schedule id with
    | none => .refuse .notFound
    | some x =>
      .ok (u8 id ++ u8 x.steps.length ++ x.steps.flatMap Step.octets ++ u16 x.checkValue ++
        u8 (s.scheduleReferences id)) s

/-- READ_SCHEDULE (R32). -/
def execReadSchedule (id : Nat) (s : State) : Host.Outcome State Fault Refusal :=
  .next (hostRequest (.readSchedule id) (readScheduleAnswer id) s)

/-- The schedules present, each with its id, in ascending id. -/
def State.presentSchedules (s : State) : List (Nat × Schedule) :=
  [1, 2, 3, 4, 5, 6, 7, 8].filterMap fun id => (s.schedule id).map fun x => (id, x)

/-- What the table store answers to LIST-TABLES (R35). DEDUCED, unsafe: that a step count is 1 octet is log entry 24. -/
def listTablesAnswer (s : State) : Answer :=
  .ok (listOf (fun e => u8 e.code ++ u16 e.checkValue ++ u8 (s.speciesReferences e.code)) s.species ++
    listOf (fun x : Nat × Schedule =>
      u8 x.1 ++ u8 x.2.steps.length ++ u16 x.2.checkValue ++ u8 (s.scheduleReferences x.1)) s.presentSchedules) s

/-- LIST_TABLES (R35). -/
def execListTables (s : State) : Host.Outcome State Fault Refusal :=
  .next (hostRequest .listTables listTablesAnswer s)

end Sys2Proof.Machine
end

