-- ==== Sys2Proof/Machine/TimeRequests.lean ====
section
/-!
DEFINITION. The requests of the time and retained store (R165, R166, R169), the second of the calendar clock (R164), and the power
and reset events (R167, R170 to R172).
-/
namespace Sys2Proof.Machine

/-- What the time and retained store answers to SET-CLOCK (R165). -/
def setClockAnswer (t : DateTime) (s : State) : Answer :=
  if t.valid then .ok [] (s.setClock t true) else .refuse .outOfRange

/-- SET_CLOCK (R165). -/
def execSetClock (year month day hour minute second : Nat) (s : State) : Host.Outcome State Fault Refusal :=
  .next (hostRequest (.setClock year month day hour minute second)
    (setClockAnswer { year := year, month := month, day := day, hour := hour, minute := minute, second := second }) s)

/-- The reply content of READ-CLOCK (R166). DEDUCED, unsafe: that the clock takes a stamp's 7 octets is log entry 24. -/
def State.clockContent (s : State) : List Octet :=
  s.backup.clock.octets ++ flag s.backup.clockValid ++ u32 s.minuteCount

/-- READ_CLOCK (R166). -/
def execReadClock (s : State) : Host.Outcome State Fault Refusal :=
  .next (hostRequest .readClock (fun s => .ok s.clockContent s) s)

/-- READ_RETAINED (R169). -/
def execReadRetained (s : State) : Host.Outcome State Fault Refusal :=
  .next (hostRequest .readRetained (fun s => .ok (retainedContent s.backup) s) s)

/-! ### Events -/

/-- CLOCK_SECOND (R164): the clock runs whether or not main power is present. -/
def execClockSecond (s : State) : Host.Outcome State Fault Refusal := .next s.advanceClock

/-- POWER_ON (R171, R172). -/
def execPowerOn (straps : Straps) (s : State) : Host.Outcome State Fault Refusal := .next (s.powerOnReset straps)

/-- RESET_PIN (R172). -/
def execResetPin (edge : ResetEdge) (straps : Straps) (s : State) : Host.Outcome State Fault Refusal :=
  .next (s.moveResetPin edge straps)

/-- POWER_FAIL (R170). -/
def execPowerFail (s : State) : Host.Outcome State Fault Refusal := .next (s.stilled .off)

/-- The domain-valid mark cleared while main power is off (R167). -/
def State.loseKeepLevel (s : State) : State :=
  match s.power with
  | .off => { s with backup := { s.backup with domainValid := false } }
  | .on => s
  | .held => s

/-- KEEP_LEVEL_LOSS (R167). -/
def execKeepLevelLoss (s : State) : Host.Outcome State Fault Refusal := .next s.loseKeepLevel

end Sys2Proof.Machine
end

