-- ==== Sys2Proof/Machine/Dispatch.lean ====
section
/-!
DEFINITION. The dispatcher: one arm per command, each a direct call of the command's meaning.
-/
namespace Sys2Proof.Machine

def exec (i : Instr) (s : State) : Host.Outcome State Fault Refusal :=
  match i with
  | .identify => Sys2Proof.Machine.execIdentify s
  | .readCounters subject choice => Sys2Proof.Machine.execReadCounters subject choice s
  | .restart => Sys2Proof.Machine.execRestart s
  | .continueReply => Sys2Proof.Machine.execContinue s
  | .writeSpecies code kT packLimit curve => Sys2Proof.Machine.execWriteSpecies code kT packLimit curve s
  | .deleteSpecies code => Sys2Proof.Machine.execDeleteSpecies code s
  | .readSpecies code => Sys2Proof.Machine.execReadSpecies code s
  | .writeSchedule id count steps => Sys2Proof.Machine.execWriteSchedule id count steps s
  | .deleteSchedule id => Sys2Proof.Machine.execDeleteSchedule id s
  | .readSchedule id => Sys2Proof.Machine.execReadSchedule id s
  | .listTables => Sys2Proof.Machine.execListTables s
  | .setInfeed number => Sys2Proof.Machine.execSetInfeed number s
  | .closeCharge number => Sys2Proof.Machine.execCloseCharge number s
  | .readCharge number => Sys2Proof.Machine.execReadCharge number s
  | .listCharges => Sys2Proof.Machine.execListCharges s
  | .load kiln species schedule => Sys2Proof.Machine.execLoad kiln species schedule s
  | .start kiln => Sys2Proof.Machine.execStart kiln s
  | .hold kiln => Sys2Proof.Machine.execHold kiln s
  | .release kiln reason => Sys2Proof.Machine.execRelease kiln reason s
  | .skip kiln => Sys2Proof.Machine.execSkip kiln s
  | .unload kiln => Sys2Proof.Machine.execUnload kiln s
  | .resume kiln => Sys2Proof.Machine.execResume kiln s
  | .abandon kiln => Sys2Proof.Machine.execAbandon kiln s
  | .kilnConfig kiln si ci wet probes learning role loss jump shift => Sys2Proof.Machine.execKilnConfig kiln si ci wet probes learning role loss jump shift s
  | .readKiln kiln => Sys2Proof.Machine.execReadKiln kiln s
  | .enablePort port replyWindow failureLimit autoReestablish autoretry => Sys2Proof.Machine.execEnablePort port replyWindow failureLimit autoReestablish autoretry s
  | .disablePort port => Sys2Proof.Machine.execDisablePort port s
  | .readPort port => Sys2Proof.Machine.execReadPort port s
  | .assignProbe serial kiln role tag => Sys2Proof.Machine.execAssignProbe serial kiln role tag s
  | .unassignProbe serial => Sys2Proof.Machine.execUnassignProbe serial s
  | .listAssignments => Sys2Proof.Machine.execListAssignments s
  | .sweepNow kiln choice => Sys2Proof.Machine.execSweepNow kiln choice s
  | .readProbes kiln => Sys2Proof.Machine.execReadProbes kiln s
  | .forgetProbe serial => Sys2Proof.Machine.execForgetProbe serial s
  | .lineConfig countsPerMetre divertDistance stackDistance shortLimit polarity glitchFilter => Sys2Proof.Machine.execLineConfig countsPerMetre divertDistance stackDistance shortLimit polarity glitchFilter s
  | .lineClear => Sys2Proof.Machine.execLineClear s
  | .readLine => Sys2Proof.Machine.execReadLine s
  | .bayConfig bay enabled minimum maximum nominal target => Sys2Proof.Machine.execBayConfig bay enabled minimum maximum nominal target s
  | .closePack bay => Sys2Proof.Machine.execClosePack bay s
  | .reprint serial => Sys2Proof.Machine.execReprint serial s
  | .voidLabel serial => Sys2Proof.Machine.execVoidLabel serial s
  | .readPack serial => Sys2Proof.Machine.execReadPack serial s
  | .listPacks => Sys2Proof.Machine.execListPacks s
  | .collectPack serial => Sys2Proof.Machine.execCollectPack serial s
  | .readBay bay => Sys2Proof.Machine.execReadBay bay s
  | .labelConfig timeout => Sys2Proof.Machine.execLabelConfig timeout s
  | .setClock year month day hour minute second => Sys2Proof.Machine.execSetClock year month day hour minute second s
  | .readClock => Sys2Proof.Machine.execReadClock s
  | .readRetained => Sys2Proof.Machine.execReadRetained s
  | .takeNotice => Sys2Proof.Machine.execTakeNotice s
  | .peekNotices => Sys2Proof.Machine.execPeekNotices s
  | .setMasks choices => Sys2Proof.Machine.execSetMasks choices s
  | .linkOctetReceived octet framingError => Sys2Proof.Machine.execLinkOctetReceived octet framingError s
  | .linkSilenceExpiry => Sys2Proof.Machine.execLinkSilenceExpiry s
  | .replySent straps => Sys2Proof.Machine.execReplySent straps s
  | .busyReplySent => Sys2Proof.Machine.execBusyReplySent s
  | .powerOn straps => Sys2Proof.Machine.execPowerOn straps s
  | .resetPin edge straps => Sys2Proof.Machine.execResetPin edge straps s
  | .powerFail => Sys2Proof.Machine.execPowerFail s
  | .keepLevelLoss => Sys2Proof.Machine.execKeepLevelLoss s
  | .minuteEvent kiln => Sys2Proof.Machine.execMinuteEvent kiln s
  | .clockSecond => Sys2Proof.Machine.execClockSecond s
  | .fieldRequestSent port => Sys2Proof.Machine.execFieldRequestSent port s
  | .replyWindowExpiry port => Sys2Proof.Machine.execReplyWindowExpiry port s
  | .fieldOctetReceived port octet error => Sys2Proof.Machine.execFieldOctetReceived port octet error s
  | .fieldOctetSilence port => Sys2Proof.Machine.execFieldOctetSilence port s
  | .fieldSilentWaitExpiry port => Sys2Proof.Machine.execFieldSilentWaitExpiry port s
  | .lineFault port => Sys2Proof.Machine.execLineFault port s
  | .wakePulseEnd port => Sys2Proof.Machine.execWakePulseEnd port s
  | .wakeWaitExpiry port => Sys2Proof.Machine.execWakeWaitExpiry port s
  | .attemptGapExpiry port => Sys2Proof.Machine.execAttemptGapExpiry port s
  | .autoretryExpiry port => Sys2Proof.Machine.execAutoretryExpiry port s
  | .reestablishExpiry port => Sys2Proof.Machine.execReestablishExpiry port s
  | .controllerIntervalExpiry kiln => Sys2Proof.Machine.execControllerIntervalExpiry kiln s
  | .idleWaitExpiry port => Sys2Proof.Machine.execIdleWaitExpiry port s
  | .controllerLost kiln => Sys2Proof.Machine.execControllerLost kiln s
  | .kilnPortUp kiln => Sys2Proof.Machine.execKilnPortUp kiln s
  | .probePortUp kiln => Sys2Proof.Machine.execProbePortUp kiln s
  | .probePortLeftUp kiln => Sys2Proof.Machine.execProbePortLeftUp kiln s
  | .sweepIntervalExpiry kiln => Sys2Proof.Machine.execSweepIntervalExpiry kiln s
  | .encoderStep move => Sys2Proof.Machine.execEncoderStep move s
  | .eyeChange level => Sys2Proof.Machine.execEyeChange level s
  | .eyeFilterExpiry => Sys2Proof.Machine.execEyeFilterExpiry s
  | .meterPortLeftUp => Sys2Proof.Machine.execMeterPortLeftUp s
  | .divertPulseExpiry => Sys2Proof.Machine.execDivertPulseExpiry s
  | .labelPauseExpiry => Sys2Proof.Machine.execLabelPauseExpiry s
  | .labelTimeoutExpiry => Sys2Proof.Machine.execLabelTimeoutExpiry s
  | .labelPortUp => Sys2Proof.Machine.execLabelPortUp s
  | .labelPortLeftUp => Sys2Proof.Machine.execLabelPortLeftUp s

end Sys2Proof.Machine
end

