-- ==== Sys2Proof/Safety.lean ====
section
/-!
DEFINITION. The terms that claims use: when a request is taken, what an answer leaves in the link, the states that recovery
makes, and the invariants that every step keeps.
-/
namespace Sys2Proof.Machine

/-! ### Requests and their answers -/

/-- The owner takes the request now: the part runs, and the input buffer is EMPTY (the command brings its whole frame)
or HELD by this request, unanswered (R185, R188; log entry 4). -/
def State.takes (s : State) (i : Instr) : Bool := (s.power == .on) && (s.link.buffer.isNone || s.link.awaits i)

/-- A request is being served and this command is another frame that completes (R186). -/
def State.busyFor (s : State) (i : Instr) : Bool := (s.power == .on) && s.link.buffer.isSome && !s.link.awaits i

/-- The kind octet of a request. -/
def requestKind (i : Instr) : Octet := (kindCode i).getD 0

/-- The state with an OK reply composed: the buffer HELD and answered, the first segment waiting to be sent, the rest in
the reply store (R185, R189, R190). -/
def State.okReply (s : State) (i : Instr) (content : List Octet) : State :=
  { s with
    link := { s.link with
              buffer := some { kind := requestKind i, request := some i, answered := true },
              sending := s.link.sending ++
                [{ busy := false,
                   octets := hostFrame (requestKind i :: 0x00 :: (u16 s.notices.summary ++
                     u8 ((segmentsOf content).length - 1) ++ (segmentsOf content).headD [])) }],
              store := { segments := (segmentsOf content).tail,
                         next := if (segmentsOf content).length = 1 then 0 else 2 } } }

/-- The state with a reply other than OK composed: nothing but the link's passage of the request (R191). -/
def State.refusal (s : State) (i : Instr) (status : Status) : State :=
  { s with
    link := { s.link with
              buffer := some { kind := requestKind i, request := some i, answered := true },
              sending := s.link.sending ++
                [{ busy := false, octets := hostFrame (requestKind i :: statusCode status :: u16 s.notices.summary) }] } }

/-- The state with a frame of a kind refused BUSY: into the free refusal slot, or dropped and counted (R186). -/
def State.busyReply (s : State) (kind : Octet) : State :=
  if s.link.sending.any SendFrame.busy then { s with link := { s.link with discarded := bump s.link.discarded } }
  else
    { s with
      link := { s.link with
                sending := s.link.sending ++
                  [{ busy := true, octets := hostFrame (kind :: 0x09 :: u16 s.notices.summary) }] } }

/-- The part runs. -/
def State.isOn (s : State) : Bool := s.power == .on

/-! ### Requests' checks, as the rules state them -/

/-- The fields of a species entry are in the ranges and orders of R22. -/
def speciesInRange (kT packLimit : Nat) (curve : List (Nat × Nat)) : Bool :=
  decide (kT ≤ 400) && decide (curve.length = 8) &&
    decide (∀ p ∈ curve, p.1 ≤ 65535 ∧ 300 ≤ p.2 ∧ p.2 ≤ 8000) &&
    decide (curve.Pairwise fun p q => p.1 < q.1 ∧ q.2 < p.2) &&
    decide ((curve.getD 7 (0, 0)).2 ≤ packLimit ∧ packLimit < (curve.getD 0 (0, 0)).2)

/-- One step's fields satisfy both tables of R29. -/
def stepInRange (f : StepFields) : Bool :=
  decide (0 ≤ f.target ∧ f.target ≤ 1200 ∧ f.depression ≤ 400 ∧ 1 ≤ f.ramp ∧ f.ramp ≤ 50) &&
    decide (1 ≤ f.maximum ∧ f.maximum ≤ 65535 ∧ (f.action = 1 ∨ f.action = 2)) &&
    decide ((f.rule = 1 ∧ 1 ≤ f.threshold ∧ f.threshold ≤ f.maximum) ∨
      (f.rule = 2 ∧ 300 ≤ f.threshold ∧ f.threshold ≤ 8000) ∨ (f.rule = 3 ∧ f.threshold ≤ 7700) ∨
      (f.rule = 4 ∧ f.threshold = 0))

/-- The check value of a schedule by R30. -/
def scheduleSum (id : Nat) (fields : List StepFields) : Nat :=
  (id + fields.length + (fields.map fun f =>
    f.target.toNat + f.depression + f.ramp + f.rule + f.threshold + f.maximum + f.action).sum) % 65536

/-! ### Time -/

/-- The days before a month of a year (R164). -/
def daysBefore (year : Nat) : Nat → Nat
  | 0 => 0
  | month + 1 => if month = 0 then 0 else daysBefore year month + monthLength year month

/-- The seconds from 2000-01-01 00:00:00 to a date and time (R164). -/
def DateTime.seconds (t : DateTime) : Nat :=
  let years := t.year - 2000
  let days := 365 * years + (years + 3) / 4 + daysBefore t.year t.month + (t.day - 1)
  ((days * 24 + t.hour) * 60 + t.minute) * 60 + t.second

/-! ### Recovery (R54, R77, R172) -/

/-- The record of a kiln after a reset that found its snapshot valid (R55, R77). -/
def Snapshot.kilnRecord (x : Snapshot) : KilnRecord :=
  { KilnRecord.initial with
    state := .recovery, charge := some x.charge, stepIndex := x.stepIndex, stepElapsed := x.stepElapsed,
    totalMinutes := x.totalMinutes, dryBulb := x.dryBulb, depression := x.depression,
    holds := { HoldSet.empty with host := x.host || (!x.running && !x.host && !x.overtime), overtime := x.overtime },
    overtimeDisarmed := x.overtimeDisarmed }

/-- The charge record rebuilt from kiln k's snapshot (R54). -/
def Snapshot.chargeRecord (x : Snapshot) (k : KilnNo) (stamp : Stamp) : Charge :=
  { number := x.charge.number, state := .kiln, kiln := some k, species := x.charge.species,
    schedule := x.charge.schedule, complete := false, abandoned := false, recovered := true, loadStamp := stamp,
    unloadStamp := none, finalMc := .absent, metered := 0, queued := 0, redry := 0, short := 0, noBay := 0,
    stacked := 0, cleared := 0, meterSum := 0, meterCount := 0, openPackRefs := 0 }

/-- The valid snapshots carry different charge numbers (R54). -/
def State.distinctSnapshots (s : State) : Prop :=
  ∀ j k : KilnNo, ∀ x y : Snapshot, s.snapshot j = some x → s.snapshot k = some y →
    x.charge.number = y.charge.number → j = k

/-- t is s after a reset that keeps the backup domain (R172): every volatile block at its reset value, each kiln with a
valid snapshot recovered. -/
def State.recoveredFrom (s t : State) (straps : Straps) : Prop :=
  t = { State.volatileReset s.backup s.line.eyePin (.ofStraps straps) s.pending with
        charges := t.charges, kilns := t.kilns,
        notices := { Notices.initial with recovery := Vector.ofFn fun k => (s.snapshot k).isSome } } ∧
  (∀ k, t.kiln k = match s.snapshot k with | some x => x.kilnRecord | none => KilnRecord.initial) ∧
  (∀ number, t.charge number =
    (allKilns.findSome? fun k =>
      match s.snapshot k with
      | some x => if x.charge.number = number then some (x.chargeRecord k s.stamp) else none
      | none => none)) ∧
  t.charges.length = (allKilns.filter fun k => (s.snapshot k).isSome).length

/-! ### Invariants -/

/-- The bounded tables in their one form, within their capacities: no key twice (R21, R37, R104, R106, R128, R152). -/
def State.tablesKept (s : State) : Prop :=
  sortedBy SpeciesEntry.code s.species ∧ s.species.length ≤ 12 ∧
  sortedBy Charge.number s.charges ∧ s.charges.length ≤ 16 ∧
  sortedBy Assignment.serial s.assignments ∧ s.assignments.length ≤ 48 ∧
  sortedBy PresenceEntry.place s.presence ∧ s.presence.length ≤ 96 ∧
  (s.presence.map PresenceEntry.serial).Nodup ∧
  s.line.queue.length ≤ 32 ∧ s.packs.length ≤ 8

/-- The sum of a charge's fates is its metered tally (R47). -/
def State.talliesKept (s : State) : Prop :=
  ∀ c ∈ s.charges, c.metered = c.queued + c.redry + c.short + c.noBay + c.stacked + c.cleared

/-- The targets of a step are in the ranges of R29. -/
def Step.inRange (x : Step) : Bool := decide (x.target ≤ 1200 ∧ x.depression ≤ 400)

/-- The current dry-bulbs and depressions, and those the snapshots and the schedules hold, are in their ranges (R29,
R55, R76). -/
def State.setpointsKept (s : State) : Prop :=
  (∀ k, (s.kiln k).dryBulb ≤ 1200 ∧ (s.kiln k).depression ≤ 400) ∧
  (∀ k x, s.snapshot k = some x → x.dryBulb ≤ 1200 ∧ x.depression ≤ 400) ∧
  (∀ i sch, s.schedules.get i = some sch → ∀ x ∈ sch.steps, x.inRange)

/-- The fields of a kiln record that its state makes present or absent (R55, R58). -/
def KilnRecord.shape (r : KilnRecord) : Bool :=
  (r.charge.isSome == (r.state != .empty)) &&
    (r.remembered.isSome == (r.state == .faultHold)) &&
    (r.remembered != some .empty) && (r.remembered != some .faultHold) &&
    (r.state != .running || r.holds.isEmpty) && (r.state != .held || !r.holds.isEmpty) &&
    (r.state != .empty || r.holds.isEmpty)

/-- Every kiln record has its state's shape. -/
def State.kilnsKept (s : State) : Prop := ∀ k, (s.kiln k).shape

/-- The fields of a port record that its state makes present or absent, and their ranges (R87, R90, R93, R96). -/
def PortRecord.shape (r : PortRecord) : Bool :=
  (r.rate.isSome == (r.state == .up)) &&
    (r.attempt.isSome == (r.state == .establishing)) &&
    decide (∀ n ∈ r.attempt, 1 ≤ n ∧ n ≤ 4) &&
    decide (2 ≤ r.failureLimit ∧ r.failureLimit ≤ 10) &&
    decide (r.failureCount < r.failureLimit) && decide (r.lineFaultCount ≤ 5) &&
    (r.state == .up || (r.sweepQueue.isEmpty && r.waiting.isNone && !r.setpointDue && !r.idleWait && !r.healthDue &&
      r.controllerInterval.isNone)) &&
    (r.exchange.isNone || r.state == .up || r.state == .establishing) &&
    (r.wake == .none || (r.state == .establishing && r.exchange.isNone)) &&
    (!r.attemptGap || (r.state == .establishing && r.exchange.isNone && r.wake == .none &&
      decide (∀ n ∈ r.attempt, n < 4))) &&
    (!r.autoretryWait || r.state == .lineFault) && (!r.reestablishWait || r.state == .down)

/-- Every port record has its state's shape. -/
def State.portsKept (s : State) : Prop := ∀ p, (s.port p).shape

/-- The pairs are to different addresses in 1..24 (R107, R110). -/
def pairsInRange (pairs : List (Nat × ProbeCommand)) : Bool :=
  decide (pairs.map Prod.fst).Nodup && decide (∀ x ∈ pairs, 1 ≤ x.1 ∧ x.1 ≤ 24)

/-- The fields of a sweep record that its state fixes, and their ranges (R107). -/
def SweepRecord.shape (r : SweepRecord) : Bool :=
  decide (1 ≤ r.cursor ∧ r.cursor ≤ 24) && pairsInRange r.outstanding && decide (r.outstanding.length ≤ 24) &&
    (r.kind.isSome == !r.outstanding.isEmpty)

/-- The fields of a presence entry that its state and role fix: FOREIGN exactly when it has no role, a role with its
source, an address a probe can have, and the ends of its counts (R106, R113). -/
def PresenceEntry.shape (e : PresenceEntry) : Bool :=
  decide (1 ≤ e.address ∧ e.address ≤ 24) && ((e.state == .foreign) == e.role.isNone) &&
    (e.role.isSome == e.source.isSome) && decide (e.missCount ≤ 255 ∧ e.suspectCount ≤ 2)

/-- Every presence entry has its shape. -/
def State.presenceShaped (s : State) : Prop := ∀ e ∈ s.presence, e.shape

/-- Every sweep record has its state's shape, and every presence entry its own. -/
def State.sweepsKept (s : State) : Prop := (∀ k, (s.sweep k).shape) ∧ s.presenceShaped

/-- At most two frames wait to be sent: a BUSY reply at most, and the held request's reply exactly when it has been
answered (R185 to R187); the reply store names a next segment exactly when it holds one (R190). -/
def State.linkKept (s : State) : Prop :=
  s.link.sending.countP SendFrame.busy ≤ 1 ∧
  s.link.sending.countP (fun f => !f.busy) =
    (match s.link.buffer with | some h => if h.answered then 1 else 0 | none => 0) ∧
  (s.link.store.segments = [] ↔ s.link.store.next = 0)

end Sys2Proof.Machine
end

