-- ==== Sys2Proof/Certificates/Slice0/Obligations.lean ====
section
/-!
DEFINITION. The statements for the provers. They come from the numbered rules of the spec, family by family; a statement that
rests on a choice of the model names its log entry.
-/
open Sys2Proof Sys2Proof.Machine

/-! ### The step and the link -/

/-- A step takes the command at the front of the queue and is that command's meaning on the state with the queue's
rest; on an empty queue the part idles (log entry 1, the model's choice). -/
def Obligations.StepTakesTheFrontCommand : Prop :=
  ∀ (s : State) (c : Instr) (rest : List Instr),
    step (s.setPending (c :: rest)) = exec c (s.setPending rest) ∧ step (s.setPending []) = .next (s.setPending [])

/-- What holds of every command: its effect leaves the queue of waiting commands (log entry 1); it empties no notice
class but by TAKE-NOTICE, a reset or a loss of power (R174); and it sets the clock's valid flag by SET-CLOCK only and
the domain-valid mark by the clearing of a POWER_ON only (R164, R165, R167, R171). -/
def Obligations.CommandsKeepWhatIsNotTheirs : Prop :=
  (∀ (c : Instr) (s t : State), exec c s = .next t → t.pending = s.pending) ∧
  (∀ (c : Instr) (s t : State) (k : NoticeClass), exec c s = .next t →
    (∀ straps, c ≠ .powerOn straps ∧ c ≠ .replySent straps ∧ ∀ edge, c ≠ .resetPin edge straps) → c ≠ .powerFail →
    c ≠ .takeNotice → s.notices.nonEmpty k = true → t.notices.nonEmpty k = true) ∧
  ∀ (c : Instr) (s t : State), exec c s = .next t →
    (s.backup.clockValid = false → t.backup.clockValid = true →
      ∃ year month day hour minute second, c = .setClock year month day hour minute second) ∧
    (s.backup.domainValid = false → t.backup.domainValid = true → ∃ straps, c = .powerOn straps)

/-- While the part is held in reset or without main power every command but a power or reset event, the clock's second
and a change of the EYE pin leaves the whole state as it was (R162, R163, R170, R195; log entry 9). -/
def Obligations.StillPartTakesNothing : Prop :=
  ∀ (c : Instr) (s : State), s.power ≠ .on →
    match c with
    | .powerOn _ | .resetPin _ _ | .powerFail | .keepLevelLoss | .clockSecond | .eyeChange _ => True
    | c => exec c s = .next s

/-- R186: a frame that completes while the buffer is HELD is answered BUSY into a free refusal slot, or dropped and
counted; as a request command (log entry 4) and as the last octet of a frame. -/
def Obligations.FramesWhileHeldAreRefusedBusy : Prop :=
  (∀ (i : Instr) (s : State), (kindCode i).isSome → s.busyFor i →
    exec i s = .next (s.busyReply (requestKind i))) ∧
  ∀ (s : State) (payload : List Octet) (check : Octet), s.isOn → s.link.buffer.isSome → 1 ≤ payload.length →
    payload.length ≤ 240 → hostFrame payload = (hostFrame payload).dropLast ++ [check] →
    s.link.receiver = .receiving (hostFrame payload).dropLast →
    exec (.linkOctetReceived check false) s =
      .next ({ s with link := { s.link with silenceWait := true, receiver := .hunt } }.busyReply (payload.headD 0))

/-- R191: a request that its owner or the link answers with a status other than OK (the fourth octet of the reply
frame) changes nothing but the link's passage of the request. -/
def Obligations.RefusedRequestsChangeNothing : Prop :=
  ∀ (i : Instr) (s t : State) (f : SendFrame), (kindCode i).isSome → s.takes i → exec i s = .next t →
    t.link.sending = s.link.sending ++ [f] → f.octets.getD 3 0 ≠ 0x00 →
    t = { s with
          link := { s.link with
                    buffer := some { kind := requestKind i, request := some i, answered := true },
                    sending := s.link.sending ++ [f] } }

/-- R197, R198: the payload of every request whose fields fit their frame is read back as that request. -/
def Obligations.RequestsReadBackFromTheirFrames : Prop :=
  ∀ (i : Instr) (payload : List Octet), i.wf → encodeRequest i = some payload → parseRequest payload = .ok i

/-- R182, R183, R185: the octets of a request's frame, received one after another in HUNT with the buffer EMPTY, leave
the buffer HELD with that request and nothing else changed. -/
def Obligations.FramesAreAccepted : Prop :=
  ∀ (i : Instr) (payload : List Octet) (s : State), i.wf → encodeRequest i = some payload → s.isOn →
    s.link.receiver = .hunt → s.link.buffer = none →
    Host.Core.run core (hostFrame payload).length
        (s.setPending ((hostFrame payload).map fun o => .linkOctetReceived o false)) =
      .next { s with
              link := { s.link with
                        silenceWait := true,
                        buffer := some { kind := requestKind i, request := some i, answered := false } },
              pending := [] }

/-- R183, R184: what the link receiver does with an octet, but for the check octet of a good frame, and when its
silence wait, which runs, runs out. -/
def Obligations.ReceiverTakesOctetsAndSilence : Prop :=
  (∀ (s : State) (octet : Octet) (error : Bool), s.isOn →
    let received := fun receiver => { s with link := { s.link with silenceWait := true, receiver := receiver } }
    let dropped := fun receiver =>
      { s with link := { s.link with silenceWait := true, receiver := receiver, discarded := bump s.link.discarded } }
    (s.link.receiver = .resync → exec (.linkOctetReceived octet error) s = .next (received .resync)) ∧
    (s.link.receiver = .hunt → exec (.linkOctetReceived octet error) s =
      .next (received (if octet = 0xB5 ∧ error = false then .receiving [octet] else .hunt))) ∧
    ∀ octets, s.link.receiver = .receiving octets →
      let now := octets ++ [octet]
      let length := (now.getD 1 0).toNat
      (error = true → exec (.linkOctetReceived octet error) s = .next (dropped .resync)) ∧
      (error = false → octets.length = 1 → (length = 0 ∨ 240 < length) →
        exec (.linkOctetReceived octet error) s = .next (dropped .resync)) ∧
      (error = false → octets.length = 1 → 1 ≤ length → length ≤ 240 →
        exec (.linkOctetReceived octet error) s = .next (received (.receiving now))) ∧
      (error = false → 2 ≤ octets.length → now.length ≠ length + 3 →
        exec (.linkOctetReceived octet error) s = .next (received (.receiving now))) ∧
      (error = false → 2 ≤ octets.length → now.length = length + 3 → octetSum now ≠ 0xA5 →
        exec (.linkOctetReceived octet error) s = .next (dropped .hunt))) ∧
  ∀ s : State, s.isOn → s.link.silenceWait →
    exec .linkSilenceExpiry s =
      .next (match s.link.receiver with
        | .resync | .hunt => { s with link := { s.link with silenceWait := false, receiver := .hunt } }
        | .receiving _ =>
          { s with link := { s.link with silenceWait := false, receiver := .hunt, discarded := bump s.link.discarded } })

/-- R188, R192 to R194: a good frame that is accepted but names no kind, or has another length than its kind requires,
is answered by the link, with the kind octet echoed; IDENTIFY and RESTART are answered OK and change nothing but the
link (the reset of a RESTART follows its reply); READ-COUNTERS returns a subject's counters and clears them when asked.
-/
def Obligations.LinkAnswersWhatNamesNoOwner : Prop :=
  (∀ (s : State) (octets : List Octet) (octet : Octet) (status : Status), s.isOn → s.link.buffer = none →
    s.link.receiver = .receiving octets →
    let now := octets ++ [octet]
    let length := (now.getD 1 0).toNat
    let payload := (now.drop 2).take length
    1 ≤ length → now.length = length + 3 → octetSum now = 0xA5 → parseRequest payload = .error status →
    exec (.linkOctetReceived octet false) s =
      .next { s with
              link := { s.link with
                        silenceWait := true, receiver := .hunt,
                        buffer := some { kind := payload.headD 0, request := none, answered := true },
                        sending := s.link.sending ++
                          [{ busy := false,
                             octets := hostFrame (payload.headD 0 :: statusCode status :: u16 s.notices.summary) }] } }) ∧
  (∀ s : State, s.takes .identify → exec .identify s = .next (s.okReply .identify (identityContent s.link.rate))) ∧
  (∀ s : State, s.takes .restart → exec .restart s = .next (s.okReply .restart [])) ∧
  ∀ (s : State) (subject choice : Nat), s.takes (.readCounters subject choice) →
    let i := Instr.readCounters subject choice
    (2 ≤ choice ∨ subject = 0 ∨ 10 < subject → exec i s = .next (s.refusal i .outOfRange)) ∧
    (∀ p : PortNo, subject = p.val + 1 → choice = 0 →
      exec i s = .next (s.okReply i (u8 subject ++ (s.port p).counters.octets))) ∧
    (∀ p : PortNo, subject = p.val + 1 → choice = 1 →
      exec i s = .next ((s.setPort p { s.port p with counters := .zero }).okReply i
        (u8 subject ++ (s.port p).counters.octets))) ∧
    (subject = 9 → choice = 0 → exec i s = .next (s.okReply i (u8 9 ++ s.line.counters.octets))) ∧
    (subject = 9 → choice = 1 →
      exec i s = .next ({ s with line := { s.line with counters := .zero } }.okReply i (u8 9 ++ s.line.counters.octets))) ∧
    (subject = 10 → choice = 0 → exec i s = .next (s.okReply i (u8 10 ++ u32 s.link.discarded))) ∧
    (subject = 10 → choice = 1 →
      exec i s = .next ({ s with link := { s.link with discarded := 0 } }.okReply i (u8 10 ++ u32 s.link.discarded)))

/-- R189, R190: CONTINUE sends the next segment of the reply store and moves the store on, or is answered WRONG_STATE
when the store is empty; the segments of a reply content are the content, cut every 235 octets, and a content of 235 or
fewer is one. -/
def Obligations.RepliesAreSentInSegments : Prop :=
  (∀ s : State, s.takes .continueReply →
    (s.link.store.segments = [] → exec .continueReply s = .next (s.refusal .continueReply .wrongState)) ∧
    ∀ segment rest, s.link.store.segments = segment :: rest →
      exec .continueReply s =
        .next { s with
                link := { s.link with
                          buffer := some { kind := 0x04, request := some .continueReply, answered := true },
                          sending := s.link.sending ++
                            [{ busy := false,
                               octets := hostFrame (0x04 :: 0x00 :: (u16 s.notices.summary ++ u8 rest.length ++
                                 segment)) }],
                          store := { segments := rest,
                                     next := if rest = [] then 0 else s.link.store.next + 1 } } }) ∧
  ∀ content : List Octet,
    (segmentsOf content).flatten = content ∧
    (∀ x ∈ (segmentsOf content).dropLast, x.length = 235) ∧ (∀ x ∈ segmentsOf content, x.length ≤ 235) ∧
    ((segmentsOf content).length = 1 ↔ content.length ≤ 235)

/-- R185 to R187: the last octet of the oldest reply sent empties the buffer, or frees the refusal slot when that reply
is a BUSY one; the other command is then no event of this reply (log entry 29). -/
def Obligations.SentRepliesFreeTheirPlace : Prop :=
  ∀ (s : State) (straps : Straps) (frame : SendFrame) (rest : List SendFrame), s.isOn →
    s.link.sending = frame :: rest →
    (frame.busy = false → s.link.restarting = false →
      exec (.replySent straps) s = .next { s with link := { s.link with sending := rest, buffer := none } }) ∧
    (frame.busy = true → exec (.replySent straps) s = .next s) ∧
    (frame.busy = true → exec .busyReplySent s = .next { s with link := { s.link with sending := rest } }) ∧
    (frame.busy = false → exec .busyReplySent s = .next s)

/-! ### Notices -/

/-- R173 to R177, R179, R196: ATTN is asserted exactly while the part runs and some class is waiting, that is non-empty
and not masked; the summary's bit of a class is set exactly when the class is waiting; SET-MASKS replaces all nine
masks, refused when a choice is neither 0 nor 1; PEEK-NOTICES changes nothing. R174: a posting to KILN_FAULT, PORT_DOWN,
KILN_STEP, CHARGE_DRIED or MOISTURE_INVALID, masked or not, adds its subject to the class's set and changes nothing
else, but that KILN_STEP's sets the kiln's overtime flag when it carries the overtime indication and leaves the flag
without it. -/
def Obligations.MasksHideClassesFromAttention : Prop :=
  (∀ s : State, s.attn = true ↔
    s.power = .on ∧ ∃ c, s.notices.nonEmpty c = true ∧ s.notices.masks.masked c = false) ∧
  (∀ (n : Notices), n.summary < 2048 ∧
    ∀ c, n.summary.testBit (c.priority - 1) = (n.nonEmpty c && !n.masks.masked c)) ∧
  (∀ (s : State) (choices : List Nat), choices.length = 9 → s.takes (.setMasks choices) →
    exec (.setMasks choices) s =
      .next (if choices.all (fun x => decide (x ≤ 1)) then
        let on := fun j => choices.getD j 0 == 1
        { s with
          notices := { s.notices with
                       masks := { lineStop := on 0, labelFault := on 1, portDown := on 2, probeChange := on 3,
                                  kilnStep := on 4, chargeDried := on 5, packReady := on 6, moistureInvalid := on 7,
                                  clockInvalid := on 8 } } }.okReply (.setMasks choices)
          (choices.flatMap u8)
      else s.refusal (.setMasks choices) .outOfRange)) ∧
  (∀ s : State, s.takes .peekNotices →
    exec .peekNotices s = .next (s.okReply .peekNotices s.notices.peekContent)) ∧
  ∀ (s : State) (k : KilnNo) (p : PortNo) (overtime : Bool),
    let n := s.notices
    s.postKilnFault k = { s with notices := { n with kilnFault := n.kilnFault.set k.val true k.isLt } } ∧
    s.postPortDown p = { s with notices := { n with portDown := n.portDown.set p.val true p.isLt } } ∧
    s.postKilnStep k overtime =
      { s with
        notices := { n with
                     kilnStep := n.kilnStep.set k.val true k.isLt,
                     kilnStepOvertime :=
                       if overtime then n.kilnStepOvertime.set k.val true k.isLt else n.kilnStepOvertime } } ∧
    s.postChargeDried k = { s with notices := { n with chargeDried := n.chargeDried.set k.val true k.isLt } } ∧
    s.postMoistureInvalid k =
      { s with notices := { n with moistureInvalid := n.moistureInvalid.set k.val true k.isLt } }

/-- R178: TAKE-NOTICE returns the waiting class of highest priority and empties it; every other class and the masks
stay; with no class waiting it returns NONE and changes nothing. The class octet and the number 11 of NONE are log
entry 24. -/
def Obligations.TakeNoticeEmptiesTheFirstClass : Prop :=
  ∀ s : State, s.takes .takeNotice →
    ((∀ c, s.notices.waiting c = false) → exec .takeNotice s = .next (s.okReply .takeNotice (u8 11))) ∧
    ∀ c, s.notices.waiting c = true → (∀ d, d.priority < c.priority → s.notices.waiting d = false) →
      ∃ n : Notices,
        exec .takeNotice s =
          .next ({ s with notices := n }.okReply .takeNotice (u8 (c.priority - 1) ++ s.notices.content c)) ∧
        n.nonEmpty c = false ∧ n.masks = s.notices.masks ∧
        (c = .kilnStep → n.kilnStepOvertime = Vector.replicate 6 false) ∧
        ∀ d, d ≠ c → n.nonEmpty d = s.notices.nonEmpty d ∧ n.content d = s.notices.content d

/-! ### Time, power and resets -/

/-- R164 to R166, R169: SET-CLOCK sets a valid date and time with its flag; READ-CLOCK and READ-RETAINED change
nothing; at each second, with or without main power, a valid clock moves on by one second and stays valid as a date,
and at its last second it wraps to the first, its flag clears, and "clock" is posted while the part runs; that a part
which does not run posts nothing is log entry 9. -/
def Obligations.ClockIsSetReadAndMovesOn : Prop :=
  (∀ (s : State) (year month day hour minute second : Nat),
    let i := Instr.setClock year month day hour minute second
    s.takes i → exec i s =
      .next (if 2000 ≤ year ∧ year ≤ 2099 ∧ 1 ≤ month ∧ month ≤ 12 ∧ 1 ≤ day ∧ day ≤ monthLength year month ∧
          hour ≤ 23 ∧ minute ≤ 59 ∧ second ≤ 59 then
        { s with backup := { s.backup with clock := ⟨year, month, day, hour, minute, second⟩, clockValid := true } }.okReply
          i []
      else s.refusal i .outOfRange)) ∧
  (∀ s : State, s.takes .readClock → exec .readClock s =
    .next (s.okReply .readClock (s.backup.clock.octets ++ flag s.backup.clockValid ++ u32 s.minuteCount))) ∧
  (∀ s : State, s.takes .readRetained → exec .readRetained s = .next (s.okReply .readRetained (retainedContent s.backup))) ∧
  ∀ s : State, s.backup.clock.valid = true →
    ∃ c : DateTime, c.valid = true ∧
      (if s.backup.clock = ⟨2099, 12, 31, 23, 59, 59⟩ then
        c = ⟨2000, 1, 1, 0, 0, 0⟩ ∧
        exec .clockSecond s =
          .next { s with
                  backup := { s.backup with clock := c, clockValid := false },
                  notices := { s.notices with clockInvalid := s.notices.clockInvalid || s.isOn } }
      else
        c.seconds = s.backup.clock.seconds + 1 ∧
        exec .clockSecond s = .next { s with backup := { s.backup with clock := c } })

/-- R54, R77, R172, R194: a power-on with the domain-valid mark set, the reset pin (pulsed, or released from a reset)
and the end of a RESTART's reply keep the backup domain and recover each kiln whose snapshot is valid. The edges of the
pin and a power-on while the part runs are log entry 8, the readbacks of a recovered kiln log entry 11, the EYE pin's
level log entry 13. -/
def Obligations.ResetsRecoverTheKilns : Prop :=
  ∀ (c : Instr) (s : State) (straps : Straps), s.distinctSnapshots →
    (c = .powerOn straps ∧ s.backup.domainValid = true) ∨ (c = .resetPin .pulse straps ∧ s.power ≠ .off) ∨
      (c = .resetPin .high straps ∧ s.power = .held) ∨
      (c = .replySent straps ∧ s.power = .on ∧ s.link.restarting = true ∧
        ∃ frame rest, s.link.sending = frame :: rest ∧ frame.busy = false) →
    ∃ t, exec c s = .next t ∧ s.recoveredFrom t straps

/-- R167, R170 to R172, R195: a power-on with the domain-valid mark clear clears the backup domain, posts "clock" and
leaves every volatile block at its reset value; a power failure and RESETN going low keep the backup domain and nothing
volatile (log entry 8); the keep-level loss clears the domain-valid mark alone, while main power is off (log entry 10).
-/
def Obligations.PowerEventsKeepOrClearTheBackupDomain : Prop :=
  (∀ (s : State) (straps : Straps), s.backup.domainValid = false →
    exec (.powerOn straps) s =
      .next { State.volatileReset
                { clock := ⟨2000, 1, 1, 0, 0, 0⟩, clockValid := false, chargeCounter := 0, packCounter := 0,
                  snapshots := Vector.replicate 6 none, domainValid := true }
                s.line.eyePin (.ofStraps straps) s.pending with
              notices := { Notices.initial with clockInvalid := true } }) ∧
  ∀ (s : State) (straps : Straps),
    let still := fun power =>
      { State.volatileReset s.backup s.line.eyePin s.link.rate s.pending with
        power := power, link := { Link.initial s.link.rate with silenceWait := false } }
    exec .powerFail s = .next (still .off) ∧
    (s.power = .on → exec (.resetPin .low straps) s = .next (still .held)) ∧
    (s.power = .held → exec (.resetPin .low straps) s = .next s) ∧
    (s.power = .on → exec (.resetPin .high straps) s = .next s) ∧
    (∀ edge, s.power = .off → exec (.resetPin edge straps) s = .next s) ∧
    exec .keepLevelLoss s =
      .next (if s.power = .off then { s with backup := { s.backup with domainValid := false } } else s)

/-- R141, R172, R180, R195 and their chapters: what the first reset leaves, in the values the spec gives; that the first
reset is the one that found the backup domain cleared (R171) is the model's choice, log entry 3. -/
def Obligations.ResetLeavesTheStatedValues : Prop :=
  let s := State.reset
  s.species = [] ∧ (∀ i, s.schedules.get i = none) ∧ s.charges = [] ∧ s.assignments = [] ∧ s.presence = [] ∧
  s.packs = [] ∧ s.line.queue = [] ∧ s.line.counter = 0 ∧ s.line.nextSequence = 0 ∧ s.line.sampleOwner = none ∧
  s.line.causes = .empty ∧ s.line.counters = .zero ∧ s.line.config.configured = false ∧ s.line.divertPulse = false ∧
  (∀ k, (s.kiln k).state = .empty ∧ (s.kiln k).config = .default ∧ (s.kiln k).dryValid = false) ∧
  (∀ p, (s.port p).state = .off ∧ (s.port p).counters = .zero ∧
    (s.port p).replyWindow = if p.val < 6 then 20 else 10) ∧
  (∀ k, (s.sweep k).kind = none ∧ (s.sweep k).fullScan = true ∧ (s.sweep k).cursor = 1) ∧
  (∀ b, (s.bay b).state = .disabled ∧ (s.bay b).config = none) ∧ s.label.jobs = [] ∧ s.label.timeoutSetting = 20 ∧
  s.minuteCount = 0 ∧ s.link.buffer = none ∧ s.link.receiver = .resync ∧ s.link.store.segments = [] ∧
  s.link.discarded = 0 ∧ (∀ k, s.notices.nonEmpty k = (k == .clockInvalid)) ∧ s.attn = false ∧ s.notices.summary = 0

/-! ### Tables -/

/-- R22 to R24, R26, R27: WRITE-SPECIES makes its four checks in order, then stores the written fields with their check
value and answers the code and the check value; DELETE-SPECIES removes an entry that is present and not referenced,
which is then absent to a lookup; READ-SPECIES answers the 19 fields in stored order, the check value and the reference
count, and changes nothing. -/
def Obligations.SpeciesRequestsAnswer : Prop :=
  (∀ (s : State) (code kT packLimit : Nat) (curve : List (Nat × Nat)),
    s.takes (.writeSpecies code kT packLimit curve) →
    exec (.writeSpecies code kT packLimit curve) s =
      .next (let i := Instr.writeSpecies code kT packLimit curve
        let check := (code + kT + packLimit + (curve.map Prod.fst).sum + (curve.map Prod.snd).sum) % 65536
        if code < 1 ∨ 255 < code then s.refusal i .outOfRange
        else if speciesInRange kT packLimit curve = false then s.refusal i .outOfRange
        else if (s.speciesEntry code).isSome ∧ (s.charges.any fun c => c.species == code) then s.refusal i .inUse
        else if (s.speciesEntry code).isNone ∧ 12 ≤ s.species.length then s.refusal i .full
        else { s with species := insertBy SpeciesEntry.code ⟨code, kT, packLimit, curve, check⟩ s.species }.okReply i
          (u8 code ++ u16 check))) ∧
  (∀ (s : State) (code : Nat), s.takes (.deleteSpecies code) →
    exec (.deleteSpecies code) s =
      .next (let i := Instr.deleteSpecies code
        if code < 1 ∨ 255 < code then s.refusal i .outOfRange
        else if (s.speciesEntry code).isNone then s.refusal i .notFound
        else if (s.charges.any fun c => c.species == code) then s.refusal i .inUse
        else { s with species := s.species.filter fun e => e.code != code }.okReply i []) ∧
    ({ s with species := s.species.filter fun e => e.code != code } : State).speciesEntry code = none) ∧
  ∀ (s : State) (code : Nat), s.takes (.readSpecies code) →
    exec (.readSpecies code) s =
      .next (let i := Instr.readSpecies code
        if code < 1 ∨ 255 < code then s.refusal i .outOfRange
        else
          match s.speciesEntry code with
          | none => s.refusal i .notFound
          | some e => s.okReply i
              (u8 e.code ++ u16 e.kT ++ u16 e.packLimit ++ (e.curve.flatMap fun p => u16 p.1 ++ u16 p.2) ++
                u16 e.checkValue ++ u8 (s.charges.countP fun c => c.species == code)))

/-- R29 to R32, R35: WRITE-SCHEDULE makes its checks in order, then puts the written steps, which carry the written
fields, with their check value in the id's place; DELETE-SCHEDULE empties an unreferenced place; READ-SCHEDULE and
LIST-TABLES change nothing. That they show a step count in 1 octet is log entry 24, and that a WRITE-SCHEDULE whose count is
not the number of its steps, a payload that the link answers BAD_LENGTH, is answered OUT_OF_RANGE is log entry 34, both the
model's choice. -/
def Obligations.ScheduleTableRequestsAnswer : Prop :=
  (∀ (s : State) (id count : Nat) (fields : List StepFields), s.takes (.writeSchedule id count fields) →
    exec (.writeSchedule id count fields) s =
      .next (let i := Instr.writeSchedule id count fields
        if id < 1 ∨ 8 < id ∨ count < 1 ∨ 16 < count ∨ count ≠ fields.length then s.refusal i .outOfRange
        else if fields.all stepInRange = false then s.refusal i .outOfRange
        else if (s.schedule id).isSome ∧ (s.charges.any fun c => c.schedule == id) then s.refusal i .inUse
        else
          match stepsOf fields with
          | some steps =>
            { s with schedules := s.schedules.setIfInBounds (id - 1) (some ⟨steps, scheduleSum id fields⟩) }.okReply i
              (u8 id ++ u16 (scheduleSum id fields))
          | none => s)) ∧
  (∀ (fields : List StepFields),
    ((stepsOf fields).isSome = fields.all stepInRange) ∧
    ∀ steps, stepsOf fields = some steps →
      steps.length = fields.length ∧
      ∀ j : Fin fields.length, ∀ x, steps[j.val]? = some x →
        (x.target : Int) = fields[j].target ∧ x.depression = fields[j].depression ∧ x.ramp = fields[j].ramp ∧
        x.rule.number = fields[j].rule ∧ x.threshold = fields[j].threshold ∧ x.maximum = fields[j].maximum ∧
        x.action.number = fields[j].action) ∧
  ∀ (s : State) (id : Nat),
    (s.takes (.deleteSchedule id) →
      exec (.deleteSchedule id) s =
        .next (let i := Instr.deleteSchedule id
          if id < 1 ∨ 8 < id then s.refusal i .outOfRange
          else if (s.schedule id).isNone then s.refusal i .notFound
          else if (s.charges.any fun c => c.schedule == id) then s.refusal i .inUse
          else { s with schedules := s.schedules.setIfInBounds (id - 1) none }.okReply i [])) ∧
    (s.takes (.readSchedule id) →
      exec (.readSchedule id) s =
        .next (let i := Instr.readSchedule id
          if id < 1 ∨ 8 < id then s.refusal i .outOfRange
          else
            match s.schedule id with
            | none => s.refusal i .notFound
            | some x => s.okReply i
                (u8 id ++ u8 x.steps.length ++ x.steps.flatMap Step.octets ++ u16 x.checkValue ++
                  u8 (s.charges.countP fun c => c.schedule == id)))) ∧
    (s.takes .listTables →
      exec .listTables s = .next (s.okReply .listTables
        (listOf (fun e => u8 e.code ++ u16 e.checkValue ++ u8 (s.charges.countP fun c => c.species == e.code)) s.species ++
          listOf (fun x : Nat × Schedule =>
            u8 x.1 ++ u8 x.2.steps.length ++ u16 x.2.checkValue ++ u8 (s.charges.countP fun c => c.schedule == x.1))
            ([1, 2, 3, 4, 5, 6, 7, 8].filterMap fun n => (s.schedule n).map fun x => (n, x)))))

/-! ### Charges -/

/-- R44, R50 to R52: SET-INFEED makes the named STAGED charge the infeed charge, the one before it STAGED again, and
answers the number that left INFEED, 0 leaving none; CLOSE-CHARGE frees a STAGED charge with nothing queued and no open
pack; READ-CHARGE and LIST-CHARGES change nothing. -/
def Obligations.ChargeTableRequestsAnswer : Prop :=
  (∀ (s : State) (number : Nat), s.takes (.setInfeed number) →
    exec (.setInfeed number) s =
      .next (let i := Instr.setInfeed number
        let left := match s.charges.find? (fun c => c.state == .infeed) with | some c => c.number | none => 0
        let staged := s.charges.map fun c => if c.state = .infeed then { c with state := .staged } else c
        if number = 0 then { s with charges := staged }.okReply i (u16 left)
        else
          match s.charge number with
          | none => s.refusal i .notFound
          | some c =>
            if c.state = .kiln then s.refusal i .wrongState
            else if c.state = .infeed then s.okReply i (u16 0)
            else
              { s with
                charges := staged.map fun (c : Charge) => if c.number = number then { c with state := .infeed } else c }.okReply i
                (u16 left))) ∧
  ∀ (s : State) (number : Nat),
    (s.takes (.closeCharge number) →
      exec (.closeCharge number) s =
        .next (let i := Instr.closeCharge number
          if number = 0 then s.refusal i .outOfRange
          else
            match s.charge number with
            | none => s.refusal i .notFound
            | some c =>
              if c.state ≠ .staged then s.refusal i .wrongState
              else if c.queued ≠ 0 ∨ c.openPackRefs ≠ 0 then s.refusal i .inUse
              else { s with charges := s.charges.filter fun c => c.number != number }.okReply i c.octets)) ∧
    (s.takes (.readCharge number) →
      exec (.readCharge number) s =
        .next (let i := Instr.readCharge number
          if number = 0 then s.refusal i .outOfRange
          else
            match s.charge number with
            | none => s.refusal i .notFound
            | some c => s.okReply i c.octets)) ∧
    (s.takes .listCharges → exec .listCharges s = .next (s.okReply .listCharges (listOf Charge.listed s.charges)))

/-- R38 to R40, R62: with at most 16 charges and a counter in 0..65535, the number issued next is in 1..65535, in use
by no charge, and the first such after the counter, 65535 being followed by 1; LOAD makes its checks in order, then
creates the charge, fills the kiln record, clears the port's presence entries and writes the first snapshot, and
answers the charge number. -/
def Obligations.LoadBindsANewCharge : Prop :=
  (∀ s : State, s.charges.length ≤ 16 → s.backup.chargeCounter ≤ 65535 →
    1 ≤ s.issuedChargeNumber ∧ s.issuedChargeNumber ≤ 65535 ∧ s.charge s.issuedChargeNumber = none ∧
    ∃ tries < 17, s.issuedChargeNumber = (s.backup.chargeCounter + tries) % 65535 + 1 ∧
      ∀ m < tries, (s.charge ((s.backup.chargeCounter + m) % 65535 + 1)).isSome) ∧
  ∀ (s : State) (k : KilnNo) (species id : Nat), s.takes (.load (k.val + 1) species id) →
    exec (.load (k.val + 1) species id) s =
      .next (let i := Instr.load (k.val + 1) species id
        let r := s.kiln k
        let number := s.issuedChargeNumber
        if species < 1 ∨ 255 < species ∨ id < 1 ∨ 8 < id then s.refusal i .outOfRange
        else if r.state ≠ .empty then s.refusal i .wrongState
        else
          match s.speciesEntry species, s.schedule id with
          | some e, some x =>
            if 16 ≤ s.charges.length then s.refusal i .full
            else
              let charge : KilnCharge := ⟨number, e.code, e.checkValue, id, x.checkValue⟩
              let first := x.steps.head?
              (({ s with
                  backup := { s.backup with chargeCounter := number },
                  charges := insertBy Charge.number
                    { number := number, state := .kiln, kiln := some k, species := e.code, schedule := id,
                      complete := false, abandoned := false, recovered := false, loadStamp := s.stamp,
                      unloadStamp := none, finalMc := .absent, metered := 0, queued := 0, redry := 0, short := 0,
                      noBay := 0, stacked := 0, cleared := 0, meterSum := 0, meterCount := 0, openPackRefs := 0 }
                    s.charges,
                  presence := s.presence.filter fun e => e.port != k }.setKiln k
                { r with
                  state := .loaded, charge := some charge, stepIndex := 0, stepElapsed := 0, totalMinutes := 0,
                  dryBulb := match first with | some x => x.target | none => 0,
                  depression := match first with | some x => x.depression | none => 0,
                  holds := { HoldSet.empty with
                             door := r.status.door, localControl := r.status.localControl, alarm := r.status.alarm },
                  overtimeDisarmed := false, remembered := none, controllingMc := .absent, spread := none,
                  driest := none }).setSweep k
                  { s.sweep k with events := .empty, fullScan := true, cursor := 1 }).writeSnapshot k |>.okReply i
                (u16 number)
          | _, _ => s.refusal i .notFound)

/-! ### Kilns -/

/-- R63, R78: START sets a LOADED kiln whose port is UP going at step 0, from the readbacks where they are valid, else
from the step's targets; RESUME makes its five checks in order, then sets the recovered kiln going where its snapshot
left it. -/
def Obligations.StartAndResumeSetKilnsGoing : Prop :=
  (∀ (s : State) (k : KilnNo), s.takes (.start (k.val + 1)) →
    let i := Instr.start (k.val + 1)
    let r := s.kiln k
    ((r.state ≠ .loaded ∨ (s.port (kilnPort k)).state ≠ .up) → exec i s = .next (s.refusal i .wrongState)) ∧
    ∀ x, s.firstStep k = some x → r.state = .loaded → (s.port (kilnPort k)).state = .up →
      exec i s =
        .next (((s.setKiln k
          { r with
            state := if r.holds.isEmpty then .running else .held,
            stepIndex := 0, stepElapsed := 0, overtimeDisarmed := false,
            dryBulb := if r.dryValid then (max 0 (min r.dryReadback 1200)).toNat else x.target,
            depression :=
              if r.dryValid && r.wetValid then (max 0 (min (r.dryReadback - r.wetReadback) 400)).toNat
              else x.depression }).writeSnapshot k).okReply i [])) ∧
  ∀ (s : State) (k : KilnNo), s.takes (.resume (k.val + 1)) →
    let i := Instr.resume (k.val + 1)
    let r := s.kiln k
    ((r.state ≠ .recovery ∨ (s.port (kilnPort k)).state ≠ .up) → exec i s = .next (s.refusal i .wrongState)) ∧
    ∀ c, r.charge = some c → r.state = .recovery → (s.port (kilnPort k)).state = .up →
      exec i s =
        .next (match s.speciesEntry c.species, s.schedule c.schedule with
          | some e, some x =>
            if e.checkValue ≠ c.speciesCheck ∨ x.checkValue ≠ c.scheduleCheck ∨ x.steps.length ≤ r.stepIndex then
              s.refusal i .mismatch
            else
              ((s.setKiln k { r with state := if r.holds.isEmpty then .running else .held }).writeSnapshot k).okReply i []
          | _, _ => s.refusal i .notFound)

/-- R58, R60, R61: HOLD adds HOST and holds a RUNNING kiln, and leaves a kiln that already has it as it was; RELEASE
removes the named reason, 0 for HOST and 1 for OVERTIME, which also disarms the step's maximum, and a HELD kiln left
without a reason runs. -/
def Obligations.HoldsAreAddedAndRemoved : Prop :=
  (∀ (s : State) (k : KilnNo), s.takes (.hold (k.val + 1)) →
    exec (.hold (k.val + 1)) s =
      .next (let i := Instr.hold (k.val + 1)
        let r := s.kiln k
        if r.state = .empty ∨ r.state = .complete then s.refusal i .wrongState
        else if r.holds.host then s.okReply i []
        else ((s.setKiln k
          { r with
            holds := { r.holds with host := true },
            state := if r.state = .running then .held else r.state }).writeSnapshot k).okReply i [])) ∧
  ∀ (s : State) (k : KilnNo) (reason : Nat), s.takes (.release (k.val + 1) reason) →
    exec (.release (k.val + 1) reason) s =
      .next (let i := Instr.release (k.val + 1) reason
        let r := s.kiln k
        let after := fun (holds : HoldSet) (disarmed : Bool) =>
          ((s.setKiln k
            { r with
              holds := holds, overtimeDisarmed := disarmed,
              state := if r.state = .held ∧ holds.isEmpty then .running
                else if r.state = .running ∧ !holds.isEmpty then .held else r.state }).writeSnapshot k).okReply i []
        if 1 < reason then s.refusal i .outOfRange
        else if r.state = .empty then s.refusal i .wrongState
        else if reason = 0 then
          if r.holds.host then after { r.holds with host := false } r.overtimeDisarmed else s.refusal i .wrongState
        else
          if r.holds.overtime then after { r.holds with overtime := false } true else s.refusal i .wrongState)

/-- R67, R68, R71: SKIP of a RUNNING or HELD kiln advances the step with the maximum armed again, or completes the
schedule at its last step. The octets of the reply's content are log entry 24. -/
def Obligations.SkipEndsTheStep : Prop :=
  ∀ (s : State) (k : KilnNo), s.takes (.skip (k.val + 1)) →
    let i := Instr.skip (k.val + 1)
    let r := s.kiln k
    (r.state ≠ .running → r.state ≠ .held → exec i s = .next (s.refusal i .wrongState)) ∧
    ∀ c, r.charge = some c → ∀ x, s.schedule c.schedule = some x → (r.state = .running ∨ r.state = .held) →
      exec i s =
        .next (if r.stepIndex + 1 < x.steps.length then
          (((s.setKiln k
            { r with stepIndex := r.stepIndex + 1, stepElapsed := 0, overtimeDisarmed := false }).postKilnStep k
              false).writeSnapshot k).okReply i (u8 1 ++ u8 (r.stepIndex + 1))
        else
          ((({ s with
               charges := updateBy Charge.number c.number
                 (fun d =>
                   { d with finalMc := match r.controllingMc with | .value mc => .value mc | _ => .invalid })
                 s.charges }.setKiln k { r with state := .complete }).postChargeDried k).writeSnapshot k).okReply i
            (u8 0 ++ u8 0))

/-- R42, R73, R79, R118, R122: UNLOAD of a kiln that is not EMPTY, and ABANDON of one in RECOVERY, stage the charge,
mark the snapshot invalid, end the sweep, clear the port's presence entries and empty the record. -/
def Obligations.UnloadStagesTheCharge : Prop :=
  ∀ (s : State) (k : KilnNo) (abandon : Bool),
    s.takes (if abandon then .abandon (k.val + 1) else .unload (k.val + 1)) →
    exec (if abandon then .abandon (k.val + 1) else .unload (k.val + 1)) s =
      .next (let i := if abandon then Instr.abandon (k.val + 1) else Instr.unload (k.val + 1)
        let r := s.kiln k
        let w := s.sweep k
        let p := s.port (kilnPort k)
        if (abandon ∧ r.state ≠ .recovery) ∨ r.state = .empty then s.refusal i .wrongState
        else
          let emptied :=
            (({ s with
                charges := updateBy Charge.number r.chargeNumber
                  (fun (c : Charge) =>
                    { c with
                      state := .staged, kiln := none, unloadStamp := some s.stamp,
                      complete := decide (c.finalMc ≠ ControllingMc.absent), abandoned := decide (c.finalMc = ControllingMc.absent) })
                  s.charges,
                presence := s.presence.filter fun e => e.port != k }.setSnapshot k none).setKiln k
              { KilnRecord.initial with
                dryReadback := r.dryReadback, dryValid := r.dryValid, wetReadback := r.wetReadback,
                wetValid := r.wetValid, status := r.status, config := r.config, minuteEvents := r.minuteEvents })
          (if w.kind.isSome then
            (emptied.setPort (kilnPort k) { p with sweepQueue := [] }).setSweep k
              { w with
                kind := none, outstanding := [], events := .empty, fullScan := w.fullScan || w.kind == some SweepKind.full,
                discard := if p.sweepInFlight.isSome then p.sweepInFlight else w.discard }
          else emptied.setSweep k { w with events := .empty }).okReply i (u16 r.chargeNumber))

/-- R56, R80: KILN-CONFIG replaces all nine settings or none; READ-KILN changes nothing. -/
def Obligations.KilnConfigReplacesAllNine : Prop :=
  ∀ (s : State) (k : KilnNo) (si ci wet probes learning role loss jump shift : Nat),
    (s.takes (.kilnConfig (k.val + 1) si ci wet probes learning role loss jump shift) →
      exec (.kilnConfig (k.val + 1) si ci wet probes learning role loss jump shift) s =
        .next (let i := Instr.kilnConfig (k.val + 1) si ci wet probes learning role loss jump shift
          if 1 ≤ si ∧ si ≤ 60 ∧ 2 ≤ ci ∧ ci ≤ 60 ∧ 1 ≤ wet ∧ wet ≤ 8 ∧ 1 ≤ probes ∧ probes ≤ 24 ∧ learning ≤ 1 ∧
              role ≤ 1 ∧ 2 ≤ loss ∧ loss ≤ 15 ∧ 50 ≤ jump ∧ jump ≤ 2000 ∧ shift ≤ 3 then
            (s.setKiln k
              { s.kiln k with
                config := ⟨si, ci, wet, probes, learning == 1, role == 1, loss, jump, shift⟩ }).okReply i []
          else s.refusal i .outOfRange)) ∧
    (s.takes (.readKiln (k.val + 1)) →
      exec (.readKiln (k.val + 1)) s = .next (s.okReply (.readKiln (k.val + 1)) (s.kilnContent k)))

/-- The ranges of the numbered subjects: a request that names a kiln outside 1..6, a port outside 1..8 or a bay outside
1..4 is answered OUT_OF_RANGE (R56, R60 to R63, R71, R73, R78 to R80, R88, R89, R102, R109, R120, R142, R149, R160). -/
def Obligations.SubjectsOutOfRangeAreRefused : Prop :=
  ∀ (s : State) (n a b c d e f g h j : Nat),
    ((n < 1 ∨ 6 < n) → ∀ i ∈ [Instr.load n a b, .start n, .hold n, .release n a, .skip n, .unload n, .resume n,
        .abandon n, .kilnConfig n a b c d e f g h j, .readKiln n, .sweepNow n a, .readProbes n],
      s.takes i → exec i s = .next (s.refusal i .outOfRange)) ∧
    ((n < 1 ∨ 8 < n) → ∀ i ∈ [Instr.enablePort n a b c d, .disablePort n, .readPort n],
      s.takes i → exec i s = .next (s.refusal i .outOfRange)) ∧
    ((n < 1 ∨ 4 < n) → ∀ i ∈ [Instr.bayConfig n a b c d e, .closePack n, .readBay n],
      s.takes i → exec i s = .next (s.refusal i .outOfRange))

/-- R57, R76: a snapshot is written in LOADED, RUNNING, HELD and COMPLETE, and in FAULT_HOLD entered from one of these,
and holds the record's fields, nothing else changing; the mode and the temperatures of the next SETPOINT follow the
state, in FAULT_HOLD the remembered one. -/
def Obligations.SnapshotsAndSetpointsFollowTheRecord : Prop :=
  (∀ (s : State) (k : KilnNo), ∀ c, (s.kiln k).charge = some c →
    let r := s.kiln k
    let st := if r.state = .faultHold ∧ r.remembered.isSome then r.remembered.getD .empty else r.state
    s.writeSnapshot k =
      if st = .loaded ∨ st = .running ∨ st = .held ∨ st = .complete then
        { s with
          backup := { s.backup with
                      snapshots := s.backup.snapshots.set k.val
                        (some { charge := c, stepIndex := r.stepIndex, stepElapsed := r.stepElapsed,
                                totalMinutes := r.totalMinutes, running := st == .running, host := r.holds.host,
                                overtime := r.holds.overtime, dryBulb := r.dryBulb, depression := r.depression,
                                overtimeDisarmed := r.overtimeDisarmed }) k.isLt } }
      else s) ∧
  ∀ r : KilnRecord,
    let st := if r.state = .faultHold ∧ r.remembered.isSome then r.remembered.getD .empty else r.state
    r.setpoint =
      if st = .running ∨ st = .held ∨ st = .recovery then
        { run := true, dryBulb := r.dryBulb, wetBulb := ((r.dryBulb : Int) - r.depression).toNat }
      else { run := false, dryBulb := 0, wetBulb := 0 }

/-- R64, R65, R162: a minute event at a kiln whose step does not end by it: the minutes count in every state but EMPTY,
the step's minutes and the ramp in RUNNING only, and each tenth minute writes a snapshot. The minute count that
READ-CLOCK shows follows the kilns' minute events (log entry 7). -/
def Obligations.MinuteEventCountsAndRamps : Prop :=
  ∀ (s : State) (k : KilnNo), s.isOn →
    let r := s.kiln k
    let minutes := bump r.minuteEvents
    let counted := fun (r : KilnRecord) =>
      let t := { s with minuteCount := max s.minuteCount minutes }.setKiln k { r with minuteEvents := minutes }
      if r.state ≠ .empty ∧ r.totalMinutes % 10 = 0 then t.writeSnapshot k else t
    (r.state = .empty → exec (.minuteEvent k) s = .next (counted r)) ∧
    (r.state ≠ .empty → r.state ≠ .running →
      exec (.minuteEvent k) s = .next (counted { r with totalMinutes := bump r.totalMinutes })) ∧
    ∀ x, s.currentStep k = some x → r.state = .running →
      ¬ (x.rule = .time ∧ x.threshold ≤ bump r.stepElapsed) →
      ¬ (r.overtimeDisarmed = false ∧ x.maximum ≤ bump r.stepElapsed) →
      exec (.minuteEvent k) s =
        .next (counted
          { r with
            totalMinutes := bump r.totalMinutes, stepElapsed := bump r.stepElapsed,
            dryBulb := if r.dryBulb < x.target then min x.target (r.dryBulb + x.ramp)
              else max x.target (r.dryBulb - x.ramp),
            depression := if r.depression < x.depression then min x.depression (r.depression + x.ramp)
              else max x.depression (r.depression - x.ramp) })

/-- R64 to R68, R76: a RUNNING kiln's minute event counts and ramps first; one that then ends the step by time, or by an
overtime that advances, moves to the next step or completes the schedule; an overtime that holds adds OVERTIME and enters
HELD. KILN_STEP is posted, with the overtime indication for an overtime, or CHARGE_DRIED at a completion, which records the
final controlling MC; the kiln's snapshot is written, and nothing else changes but the minute count that READ-CLOCK shows
(log entry 7). -/
def Obligations.MinuteEventEndsTheStep : Prop :=
  ∀ (s : State) (k : KilnNo), s.isOn → ∀ c, (s.kiln k).charge = some c → ∀ sch, s.schedule c.schedule = some sch →
    ∀ x, sch.steps[(s.kiln k).stepIndex]? = some x → (s.kiln k).state = .running →
    let r := s.kiln k
    let elapsed := bump r.stepElapsed
    let byTime := x.rule = .time ∧ x.threshold ≤ elapsed
    let overtime := ¬ byTime ∧ r.overtimeDisarmed = false ∧ x.maximum ≤ elapsed
    let ramped :=
      { r with
        minuteEvents := bump r.minuteEvents, totalMinutes := bump r.totalMinutes, stepElapsed := elapsed,
        dryBulb := if r.dryBulb < x.target then min x.target (r.dryBulb + x.ramp)
          else max x.target (r.dryBulb - x.ramp),
        depression := if r.depression < x.depression then min x.depression (r.depression + x.ramp)
          else max x.depression (r.depression - x.ramp) }
    let ended := fun (t : State) (q : KilnRecord) =>
      { t with
        minuteCount := max s.minuteCount (bump r.minuteEvents),
        backup := { s.backup with
                    snapshots := s.backup.snapshots.set k.val
                      (some { charge := c, stepIndex := q.stepIndex, stepElapsed := q.stepElapsed,
                              totalMinutes := q.totalMinutes, running := q.state == KilnState.running, host := q.holds.host,
                              overtime := q.holds.overtime, dryBulb := q.dryBulb, depression := q.depression,
                              overtimeDisarmed := q.overtimeDisarmed }) k.isLt } }.setKiln k q
    byTime ∨ overtime →
      exec (.minuteEvent k) s =
        .next (if overtime ∧ x.action = .hold then
          ended (s.postKilnStep k true) { ramped with state := .held, holds := { r.holds with overtime := true } }
        else if r.stepIndex + 1 < sch.steps.length then
          ended (s.postKilnStep k (decide overtime))
            { ramped with stepIndex := r.stepIndex + 1, stepElapsed := 0, overtimeDisarmed := false }
        else
          ended
            { s.postChargeDried k with
              charges := updateBy Charge.number c.number
                (fun d => { d with finalMc := match r.controllingMc with | .value mc => .value mc | _ => .invalid })
                s.charges }
            { ramped with state := .complete })

/-- R74, R75: the kiln supervisor takes "controller lost" by marking both readbacks not valid and, but in EMPTY and
FAULT_HOLD, entering FAULT_HOLD with KILN_FAULT posted; it takes "port up" by returning to the remembered state,
adjusted by the hold set, or, when the loss that followed has been taken first, by posting KILN_FAULT again with the
remembered state kept. The reports wait in order, and that posting is the model's reading (log entry 6). -/
def Obligations.ControllerLossHoldsTheKiln : Prop :=
  ∀ (s : State) (k : KilnNo), s.isOn →
    let r := s.kiln k
    (.controllerLost k ∉ s.reports → exec (.controllerLost k) s = .next s) ∧
    (.controllerLost k ∈ s.reports → exec (.controllerLost k) s =
      .next (let taken := { s with reports := s.reports.erase (.controllerLost k) }
        if r.state = .empty ∨ r.state = .faultHold then
          taken.setKiln k { r with dryValid := false, wetValid := false }
        else
          (taken.setKiln k
            { r with
              dryValid := false, wetValid := false, remembered := some r.state, state := .faultHold }).postKilnFault k)) ∧
    exec (.kilnPortUp k) s =
      .next (let taken := { s with reports := s.reports.erase (.kilnPortUp k) }
        let overtaken : Bool :=
          match taken.reports.find? (fun x => x == Report.controllerLost k || x == .kilnPortUp k) with
          | some x => x == Report.kilnPortUp k
          | none => (s.port (kilnPort k)).state != .up
        if s.reportNext (.kilnPortUp k) = false then s
        else if r.state = .faultHold ∧ r.remembered.isSome then
          if overtaken then taken.postKilnFault k
          else
            let back := r.remembered.getD .empty
            taken.setKiln k
              { r with
                remembered := none,
                state := if back = .running ∨ back = .held then if r.holds.isEmpty then .running else .held else back }
        else taken)

/-- R17, R69: a sweep result replaces the three figures, posts MOISTURE_INVALID when the controlling MC turns INVALID,
and in RUNNING advances a step whose moisture or spread rule it meets; otherwise the step stands. R14, R117: a sweep that
completes goes IDLE and hands over the selection among the S of the kiln's ACTIVE CONTROL entries, by the K and the
minimum probes of its configuration. -/
def Obligations.SweepResultTestsTheStep : Prop :=
  (∀ (s : State) (k : KilnNo) (x : SweepResult), (s.kiln k).state ≠ .empty →
    let r := s.kiln k
    let stored := s.setKiln k { r with controllingMc := x.controllingMc, spread := x.spread, driest := x.driest }
    let told := if x.controllingMc = .invalid ∧ r.controllingMc ≠ .invalid then stored.postMoistureInvalid k else stored
    s.takeSweepResult k x =
      match s.currentStep k with
      | none => told
      | some step =>
        if r.state = .running ∧
            ((step.rule = .mcAtOrBelow ∧ (match x.controllingMc with | .value mc => decide (mc ≤ step.threshold) | _ => false) = true) ∨
              (step.rule = .spreadAtOrBelow ∧ (match x.spread with | some d => decide (d ≤ step.threshold) | none => false) = true)) then
          told.advanceStep k false
        else told) ∧
  ∀ (s : State) (k : KilnNo),
    let values := s.presence.filterMap fun e =>
      if e.port = k ∧ e.state = .active ∧ e.role = some .control then e.smoothed else none
    let config := (s.kiln k).config
    s.completeSweep k =
      (s.setSweep k { s.sweep k with kind := none }).takeSweepResult k
        (select values config.wetCount config.minimumProbes)

/-! ### Field ports -/

/-- R88, R89, R102: ENABLE-PORT stores the settings and begins establishment at attempt 1; DISABLE-PORT ends everything
on the port, keeps the settings, identity and counters, and reports the leaving of UP, from which no readback of its
kiln is valid (R4, log entry 38); the line's silent wait goes on (R81, log entry 40); READ-PORT changes nothing. -/
def Obligations.PortRequestsAnswer : Prop :=
  ∀ (s : State) (p : PortNo) (window limit auto retry : Nat),
    let r := s.port p
    (s.takes (.enablePort (p.val + 1) window limit auto retry) →
      exec (.enablePort (p.val + 1) window limit auto retry) s =
        .next (let i := Instr.enablePort (p.val + 1) window limit auto retry
          if limit < 2 ∨ 10 < limit ∨ 1 < auto ∨ 1 < retry then s.refusal i .outOfRange
          else if (p.val < 6 ∧ (window < 5 ∨ 100 < window)) ∨ (6 ≤ p.val ∧ window ≠ 10) then s.refusal i .outOfRange
          else if r.state = .establishing ∨ r.state = .up then s.refusal i .wrongState
          else
            (s.setPort p
              { r with
                replyWindow := window, failureLimit := limit, autoReestablish := auto == 1, autoretry := retry == 1,
                lineFaultCount := 0, autoretryWait := false, reestablishWait := false, state := .establishing,
                attempt := some 1, failureCount := 0, wake := .pulse, nextRate := .r230, attemptGap := false }).okReply i
              [])) ∧
    (s.takes (.disablePort (p.val + 1)) →
      exec (.disablePort (p.val + 1)) s =
        .next (let i := Instr.disablePort (p.val + 1)
          if r.state = .off then s.okReply i []
          else
            let told :=
              if r.state ≠ .up then s
              else
                match portKiln p with
                | some k =>
                  { s with reports := s.reports ++ [Report.controllerLost k, .probePortLeftUp k] }.setKiln k
                    { s.kiln k with dryValid := false, wetValid := false }
                | none =>
                  { s with
                    reports := s.reports ++ if p.val = 6 then [Report.meterPortLeftUp] else [.labelPortLeftUp] }
            (told.setPort p
              { r with
                state := .off, rate := none, attempt := none, exchange := none, setpointDue := false, sweepQueue := [],
                waiting := none, wake := .none, silentWait := r.silentWait || r.exchange.isSome, attemptGap := false, autoretryWait := false,
                reestablishWait := false, controllerInterval := none, idleWait := false, healthDue := false,
                failureCount := 0, lineFaultCount := 0 }).okReply i [])) ∧
    (s.takes (.readPort (p.val + 1)) →
      exec (.readPort (p.val + 1)) s = .next (s.okReply (.readPort (p.val + 1)) r.octets))

/-- R81, R90, R91, R96: the run-outs of the port's waits. The wake pulse is followed by its wait and that by the
attempt's first IDENTIFY, at 230.4 kbit/s; the gap, the autoretry and the re-establish wait begin the next attempt or
establishment; the silent wait is followed by the attempt's next IDENTIFY, or in UP by the exchange that waits. -/
def Obligations.PortWaitsRunOut : Prop :=
  ∀ (s : State) (p : PortNo), s.isOn →
    let r := s.port p
    let begun := fun attempt (q : PortRecord) =>
      s.setPort p { q with attempt := some attempt, wake := .pulse, nextRate := .r230, attemptGap := false }
    let established := { r with state := .establishing, failureCount := 0, autoretryWait := false, reestablishWait := false }
    let identifying := fun (q : PortRecord) =>
      { q with
        exchange := some { command := .identify, address := 0, request := stationFrame 0 0x01 [], phase := .sending },
        tryRate := q.nextRate, idleWait := false, healthDue := false }
    exec (.wakePulseEnd p) s = .next (if r.wake = .pulse then s.setPort p { r with wake := .wait } else s) ∧
    exec (.wakeWaitExpiry p) s =
      .next (if r.wake = .wait then
        s.setPort p
          (if r.state = .establishing ∧ r.attemptGap = false ∧ r.silentWait = false ∧ r.exchange = none then
            identifying { r with wake := .none }
          else { r with wake := .none })
      else s) ∧
    exec (.attemptGapExpiry p) s = .next (if r.attemptGap then begun (r.attempt.getD 1 + 1) r else s) ∧
    exec (.autoretryExpiry p) s = .next (if r.autoretryWait then begun 1 established else s) ∧
    exec (.reestablishExpiry p) s = .next (if r.reestablishWait then begun 1 established else s) ∧
    exec (.fieldSilentWaitExpiry p) s =
      .next (if r.silentWait = false then s
      else if r.state = .establishing ∧ r.wake = .none ∧ r.attemptGap = false ∧ r.exchange = none then
        s.setPort p (identifying { r with silentWait := false })
      else (s.setPort p { r with silentWait := false }).sendNext p)

/-- R97, R98, R100, R101: a port in UP whose line is free sends the exchange that waits, the controller exchange before
the head of the sweep queue, and a port that is not free sends nothing; a block that asks port 7 or 8 gets its exchange
taken unless the port is not UP or holds another; a kiln port's controller interval starts again and makes a SETPOINT
due; the idle wait of port 7 or 8 makes a health IDENTIFY due, but on port 8 with a label job the wait starts again
(log entry 18). -/
def Obligations.FieldExchangesFallDueAndAreSent : Prop :=
  (∀ (s : State) (p : PortNo) (w : WaitingExchange),
    let r := s.port p
    let sent := fun (q : PortRecord) (command : StationCommand) (address : Nat) (data : List Octet) =>
      s.setPort p
        { q with
          exchange := some { command := command, address := address,
                             request := stationFrame address command.code data, phase := .sending },
          idleWait := false, healthDue := false }
    (s.sendNext p =
      if r.state ≠ .up ∨ r.exchange.isSome ∨ r.silentWait then s
      else
        match portKiln p with
        | some k =>
          if r.setpointDue then
            let x := (s.kiln k).setpoint
            sent { r with setpointDue := false } .setpoint 0 (flag x.run ++ i16 x.dryBulb ++ i16 x.wetBulb)
          else
            match r.sweepQueue with
            | (a, .read) :: rest => sent { r with sweepQueue := rest } .probeRead a []
            | (a, .identify) :: rest => sent { r with sweepQueue := rest } .identify a []
            | [] => s
        | none =>
          match r.waiting with
          | some x => sent { r with waiting := none } x.command 0 x.data
          | none => if r.healthDue then sent r .identify 0 [] else s) ∧
    s.askPort p w =
      if r.state ≠ .up ∨ r.waiting.isSome ∨ (∃ e ∈ r.exchange, e.command ≠ .identify) then s
      else (s.setPort p { r with waiting := some w }).sendNext p) ∧
  ∀ (s : State) (k : KilnNo) (p : PortNo), s.isOn →
    exec (.controllerIntervalExpiry k) s =
      .next (let r := s.port (kilnPort k)
        if r.controllerInterval = none then s
        else
          (s.setPort (kilnPort k)
            { r with setpointDue := true,
                     controllerInterval := some ((s.kiln k).config.controllerInterval * 1000) }).sendNext (kilnPort k)) ∧
    exec (.idleWaitExpiry p) s =
      .next (let r := s.port p
        if r.idleWait = false then s
        else if r.waiting.isSome then s.setPort p { r with idleWait := false }
        else if p = 7 ∧ s.label.jobs ≠ [] then s
        else (s.setPort p { r with idleWait := false, healthDue := true }).sendNext p)

/-- R81, R84, R85: the octets and silences of a reply: what is discarded, what is stored, and with which outcome the
exchange ends. That octets outside an exchange, or while the port sends, are not received is log entry 16. R86, R93,
R94, R100, R103: an exchange of a port in UP that ends is counted, each of the seven outcomes at its own counter, then
handed to the block that asked for it (the kiln supervisor, the probe unit, the tracker, the label unit; a health
IDENTIFY has none), and then applied to the port's record: with station 0 a GOOD outcome clears the failure count, and
records the identity of an IDENTIFY, and any other raises the count, which at the limit sends the port into ESTABLISHING
with its leaving of UP reported (log entry 38). -/
def Obligations.RepliesAreJudgedAndHandedOn : Prop :=
  (∀ (s : State) (p : PortNo) (octet : Octet) (error : Bool), s.isOn →
    ((s.port p).exchange = none →
      exec (.fieldRequestSent p) s = .next s ∧ exec (.replyWindowExpiry p) s = .next s ∧
      exec (.fieldOctetSilence p) s = .next s ∧ exec (.fieldOctetReceived p octet error) s = .next s) ∧
    ∀ e, (s.port p).exchange = some e →
      let phased := fun phase => s.setPort p { s.port p with exchange := some { e with phase := phase } }
      let ended := fun outcome => s.endExchange p outcome { status := 0, data := [] }
      exec (.fieldRequestSent p) s = .next (if e.phase = .sending then phased .window else s) ∧
      exec (.replyWindowExpiry p) s = .next (if e.phase = .window then ended .timeout else s) ∧
      exec (.fieldOctetSilence p) s =
        .next (match e.phase with | .receiving _ => ended .truncated | .sending => s | .window => s) ∧
      exec (.fieldOctetReceived p octet error) s =
        .next (match e.phase with
          | .sending => s
          | .window => if octet = 0x69 ∧ error = false then phased (.receiving [octet]) else s
          | .receiving octets =>
            let now := octets ++ [octet]
            let length := (now.getD 3 0).toNat
            let status := now.getD 2 0
            let expected :=
              match e.command with
              | .identify | .probeRead => 7
              | .setpoint | .meterSample => 5
              | .labelPrint => 0
              | .labelStatus => if status = 0x02 then 10 else 0
            if error then ended .framing
            else if now.length = 4 ∧ 60 < length then ended .length
            else if 4 < now.length ∧ now.length = length + 5 then
              s.endExchange p
                (if octetSum now ≠ 0x5A then .check
                else if (now.getD 1 0).toNat ≠ e.address then .address
                else if length ≠ expected then .length
                else .good)
                { status := status, data := (now.drop 4).take length }
            else phased (.receiving now))) ∧
  (∀ c : PortCounters,
    c.count .good = { c with good := bump c.good } ∧ c.count .timeout = { c with timeout := bump c.timeout } ∧
    c.count .truncated = { c with truncated := bump c.truncated } ∧ c.count .length = { c with length := bump c.length } ∧
    c.count .check = { c with check := bump c.check } ∧ c.count .framing = { c with framing := bump c.framing } ∧
    c.count .address = { c with address := bump c.address }) ∧
  (∀ kind serial version : Nat, kind < 256 → serial < 4294967296 → version < 65536 →
    identityOf (u8 kind ++ u32 serial ++ u16 version) = some ⟨kind, serial, version⟩) ∧
  ∀ (s : State) (p : PortNo) (outcome : ExchangeOutcome) (reply : StationReply), ∀ e, (s.port p).exchange = some e →
    (s.port p).state = .up →
    let r := s.port p
    let closed := s.setPort p
      { r with exchange := none, silentWait := true, counters := r.counters.count outcome,
               idleWait := (portKiln p).isNone }
    let handed :=
      match portKiln p with
      | some k =>
        match e.command with
        | .setpoint => closed.setpointOutcome k outcome reply
        | .probeRead => closed.probeOutcome k e.address .read outcome reply.data
        | .identify =>
          if e.address = 0 then closed else closed.probeOutcome k e.address .identify outcome reply.data
        | _ => closed
      | none =>
        match e.command with
        | .meterSample => closed.meterOutcome outcome reply.data
        | .labelPrint => closed.labelOutcome false outcome reply
        | .labelStatus => closed.labelOutcome true outcome reply
        | _ => closed
    let q := handed.port p
    let lost := fun (t : State) =>
      match portKiln p with
      | some k =>
        { t with reports := t.reports ++ [Report.controllerLost k, .probePortLeftUp k] }.setKiln k
          { t.kiln k with dryValid := false, wetValid := false }
      | none => { t with reports := t.reports ++ [if p.val = 6 then Report.meterPortLeftUp else .labelPortLeftUp] }
    s.endExchange p outcome reply =
      if e.address ≠ 0 then handed
      else if outcome = .good then
        handed.setPort p
          { q with
            failureCount := 0,
            identity := if e.command = .identify ∧ (identityOf reply.data).isSome then identityOf reply.data
                        else q.identity }
      else if q.failureCount + 1 < q.failureLimit then handed.setPort p { q with failureCount := q.failureCount + 1 }
      else
        lost (handed.setPort p
          { q with
            state := .establishing, failureCount := 0, attempt := some 1, wake := .pulse, nextRate := .r230,
            attemptGap := false, autoretryWait := false, reestablishWait := false, rate := none,
            controllerInterval := none, idleWait := false, healthDue := false, setpointDue := false, sweepQueue := [],
            waiting := none })

/-- R86, R93, R94, R103: a SETPOINT on a kiln port in UP that ends other than GOOD (by its window, a silence or a
framing error) is counted, leaves the kiln as it was and raises the failure count, which at the limit sends the port
into ESTABLISHING with its leaving of UP reported, from which no readback of the kiln is valid (R4, log entry 38). -/
def Obligations.FailedSetpointsRaiseTheFailureCount : Prop :=
  ∀ (s : State) (k : KilnNo) (octet : Octet) (n : Fin 3), s.isOn →
    let p := kilnPort k
    let r := s.port p
    let command : Instr :=
      if n = 0 then .replyWindowExpiry p else if n = 1 then .fieldOctetSilence p else .fieldOctetReceived p octet true
    let c := r.counters
    let counters : PortCounters :=
      if n = 0 then { c with timeout := bump c.timeout } else if n = 1 then { c with truncated := bump c.truncated }
      else { c with framing := bump c.framing }
    ∀ e, r.exchange = some e → r.state = .up → e.command = .setpoint → e.address = 0 →
      (if n = 0 then e.phase = .window else e.phase ≠ .window ∧ e.phase ≠ .sending) →
      let closed :=
        { r with exchange := none, silentWait := true, idleWait := false, counters := counters,
                 failureCount := r.failureCount + 1 }
      exec command s =
        .next (if r.failureCount + 1 < r.failureLimit then s.setPort p closed
        else
          ({ s with reports := s.reports ++ [Report.controllerLost k, .probePortLeftUp k] }.setKiln k
            { s.kiln k with dryValid := false, wetValid := false }).setPort p
            { closed with
              state := .establishing, failureCount := 0, attempt := some 1, wake := .pulse, nextRate := .r230,
              attemptGap := false, autoretryWait := false, reestablishWait := false, rate := none,
              controllerInterval := none, healthDue := false, setpointDue := false, sweepQueue := [],
              waiting := none })

/-- R58, R59, R70, R93: a GOOD SETPOINT reply in UP gives the kiln its readbacks, its controller status and the hold
reasons that follow it, clears the failure count, and in RUNNING makes the dry-bulb test. -/
def Obligations.GoodSetpointsReachTheKiln : Prop :=
  ∀ (s : State) (k : KilnNo) (dry wet : Int) (door localControl alarm : Bool),
    let p := kilnPort k
    let q := s.port p
    let r := s.kiln k
    let data := i16 dry ++ i16 wet ++ setOf [door, localControl, alarm]
    let holds := { r.holds with door := door, localControl := localControl, alarm := alarm }
    let read :=
      { r with
        dryReadback := dry, dryValid := true, wetReadback := wet, wetValid := true,
        status := ⟨door, localControl, alarm⟩ }
    let held :=
      { read with
        holds := holds,
        state := if r.state = .running ∨ r.state = .held then if holds.isEmpty then .running else .held else r.state }
    (-32768 ≤ dry ∧ dry < 32768 ∧ -32768 ≤ wet ∧ wet < 32768) →
    ∀ e, q.exchange = some e → q.state = .up → e.command = .setpoint → e.address = 0 →
      let closed :=
        { q with exchange := none, silentWait := true, idleWait := false, failureCount := 0,
                 counters := { q.counters with good := bump q.counters.good } }
      let known :=
        if r.state = .empty then (s.setPort p closed).setKiln k read
        else if holds = r.holds then (s.setPort p closed).setKiln k read
        else ((s.setPort p closed).setKiln k held).writeSnapshot k
      s.endExchange p .good { status := 0, data := data } =
        if (known.kiln k).state = .running then
          match s.currentStep k with
          | some step =>
            if step.rule = .dryBulbReached ∧ (step.target : Int) - 20 ≤ dry ∧ r.dryBulb = step.target then
              known.advanceStep k false
            else known
          | none => known
        else known

/-- R90 to R92: the outcome of an establishment's IDENTIFY: GOOD, whatever station kind, serial and version the reply
names, records them, enters UP at the rate it used and reports it; a failure moves on to the next rate, to the gap
before the next attempt, or after the fourth to DOWN with PORT_DOWN posted. The line's silent wait goes on in DOWN (log
entry 40). That port 7's "port up" to the tracker, which acts on none, is not listed among the reports is log entry 6, the
model's choice. -/
def Obligations.EstablishmentEndsUpOrDown : Prop :=
  ∀ (s : State) (p : PortNo) (outcome : ExchangeOutcome) (kind serial version : Nat), s.isOn →
    let r := s.port p
    let good := outcome = .good
    let reply : StationReply := { status := 0, data := if good then u8 kind ++ u32 serial ++ u16 version else [] }
    kind < 256 → serial < 4294967296 → version < 65536 →
    ∀ e, r.exchange = some e → r.state = .establishing → e.command = .identify → e.address = 0 →
      let closed :=
        { r with exchange := none, silentWait := true, idleWait := false, counters := r.counters.count outcome }
      s.endExchange p outcome reply =
        if good then
          let interval := (portKiln p).map fun k => (s.kiln k).config.controllerInterval * 1000
          { s with
            reports := s.reports ++
              match portKiln p with
              | some k => [Report.kilnPortUp k, .probePortUp k]
              | none => if p.val = 7 then [Report.labelPortUp] else [] }.setPort p
            { closed with
              state := .up, rate := some r.tryRate, identity := some ⟨kind, serial, version⟩, attempt := none,
              failureCount := 0, lineFaultCount := 0, setpointDue := (portKiln p).isSome,
              controllerInterval := interval, idleWait := (portKiln p).isNone,
              counters := { closed.counters with establishments := bump closed.counters.establishments } }
        else if r.tryRate = .r230 then s.setPort p { closed with nextRate := .r57 }
        else if r.tryRate = .r57 then s.setPort p { closed with nextRate := .r19 }
        else if r.attempt.getD 1 < 4 then s.setPort p { closed with attemptGap := true }
        else
          (s.setPort p
            { closed with
              state := .down, attempt := none, wake := .none, attemptGap := false,
              reestablishWait := r.autoReestablish }).postPortDown p

/-- R95, R96: a line fault at a port that drives its line (log entry 17): counted, everything in progress over,
LINE_FAULT with the autoretry wait, or DOWN at the fifth, the line's silent wait going on (log entry 40); an IDENTIFY of
the establishment, or in UP the exchange being sent, ends FRAMING first, in UP handed on to the block that asked for it,
and the leaving of UP is reported, from which no readback of the kiln is valid (R4, log entry 38). -/
def Obligations.LineFaultsStopThePort : Prop :=
  ∀ (s : State) (p : PortNo), s.isOn →
    let r := s.port p
    let count := min 5 (r.lineFaultCount + 1)
    let fault := fun (q : PortRecord) =>
      let stopped :=
        { q with
          exchange := none, wake := .none, attemptGap := false, attempt := none,
          lineFaultCount := count, counters := { q.counters with lineFaults := bump q.counters.lineFaults },
          state := .lineFault, autoretryWait := r.autoretry }
      if count = 5 then
        { stopped with state := .down, autoretryWait := false, reestablishWait := r.autoReestablish }
      else stopped
    let posted := fun (t : State) => if count = 5 then t.postPortDown p else t
    (r.driving = false → exec (.lineFault p) s = .next s) ∧
    (r.wake = .pulse → r.state = .establishing → r.exchange = none →
      exec (.lineFault p) s = .next (posted (s.setPort p (fault r)))) ∧
    (∀ e, r.exchange = some e → r.state = .establishing → e.phase = .sending → e.command = .identify → e.address = 0 →
      exec (.lineFault p) s =
        .next (posted (s.setPort p (fault
          { r with silentWait := true, counters := { r.counters with framing := bump r.counters.framing },
                   idleWait := false })))) ∧
    (∀ e, r.exchange = some e → r.state = .up → e.phase = .sending →
      let closed := s.setPort p
        { r with exchange := none, silentWait := true, idleWait := (portKiln p).isNone,
                 counters := { r.counters with framing := bump r.counters.framing } }
      let handed :=
        match portKiln p with
        | some k =>
          match e.command with
          | .setpoint => closed.setpointOutcome k .framing ⟨0, []⟩
          | .probeRead => closed.probeOutcome k e.address .read .framing []
          | .identify => if e.address = 0 then closed else closed.probeOutcome k e.address .identify .framing []
          | _ => closed
        | none =>
          match e.command with
          | .meterSample => closed.meterOutcome .framing []
          | .labelPrint => closed.labelOutcome false .framing ⟨0, []⟩
          | .labelStatus => closed.labelOutcome true .framing ⟨0, []⟩
          | _ => closed
      let lost := fun (t : State) =>
        match portKiln p with
        | some k =>
          { t with reports := t.reports ++ [Report.controllerLost k, .probePortLeftUp k] }.setKiln k
            { t.kiln k with dryValid := false, wetValid := false }
        | none => { t with reports := t.reports ++ [if p.val = 6 then Report.meterPortLeftUp else .labelPortLeftUp] }
      exec (.lineFault p) s =
        .next (lost (posted (handed.setPort p
          (fault { handed.port p with
                   rate := none, controllerInterval := none, idleWait := false, healthDue := false,
                   setpointDue := false, sweepQueue := [], waiting := none }))))) ∧
    ∀ e, r.exchange = some e → r.state = .up → e.phase = .sending → e.command = .setpoint → ∀ k, portKiln p = some k →
      exec (.lineFault p) s =
        .next { posted ((s.setKiln k { s.kiln k with dryValid := false, wetValid := false }).setPort p
            (fault { r with
                     silentWait := true, counters := { r.counters with framing := bump r.counters.framing }, rate := none,
                     controllerInterval := none, idleWait := false, healthDue := false, setpointDue := false,
                     sweepQueue := [], waiting := none })) with
          reports := s.reports ++ [.controllerLost k, .probePortLeftUp k] }

/-! ### Probes and sweeps -/

/-- R105, R116, R120, R121: the assignment table's three requests; READ-PROBES returns the port's entries and the event set,
which it empties; FORGET-PROBE removes an entry, and with its kiln not sweeping nothing else. With its kiln sweeping the
planned exchange leaves the outstanding list and the port's sweep queue, the discard mark names it when it is in flight, and
a sweep left with nothing outstanding goes IDLE and hands over its result; that this comes before the reply is composed, so
that the reply's attention summary shows it, is log entry 41, the model's choice. -/
def Obligations.ProbeTableRequestsAnswer : Prop :=
  (∀ (s : State) (k : KilnNo) (kiln serial role tag : Nat),
    (s.takes (.assignProbe serial (k.val + 1) role tag) →
      exec (.assignProbe serial (k.val + 1) role tag) s =
        .next (let i := Instr.assignProbe serial (k.val + 1) role tag
          if 2 < role then s.refusal i .outOfRange
          else if (s.assignment serial).isNone ∧ 48 ≤ s.assignments.length then s.refusal i .full
          else
            { s with
              assignments := insertBy Assignment.serial
                ⟨serial, k, if role = 0 then .control else if role = 1 then .monitor else .excluded, tag⟩
                s.assignments }.okReply i [])) ∧
    (kiln < 1 ∨ 6 < kiln → s.takes (.assignProbe serial kiln role tag) →
      exec (.assignProbe serial kiln role tag) s =
        .next (s.refusal (.assignProbe serial kiln role tag) .outOfRange)) ∧
    (s.takes (.unassignProbe serial) →
      exec (.unassignProbe serial) s =
        .next (if (s.assignment serial).isNone then s.refusal (.unassignProbe serial) .notFound
        else { s with assignments := s.assignments.filter fun a => a.serial != serial }.okReply
          (.unassignProbe serial) [])) ∧
    (s.takes .listAssignments →
      exec .listAssignments s = .next (s.okReply .listAssignments
        (listOf (fun a : Assignment => u32 a.serial ++ numberOctet a.kiln ++ u8 a.role.code ++ u16 a.tag)
          s.assignments)))) ∧
  ∀ (s : State) (k : KilnNo) (serial : Nat),
    (s.takes (.readProbes (k.val + 1)) →
      exec (.readProbes (k.val + 1)) s =
        .next ((s.setSweep k { s.sweep k with events := .empty }).okReply (.readProbes (k.val + 1))
          (s.probesContent k))) ∧
    (s.takes (.forgetProbe serial) →
      let i := Instr.forgetProbe serial
      (s.presenceOf serial = none → exec i s = .next (s.refusal i .notFound)) ∧
      ∀ e, s.presenceOf serial = some e →
        let w := s.sweep e.port
        let r := s.port (kilnPort e.port)
        let removed := { s with presence := s.presence.filter fun x => x.place != e.place }
        let flying := fun (x : Nat × ProbeCommand) =>
          r.exchange.any fun y =>
            y.address == x.1 && y.command == (match x.2 with | .read => .probeRead | .identify => .identify)
        let dropped :=
          match w.outstanding.find? fun x => x.1 == e.address with
          | some x =>
            (removed.setSweep e.port
              { w with
                outstanding := w.outstanding.erase x, discard := if flying x then some x else w.discard }).setPort
              (kilnPort e.port) { r with sweepQueue := r.sweepQueue.filter fun y => y.1 != e.address }
          | none => removed
        let idle := dropped.setSweep e.port { dropped.sweep e.port with kind := none }
        exec i s =
          .next ((if w.kind = none then removed
            else if (dropped.sweep e.port).outstanding = [] then idle.takeSweepResult e.port (idle.selection e.port)
            else dropped).okReply i (numberOctet e.port ++ u8 e.address)))

/-- R110: the plan of a kiln's next sweep: first the reads, then the discovery of its kind, each address at most once;
and the kind and the cursor that go with it. -/
def Obligations.SweepPlansFollowTheTable : Prop :=
  ∀ (s : State) (k : KilnNo),
    let w := s.sweep k
    let all := (List.range 24).map (· + 1)
    let reads := all.filter fun a =>
      match s.presenceAt k a with
      | some e => (e.state == .active || e.state == .lost) && e.role != some .excluded
      | none => false
    let discoverable := fun a =>
      match s.presenceAt k a with
      | some e => e.state == .foreign || e.role == some .excluded
      | none => true
    let turned := (List.range 24).map fun j => (w.cursor - 1 + j) % 24 + 1
    let found :=
      if w.fullScan then all.filter discoverable
      else if (s.kiln k).config.learning then (turned.filter discoverable).take 4
      else []
    1 ≤ w.cursor → w.cursor ≤ 24 →
      s.sweepPlan k = reads.map (fun a => (a, .read)) ++ found.map (fun a => (a, .identify)) ∧
      pairsInRange (s.sweepPlan k) = true ∧ (s.sweepPlan k).length ≤ 24 ∧
      (s.planDiscovery k).1 = (if w.fullScan then .full else .regular) ∧
      (s.planDiscovery k).2.2 =
        if w.fullScan ∨ found = [] then w.cursor else (found.getLastD 0) % 24 + 1

/-- R99, R108 to R110, R117, R118: SWEEP-NOW, and the interval's run-out in a state that sweeps, begin a sweep when none
is in flight: the plan is outstanding and becomes the port's sweep queue, from which the port sends when its line is
free, or completes at once when it is empty; a plan that a port not UP does not take leaves the sweep IDLE, the
full-scan flag as it was and the cursor where the plan moved it (log entry 32, the model's choice), and so does the
port's answer "busy" (log entry 20, the model's choice); with a sweep in flight SWEEP-NOW answers already sweeping,
whatever the port still holds; the probe unit takes "port up" by starting the sweep interval, and "port left UP" by
stopping it, dropping the discard mark and aborting a sweep in flight, whose full scan will be planned again. -/
def Obligations.SweepsBeginAndAreAborted : Prop :=
  (∀ (s : State) (k : KilnNo) (choice : Nat),
    let r := s.kiln k
    let i := Instr.sweepNow (k.val + 1) choice
    let w := s.sweep k
    let p := s.port (kilnPort k)
    let flagged := s.setSweep k { w with fullScan := w.fullScan || choice == 1 }
    let begun := fun (t : State) =>
      let planned := t.setSweep k
        { t.sweep k with
          kind := some (t.planDiscovery k).1, outstanding := t.sweepPlan k, fullScan := false,
          cursor := (t.planDiscovery k).2.2 }
      if t.sweepPlan k = [] then planned.completeSweep k
      else if p.state = .up ∧ p.sweepQueue = [] then
        (planned.setPort (kilnPort k) { p with sweepQueue := t.sweepPlan k }).sendNext (kilnPort k)
      else t.setSweep k { t.sweep k with cursor := (t.planDiscovery k).2.2 }
    (s.takes i → exec i s =
      .next (if 1 < choice then s.refusal i .outOfRange
      else if r.state = .empty ∨ r.state = .faultHold ∨ p.state ≠ .up then s.refusal i .wrongState
      else if w.kind.isSome then flagged.okReply i (u8 1)
      else (begun flagged).okReply i (u8 0))) ∧
    (s.isOn →
      exec (.sweepIntervalExpiry k) s =
        .next (if w.interval = none then s
        else
          let again := s.setSweep k { w with interval := some (r.config.sweepInterval * 60000) }
          if w.kind.isSome ∨ r.state = .empty ∨ r.state = .faultHold then again else begun again))) ∧
  ∀ (s : State) (k : KilnNo), s.isOn →
    let w := s.sweep k
    (exec (.probePortUp k) s =
      .next (if s.reportNext (.probePortUp k) then
        { s with reports := s.reports.erase (.probePortUp k) }.setSweep k
          { w with interval := some ((s.kiln k).config.sweepInterval * 60000) }
      else s)) ∧
    exec (.probePortLeftUp k) s =
      .next (if s.reportNext (.probePortLeftUp k) then
        { s with reports := s.reports.erase (.probePortLeftUp k) }.setSweep k
          (if w.kind.isSome then
            { w with
              kind := none, outstanding := [], fullScan := w.fullScan || w.kind == some SweepKind.full,
              interval := none, discard := none }
          else { w with interval := none, discard := none })
      else s)

/-- R111, R112, R114 to R117, R119: an outcome against the discard mark, whatever it is, only clears the mark; one that
is not outstanding changes nothing; a read that is outstanding and ends other than GOOD counts one miss to the entry at
its address, which is LOST at the loss limit, and an IDENTIFY that so ends changes no entry; a GOOD read settles whose
entry it is, as a GOOD IDENTIFY of a probe does, and records its reading there: a USABLE one with the miss count cleared
and a LOST entry ACTIVE again with RECOVERED, a SHORT, OPEN or FAULTED one as a miss, a NO_CURVE one as none. A sweep
with nothing left outstanding completes, and so, after the whole outcome, does that of the kiln whose probe a GOOD
outcome hears elsewhere, when the dropped exchange was its last (R116); an IDENTIFY of another kind than a probe's
changes no entry. -/
def Obligations.SweepOutcomesReachTheEntries : Prop :=
  (∀ (s : State) (k : KilnNo) (address : Nat) (command : ProbeCommand) (outcome : ExchangeOutcome) (data : List Octet)
      (event : ProbeEvent),
    let w := s.sweep k
    let left := s.setSweep k { w with outstanding := w.outstanding.erase (address, command) }
    let finished := fun (t : State) =>
      if w.kind.isSome ∧ w.outstanding.erase (address, command) = [] then t.completeSweep k else t
    (w.discard = some (address, command) →
      s.probeOutcome k address command outcome data = s.setSweep k { w with discard := none }) ∧
    (w.discard ≠ some (address, command) → (address, command) ∉ w.outstanding →
      s.probeOutcome k address command outcome data = s) ∧
    (w.discard ≠ some (address, command) → (address, command) ∈ w.outstanding → outcome ≠ .good →
      (command = .identify ∨ s.presenceAt k address = none →
        s.probeOutcome k address command outcome data = finished left) ∧
      ∀ e, s.presenceAt k address = some e → command = .read →
        let missed := { e with missCount := min 255 (e.missCount + 1) }
        (e.state = .foreign → s.probeOutcome k address command outcome data = finished left) ∧
        (e.state ≠ .foreign → e.missCount ≤ 255 →
          s.probeOutcome k address command outcome data =
            finished (if e.state = .active ∧ (s.kiln k).config.lossLimit ≤ missed.missCount then
              ({ left with
                 presence := insertBy PresenceEntry.place { missed with state := .lost } s.presence }).addProbeEvent k
                .lost
            else { left with presence := insertBy PresenceEntry.place missed s.presence }))) ∧
    s.addProbeEvent k event =
      let added := s.setSweep k { w with events := w.events.add event }
      if w.events = .empty then
        { added with
          notices := { s.notices with probeChange := s.notices.probeChange.set k.val true k.isLt } }
      else added) ∧
  ∀ (s : State) (k : KilnNo) (address serial l kind version : Nat) (status : Octet), s.tablesKept → s.presenceShaped →
    1 ≤ address → address ≤ 24 → serial < 4294967296 → l < 65536 →
    let w := s.sweep k
    let data := u32 serial ++ u16 l ++ [status]
    let recorded := fun (t : State) =>
      match (t.resolveIdentity k address serial).presenceAt k address with
      | none => t.resolveIdentity k address serial
      | some e =>
        let t := t.resolveIdentity k address serial
        let r := t.kiln k
        let species := match t.charges.find? fun c => c.state == .kiln && c.kiln == some k with
          | some c => t.speciesEntry c.species
          | none => none
        let reading := convert l (status.getLsbD 0) (if r.dryValid then some r.dryReadback else none) species
        let put := fun (e : PresenceEntry) => { t with presence := insertBy PresenceEntry.place e t.presence }
        let unread := { e with lastClass := some reading.cls, lastL := some l, lastMc := none, lastFlags := reading.flags }
        let missed := { unread with missCount := min 255 (e.missCount + 1) }
        if e.state = .foreign then t
        else
          match reading.cls, reading.mc with
          | .usable, some mc =>
            let x := smooth (if e.state = .lost then none else e.smoothed) (if e.state = .lost then 0 else e.suspectCount)
              mc r.config.smoothingShift r.config.jumpLimit
            let stored := put
              { e with
                state := .active, missCount := 0, lastClass := some .usable, lastL := some l, lastMc := some mc,
                lastFlags := { reading.flags with suspect := x.suspect, reseeded := x.reseeded },
                smoothed := some x.value, suspectCount := x.suspectCount }
            if e.state = .lost then stored.addProbeEvent k .recovered else stored
          | .noCurve, _ => put unread
          | _, _ =>
            if e.state = .active ∧ r.config.lossLimit ≤ missed.missCount then
              (put { missed with state := .lost }).addProbeEvent k .lost
            else put missed
    (kind < 256 → version < 65536 →
      s.goodProbeOutcome k address .identify (u8 kind ++ u32 serial ++ u16 version) =
        if kind = 2 then s.resolveIdentity k address serial else s) ∧
    (s.goodProbeOutcome k address .read data = recorded s) ∧
    (w.discard ≠ some (address, .read) → (address, .read) ∈ w.outstanding →
      (∀ e, s.presenceOf serial = some e → e.port = k ∧ e.address = address) →
      let left := s.setSweep k { w with outstanding := w.outstanding.erase (address, .read) }
      s.probeOutcome k address .read .good data =
        if w.kind.isSome ∧ w.outstanding.erase (address, .read) = [] then (recorded left).completeSweep k
        else recorded left) ∧
    ∀ command : ProbeCommand, kind < 256 → version < 65536 →
      w.discard ≠ some (address, command) → (address, command) ∈ w.outstanding →
      let left := s.setSweep k { w with outstanding := w.outstanding.erase (address, command) }
      let finished := fun (t : State) (j : KilnNo) =>
        if (t.sweep j).kind.isSome ∧ (t.sweep j).outstanding = [] then t.completeSweep j else t
      (command = .identify → kind ≠ 2 →
        s.probeOutcome k address command .good (u8 kind ++ u32 serial ++ u16 version) = finished left k) ∧
      (command = .read ∨ kind = 2 →
        let heard := finished (match command with
          | .read => recorded left
          | .identify => left.resolveIdentity k address serial) k
        s.probeOutcome k address command .good (match command with
            | .read => data
            | .identify => u8 kind ++ u32 serial ++ u16 version) =
          match s.presenceOf serial with
          | some e => if e.port = k then heard else finished heard e.port
          | none => heard)

/-- R112, R113: after identity resolution of a serial heard at an address, the address holds an entry of that serial,
in the state and role that the assignment table and the configuration give, and no other entry holds the serial; but a
full table that frees no place takes no new entry. The whole change (R106, R112, R113, R116, R119): the entry's fields as
created, or as an existing one keeps and clears them; every entry of another serial at another place stays; the planned
exchange of the entry removed from another place is dropped, withdrawn from the port's queue, or marked when it is in
flight; NEW, MOVED, SWAPPED and TABLE_FULL join the event sets, a kiln whose set was empty being posted. -/
def Obligations.IdentityResolutionPlacesTheSerial : Prop :=
  ∀ (s : State) (k : KilnNo) (address serial : Nat), s.tablesKept → 1 ≤ address → address ≤ 24 →
    s.presenceShaped →
    let t := s.resolveIdentity k address serial
    let role : Option (ProbeRole × RoleSource) :=
      match s.assignment serial with
      | some a => if a.kiln = k then some (a.role, .assigned) else none
      | none =>
        if (s.kiln k).config.learning then
          some (if (s.kiln k).config.learnMonitor then .monitor else .control, .learned)
        else some (.monitor, .learned)
    (t.presence.filter fun e => e.serial == serial).length ≤ 1 ∧
    (if s.presence.length = 96 ∧ s.presenceOf serial = none ∧ s.presenceAt k address = none then
      t.presenceAt k address = none ∧ t.presence = s.presence ∧ (t.sweep k).events.tableFull = true
    else
      ∃ e ∈ t.presence, e.serial = serial ∧ e.port = k ∧ e.address = address ∧
        e.role = role.map Prod.fst ∧ e.source = role.map Prod.snd ∧ (e.state = .foreign ↔ role = none)) ∧
    let moved := (s.presenceOf serial).filter fun e => e.port != k || e.address != address
    let known := (s.presenceAt k address).filter fun e => e.serial == serial
    let evicted := (s.presenceAt k address).any fun e => e.serial != serial
    let full := s.presence.length == 96 && (s.presenceOf serial).isNone && (s.presenceAt k address).isNone
    let entry : PresenceEntry :=
      match known, role with
      | some e, none =>
        if e.state = .foreign then e
        else { e with state := .foreign, role := none, source := none, smoothed := none, lastMc := none,
                      suspectCount := 0, missCount := 0 }
      | some e, some (role, source) =>
        { e with state := if e.state = .foreign then .active else e.state, role := some role, source := some source }
      | none, _ =>
        { serial := serial, port := k, address := address, state := if role.isSome then .active else .foreign,
          role := role.map Prod.fst, source := role.map Prod.snd, missCount := 0, lastClass := none, lastL := none,
          lastMc := none, lastFlags := .none, smoothed := none, suspectCount := 0 }
    t.presence =
      (if full then s.presence
      else
        insertBy PresenceEntry.place entry
          (s.presence.filter fun e => (e.serial == serial) == (e.port == k && e.address == address))) ∧
    t = { s with presence := t.presence, sweeps := t.sweeps, ports := t.ports,
                 notices := { s.notices with probeChange := t.notices.probeChange } } ∧
    (∀ p, portKiln p = none → t.port p = s.port p) ∧
    ∀ j : KilnNo,
      let w := s.sweep j
      let events : ProbeEvents :=
        { w.events with
          swapped := w.events.swapped || (j == k && (evicted || moved.any fun e => e.port == k)),
          moved := w.events.moved || (j != k && moved.any fun e => e.port == j) ||
            (j == k && !full && role.isNone && known.all fun e => e.state != .foreign),
          new := w.events.new || (j == k && !full && role.isSome && known.all fun e => e.state == .foreign),
          tableFull := w.events.tableFull || (j == k && full) }
      let dropped := moved.bind fun e =>
        if e.port = j ∧ w.kind.isSome then w.outstanding.find? fun x => x.1 == e.address else none
      let flying := fun (x : Nat × ProbeCommand) =>
        (s.port (kilnPort j)).exchange.any fun e =>
          e.address == x.1 && e.command == (match x.2 with | .read => .probeRead | .identify => .identify)
      t.sweep j =
        (match dropped with
        | some x =>
          { w with events := events, outstanding := w.outstanding.erase x,
                   discard := if flying x then some x else w.discard }
        | none => { w with events := events }) ∧
      t.port (kilnPort j) =
        (match dropped with
        | some x =>
          { s.port (kilnPort j) with
            sweepQueue := (s.port (kilnPort j)).sweepQueue.filter fun y => y.1 != x.1 }
        | none => s.port (kilnPort j)) ∧
      t.notices.probeChange.get j = (s.notices.probeChange.get j || (w.events == .empty && events != .empty))

/-! ### The planer line -/

/-- R124, R138, R140: LINE-CONFIG replaces the six settings while the queue is empty and reads the eye's level;
READ-LINE changes nothing; LINE-CLEAR empties the queue, counts every record as cleared, leaves no owner, takes
OVERFLOW, JAM and QUEUE_HIGH from the cause set, and in queue order settles each traced piece as cleared and releases
the place that each DRY one held in its bay; its reply carries the attention summary as the clearing leaves it (R177).
The eye's level and the dropped filter of LINE-CONFIG are log entry 14, and that LINE-CLEAR's number of records is 1 octet
is log entry 24. -/
def Obligations.LineRequestsAnswer : Prop :=
  (∀ (s : State) (counts divert stack short polarity glitch : Nat),
    (s.takes (.lineConfig counts divert stack short polarity glitch) →
      exec (.lineConfig counts divert stack short polarity glitch) s =
        .next (let i := Instr.lineConfig counts divert stack short polarity glitch
          if ¬ (100 ≤ counts ∧ counts ≤ 10000 ∧ 1 ≤ divert ∧ divert ≤ 1073741824 ∧ divert < stack ∧
              stack ≤ 1073741824 ∧ 300 ≤ short ∧ short ≤ 6000 ∧ polarity ≤ 1 ∧ glitch ≤ 20) then s.refusal i .outOfRange
          else if s.line.queue ≠ [] then s.refusal i .inUse
          else
            { s with
              line := { s.line with
                        config := ⟨some counts, some divert, some stack, short, polarity == 1, glitch⟩,
                        capture := { s.line.capture with blocked := s.line.eyePin != (polarity == 1) },
                        eyeFilter := none } }.okReply i [])) ∧
    (s.takes .readLine → exec .readLine s = .next (s.okReply .readLine (lineContent s))) ∧
    (s.takes .lineClear →
      ∃ t, exec .lineClear s = .next t ∧
        t.link = ({ t with link := s.link }.okReply .lineClear (u8 s.line.queue.length)).link ∧
        t.line = { s.line with
                   queue := [], sampleOwner := none, capture := { s.line.capture with owner := none },
                   causes := { s.line.causes with
                               overflow := false, jam := false, queueHigh := false,
                               recordsFull := t.line.causes.recordsFull },
                   counters := { s.line.counters with
                                 cleared := Nat.repeat bump s.line.queue.length s.line.counters.cleared } } ∧
        t.species = s.species ∧ t.schedules = s.schedules ∧ t.kilns = s.kilns ∧ t.sweeps = s.sweeps ∧
        t.presence = s.presence ∧ t.assignments = s.assignments ∧
        (∀ p : PortNo, p ≠ 7 → t.port p = s.port p) ∧
        (let cleared := fun (t : State) (x : Piece) =>
          let settled :=
            if x.charge = 0 then t
            else { t with charges := updateBy Charge.number x.charge (fun (c : Charge) => c.settle .cleared) t.charges }
          match x.grade with
          | .dry b => settled.releasePlace b x.charge
          | _ => settled
         t = { s.line.queue.foldl cleared s with line := t.line, link := t.link } ∧
          t.line.causes.recordsFull = (s.line.queue.foldl cleared s).line.causes.recordsFull) ∧
        ((∀ p ∈ s.line.queue, ∀ b, p.grade ≠ .dry b) →
          t = { s with
                line := t.line, link := t.link,
                charges := s.line.queue.foldl
                  (fun table p => if p.charge = 0 then table else updateBy Charge.number p.charge (·.settle .cleared) table)
                  s.charges }))) ∧
  ∀ (c : Charge) (fate : Fate), 1 ≤ c.queued →
    (c.settle fate).queued = c.queued - 1 ∧ (c.settle fate).metered = c.metered ∧
    (c.settle fate).redry = c.redry + (if fate = .redry then 1 else 0) ∧
    (c.settle fate).short = c.short + (if fate = .short then 1 else 0) ∧
    (c.settle fate).noBay = c.noBay + (if fate = .noBay then 1 else 0) ∧
    (c.settle fate).stacked = c.stacked + (if fate = .stacked then 1 else 0) ∧
    (c.settle fate).cleared = c.cleared + (if fate = .cleared then 1 else 0)

/-- R124 to R126, R129, R130, R132, R137, R45: a change of the EYE pin starts the glitch filter, drops it when the
level comes back, or with a filter of 0 is an edge at once, and the filter's run-out is the edge at the position of the
change; edges that R126 ignores change the eye level alone (log entry 14); a trailing edge gives its owner's record (the
latest of its number, log entry 42) the trail and the length, rounded half up; a leading edge counts the piece to the infeed charge unless there is none or it
is full, and makes a record at the tail unless the queue is full; a traced record asks port 7 for a sample, whose
answer may settle its reading. -/
def Obligations.EyeEdgesMakeAndMeasurePieces : Prop :=
  (∀ (s : State) (level : Bool),
    let pinned := { s with line := { s.line with eyePin := level } }
    let blocked := level != s.line.config.blockedLow
    exec (.eyeChange level) s =
      .next (if s.power ≠ .on then pinned
      else if s.line.eyePin = level then s
      else if s.line.config.configured = false then pinned
      else if blocked = s.line.capture.blocked then { s with line := { s.line with eyePin := level, eyeFilter := none } }
      else if s.line.config.glitchFilter = 0 then pinned.filteredEdge blocked s.line.counter
      else { s with line := { s.line with eyePin := level, eyeFilter := some s.line.counter } })) ∧
  (∀ s : State, s.isOn → exec .eyeFilterExpiry s =
    .next (match s.line.eyeFilter with
      | some p => { s with line := { s.line with eyeFilter := none } }.filteredEdge (!s.line.capture.blocked) p
      | none => s)) ∧
  (∀ (s : State) (p : Position),
    let c := s.line.capture
    let after := fun (q : Position) => decide (1 ≤ (p - q).toNat ∧ (p - q).toNat < 2147483648)
    ((c.boardInEye = true ∨ c.lastTrail.any (fun trail => !after trail) = true) →
      s.filteredEdge true p = { s with line := { s.line with capture := { c with blocked := true } } }) ∧
    ((c.boardInEye = false ∨ c.lastLead.any after = false) →
      s.filteredEdge false p = { s with line := { s.line with capture := { c with blocked := false } } }) ∧
    (c.boardInEye = true → c.lastLead.any after = true →
      let capture := { c with blocked := false, boardInEye := false, lastTrail := some p, owner := none }
      (c.owner = none → s.filteredEdge false p = { s with line := { s.line with capture := capture } }) ∧
      ∀ sequence, c.owner = some sequence →
        let counts := s.line.config.countsPerMetre.getD 1
        let measured := fun (x : Piece) =>
          { x with
            trail := some p,
            length := some (min 65535 ((2 * (1000 * (p - x.lead).toNat) + counts) / (2 * counts))) }
        s.filteredEdge false p =
          { s with
            line := { s.line with
                      capture := capture,
                      queue := updateLast (fun x => x.sequence == sequence) measured s.line.queue } }.decideGrade
            sequence)) ∧
  ∀ (s : State) (p : Position),
    let c := s.line.capture
    let n := s.line.counters
    let infeed := (s.charges.find? fun c => c.state == .infeed).filter fun c => c.metered < 4294967295
    let capture := { c with blocked := true, boardInEye := true, lastLead := some p, lastTrail := none, owner := none }
    let metered := { n with metered := bump n.metered, untraced := if infeed.isSome then n.untraced else bump n.untraced }
    c.boardInEye = false →
    c.lastTrail.all (fun trail => decide (1 ≤ (p - trail).toNat ∧ (p - trail).toNat < 2147483648)) = true →
    (32 ≤ s.line.queue.length →
      s.filteredEdge true p =
        { s with
          charges := match infeed with
            | some c => updateBy Charge.number c.number
                (fun (c : Charge) => { c with metered := c.metered + 1, cleared := c.cleared + 1 }) s.charges
            | none => s.charges,
          line := { s.line with
                    capture := capture,
                    counters := { metered with overflows := bump n.overflows, cleared := bump n.cleared } } }.addCause
          .overflow) ∧
    (s.line.queue.length < 32 →
      let piece : Piece :=
        { sequence := s.line.nextSequence,
          charge := match infeed with | some c => c.number | none => 0,
          species := infeed.map Charge.species, lead := p, trail := none, length := none,
          reading := if infeed.isSome then .pending else .none .notSampled,
          grade := if infeed.isSome then .pending else .untraced,
          divertAt := p + BitVec.ofNat 32 (s.line.config.divertDistance.getD 0),
          stackAt := p + BitVec.ofNat 32 (s.line.config.stackDistance.getD 0) }
      let joined :=
        { s with
          charges := match infeed with
            | some c => updateBy Charge.number c.number
                (fun (c : Charge) => { c with metered := c.metered + 1, queued := c.queued + 1 }) s.charges
            | none => s.charges,
          line := { s.line with
                    capture := { capture with owner := some s.line.nextSequence }, counters := metered,
                    queue := s.line.queue ++ [piece], nextSequence := (s.line.nextSequence + 1) % 65536 } }
      let told := if s.line.queue.length = 27 then joined.addCause .queueHigh else joined
      let meter := s.port 6
      let settled := fun (reason : NoReading) (counters : LineCounters) =>
        { told with
          line := { told.line with
                    counters := counters, queue := s.line.queue ++ [{ piece with reading := .none reason }] } }
      s.filteredEdge true p =
        if infeed = none then told
        else if meter.state ≠ .up then settled .noReply { metered with noReply := bump n.noReply }
        else if meter.waiting.isSome ∨ (∃ e ∈ meter.exchange, e.command ≠ .identify) then
          settled .meterBusy { metered with meterBusy := bump n.meterBusy }
        else
          { told with line := { told.line with sampleOwner := some piece.sequence } }.askPort 6
            { command := .meterSample, data := [] }) ∧
    ∀ cause : StopCause,
      s.addCause cause =
        if s.line.causes.has cause then s
        else
          { s with
            line := { s.line with causes := s.line.causes.put cause true },
            notices := { s.notices with lineStop := s.notices.lineStop.put cause true } }

/-- R123, R134 to R136: a step of the encoder moves the counter by one, and a change without direction by none; where
no piece is at its position nothing else changes; a piece alone at its divert position, wherever it stands in the queue,
leaves for JAM or through the gate, one with its reading still PENDING settled as NO_REPLY first, and a DRY one alone at
its stack position goes to its bay; DIVERT falls when its pulse time runs out. -/
def Obligations.EncoderStepsMoveThePieces : Prop :=
  (∀ (s : State) (forward : Bool), s.isOn →
    let counter := if forward then s.line.counter + 1 else s.line.counter - 1
    let moved := { s with line := { s.line with counter := counter } }
    let move := if forward then EncoderMove.forward else .reverse
    let at' := fun (q : Position) => (counter - q).toNat < 2147483648
    let idle := fun (x : Piece) => ¬ at' (match x.grade with | .dry _ => x.stackAt | _ => x.divertAt)
    ((∀ x ∈ s.line.queue, idle x) → exec (.encoderStep move) s = .next moved) ∧
    ∀ before x after, s.line.queue = before ++ x :: after → (∀ y ∈ before ++ after, idle y) → ¬ idle x →
      let n := s.line.counters
      let queue := before ++ after
      let without := fun owner => if owner = some x.sequence then none else owner
      let removed :=
        { moved with
          line := { moved.line with
                    queue := queue,
                    causes := { s.line.causes with
                                queueHigh := if queue.length < 28 then false else s.line.causes.queueHigh } } }
      let left :=
        { removed with
          line := { removed.line with
                    capture := { s.line.capture with owner := without s.line.capture.owner },
                    sampleOwner := without s.line.sampleOwner } }
      let settled := fun (fate : Fate) (t : State) =>
        if x.charge = 0 then t
        else { t with charges := updateBy Charge.number x.charge (fun (c : Charge) => c.settle fate) t.charges }
      let counted := fun (counters : LineCounters) (t : State) => { t with line := { t.line with counters := counters } }
      let diverted := { left with line := { left.line with divertPulse := true } }
      ((∀ b, x.grade ≠ .dry b) → x.trail = none → exec (.encoderStep move) s =
        .next ((counted { n with jams := bump n.jams, cleared := bump n.cleared }
          (settled .cleared left)).addCause .jam)) ∧
      (x.trail.isSome → x.reading ≠ .pending →
        (x.grade = .redry → exec (.encoderStep move) s =
          .next (counted { n with redry := bump n.redry } (settled .redry diverted))) ∧
        (x.grade = .short → exec (.encoderStep move) s =
          .next (counted { n with short := bump n.short } (settled .short diverted))) ∧
        (x.grade = .noBay → exec (.encoderStep move) s =
          .next (counted { n with noBay := bump n.noBay } (settled .noBay diverted))) ∧
        (x.grade = .untraced → exec (.encoderStep move) s = .next diverted)) ∧
      (∀ length, x.length = some length → x.trail.isSome → x.reading = .pending → x.grade = .pending →
        let ownerless := { diverted with line := { diverted.line with sampleOwner := none } }
        exec (.encoderStep move) s =
          .next (if length < s.line.config.shortLimit then
            counted { n with noReply := bump n.noReply, short := bump n.short } (settled .short ownerless)
          else counted { n with noReply := bump n.noReply, redry := bump n.redry } (settled .redry ownerless))) ∧
      ∀ b ∈ [(0 : BayNo), 1, 2, 3], x.grade = .dry b →
        exec (.encoderStep move) s =
          .next (match x.reading with
            | .read mc => (settled .stacked removed).stackPiece b x.charge mc
            | _ => moved)) ∧
  (∀ s : State, s.isOn → exec (.encoderStep .both) s = .next s) ∧
  ∀ s : State,
    (s.isOn → exec .divertPulseExpiry s = .next { s with line := { s.line with divertPulse := false } }) ∧
    (s.power = .on → s.divertLevel = s.line.divertPulse) ∧ (s.power = .held → s.divertLevel = false) ∧
    (s.power = .held → s.lineStopLevel = true) ∧
    (s.power = .on → (s.lineStopLevel = true ↔ ∃ c ∈ [StopCause.overflow, .queueHigh, .jam, .recordsFull],
      s.line.causes.has c = true))

/-- R131, R133, R20, R48: the outcome of a METER-SAMPLE settles the sample owner's reading, and its charge's meter sum
when the reading is USABLE; "port left UP" settles it as NO_REPLY; and the grade decision, made when length and reading
are final, follows the short limit, the reading, the pack limit and the bays. A number names the latest queued record
that holds it (log entry 42). -/
def Obligations.SamplesAndLengthsGradeThePieces : Prop :=
  (∀ (s : State) (outcome : ExchangeOutcome) (l : Nat) (celsius : Int) (fault : Bool), l < 65536 →
    -32768 ≤ celsius → celsius < 32768 →
    let lost := fun (t : State) sequence =>
      { t with
        line := { t.line with
                  sampleOwner := none,
                  counters := { t.line.counters with noReply := bump t.line.counters.noReply },
                  queue := updateLast (fun x => x.sequence == sequence) (fun x => { x with reading := .none .noReply })
                    t.line.queue } }.decideGrade sequence
    (s.isOn → exec .meterPortLeftUp s =
      .next (let taken := { s with reports := s.reports.erase .meterPortLeftUp }
        if s.reportNext .meterPortLeftUp = false then s
        else match s.line.sampleOwner with | some sequence => lost taken sequence | none => taken)) ∧
    (s.line.sampleOwner = none → s.meterOutcome outcome (u16 l ++ i16 celsius ++ flag fault) = s) ∧
    ∀ sequence, s.line.sampleOwner = some sequence →
      (outcome ≠ .good → s.meterOutcome outcome (u16 l ++ i16 celsius ++ flag fault) = lost s sequence) ∧
      ∀ x, s.piece sequence = some x →
        let reading := convert l fault (some celsius)
          (match x.species with | some code => s.speciesEntry code | none => none)
        let settled := fun (value : PieceReading) (charges : List Charge) =>
          { s with
            charges := charges,
            line := { s.line with
                      sampleOwner := none,
                      queue := updateLast (fun y => y.sequence == sequence) (fun y => { y with reading := value })
                        s.line.queue } }.decideGrade sequence
        s.meterOutcome .good (u16 l ++ i16 celsius ++ flag fault) =
          match reading.cls, reading.mc with
          | .usable, some mc =>
            settled (.read mc)
              (if x.charge = 0 then s.charges
              else
                updateBy Charge.number x.charge
                  (fun (c : Charge) => { c with meterSum := c.meterSum + mc, meterCount := c.meterCount + 1 }) s.charges)
          | _, _ => settled (.none .unusable) s.charges) ∧
  ∀ (s : State) (sequence : Nat), ∀ x, s.piece sequence = some x →
    let graded := fun (grade : Grade) (t : State) =>
      { t with
        line := { t.line with
                  queue := updateLast (fun y => y.sequence == sequence) (fun y => { y with grade := grade })
                    t.line.queue } }
    let entry := match x.species with | some code => s.speciesEntry code | none => none
    s.decideGrade sequence =
      match x.grade, x.length, x.reading with
      | .pending, some length, .none _ => graded (if length < s.line.config.shortLimit then .short else .redry) s
      | .pending, some length, .read mc =>
        if length < s.line.config.shortLimit then graded .short s
        else if (match entry with | some e => decide (mc ≤ e.packLimit) | none => false) = false then graded .redry s
        else
          match s.chooseBay length (x.species.getD 0) x.charge with
          | some b => graded (.dry b) (s.reservePlace b (x.species.getD 0) x.charge)
          | none => graded .noBay s
      | _, _, _ => s

/-! ### Packs and labels -/

/-- R142, R149, R160: BAY-CONFIG replaces the five settings of an EMPTY or DISABLED bay; CLOSE-PACK closes an OPEN bay
at once or when its last place is settled, its reply the bay state's number (log entry 24); READ-BAY changes nothing. -/
def Obligations.BayRequestsAnswer : Prop :=
  ∀ (s : State) (b : BayNo) (enabled lo hi nominal target : Nat),
    let r := s.bay b
    let n := b.val + 1
    (s.takes (.bayConfig n enabled lo hi nominal target) →
      exec (.bayConfig n enabled lo hi nominal target) s =
        .next (let i := Instr.bayConfig n enabled lo hi nominal target
          if ¬ (enabled ≤ 1 ∧ 300 ≤ lo ∧ lo ≤ hi ∧ hi ≤ 9999 ∧ 300 ≤ nominal ∧ nominal ≤ 9999 ∧ 1 ≤ target ∧
              target ≤ 2000) then s.refusal i .outOfRange
          else if r.state ≠ .empty ∧ r.state ≠ .disabled then s.refusal i .inUse
          else
            (s.setBay b
              { r with
                config := some ⟨enabled == 1, lo, hi, nominal, target⟩,
                state := if enabled = 1 then .empty else .disabled }).okReply i [])) ∧
    (s.takes (.readBay n) →
      exec (.readBay n) s =
        .next (s.okReply (.readBay n) (r.octets
          (if r.state = .labelling ∨ r.state = .labelFault then
            (s.packs.find? fun x => x.bay == b && (x.label != .confirmed && x.label != .void)).map PackRecord.serial
          else none)))) ∧
    (s.takes (.closePack n) →
      (r.state ≠ .opened → r.state ≠ .closing →
        exec (.closePack n) s = .next (s.refusal (.closePack n) .wrongState)) ∧
      (r.state = .closing → exec (.closePack n) s = .next (s.okReply (.closePack n) (u8 3))) ∧
      ∀ p, r.openPack = some p → r.state = .opened →
        let closing := s.setBay b { r with state := .closing }
        exec (.closePack n) s =
          .next (if p.reserved ≠ 0 then closing.okReply (.closePack n) (u8 3)
          else if p.stacked = 0 then
            (s.setBay b { r with state := .empty, openPack := none }).okReply (.closePack n) (u8 1)
          else if 8 ≤ s.packs.length then (closing.closePack b).okReply (.closePack n) (u8 4)
          else (closing.closePack b).okReply (.closePack n) (u8 5)))

/-- R145 to R148: the pack builder chooses the lowest-numbered eligible bay, reserves a place in its pack, which an
EMPTY bay begins, and adds a reference for a charge that joins; a stacked piece turns its reservation into a piece and
closes a pack at its target or at its last reservation; a released reservation may drop the charge, empty the bay or
close the pack. -/
def Obligations.PiecesFillTheirPacks : Prop :=
  ∀ (s : State) (b : BayNo) (length species charge mc : Nat),
    let eligible := fun (b : BayNo) =>
      match (s.bay b).config, (s.bay b).state, (s.bay b).openPack with
      | some c, .empty, _ => decide (c.minimum ≤ length ∧ length ≤ c.maximum)
      | some c, .opened, some p =>
        decide (c.minimum ≤ length ∧ length ≤ c.maximum ∧ p.species = species ∧ p.stacked + p.reserved < c.target ∧
          ((∃ x ∈ p.contributors, x.charge = charge) ∨ p.contributors.length < 4))
      | _, _, _ => false
    (s.chooseBay length species charge =
      if eligible 0 then some 0 else if eligible 1 then some 1 else if eligible 2 then some 2
      else if eligible 3 then some 3 else none) ∧
    ((s.bay b).state = .empty →
      s.reservePlace b species charge =
        { s with
          charges := updateBy Charge.number charge
            (fun (c : Charge) => { c with openPackRefs := c.openPackRefs + 1 }) s.charges }.setBay b
          { s.bay b with
            state := .opened,
            openPack := some { species := species, stacked := 0, reserved := 1, contributors := [Contributor.mk charge 0 1],
                               mcSum := 0, mcMax := none } }) ∧
    ∀ p, (s.bay b).openPack = some p →
      let joined := p.contributors.any fun x => x.charge == charge
      let changed := fun (f : Contributor → Contributor) =>
        p.contributors.map fun (x : Contributor) => if x.charge = charge then f x else x
      let stacked :=
        { p with
          reserved := p.reserved - 1, stacked := p.stacked + 1, mcSum := p.mcSum + mc,
          mcMax := some (match p.mcMax with | some top => max top mc | none => mc),
          contributors := changed fun (x : Contributor) => { x with reserved := x.reserved - 1, stacked := x.stacked + 1 } }
      let released :=
        { p with
          reserved := p.reserved - 1,
          contributors := (changed fun (x : Contributor) => { x with reserved := x.reserved - 1 }).filter fun x =>
            x.stacked != 0 || x.reserved != 0 }
      let left := joined && !(released.contributors.any fun x => x.charge == charge)
      let dropped :=
        if left then
          { s with
            charges := updateBy Charge.number charge
              (fun (c : Charge) => { c with openPackRefs := c.openPackRefs - 1 }) s.charges }
        else s
      ((s.bay b).state = .opened →
        s.reservePlace b species charge =
          if joined then
            s.setBay b
              { s.bay b with
                openPack := some { p with
                                   reserved := p.reserved + 1,
                                   contributors := changed fun (x : Contributor) => { x with reserved := x.reserved + 1 } } }
          else
            { s with
              charges := updateBy Charge.number charge
                (fun (c : Charge) => { c with openPackRefs := c.openPackRefs + 1 }) s.charges }.setBay b
              { s.bay b with
                openPack := some { p with
                                   reserved := p.reserved + 1,
                                   contributors := p.contributors ++ [Contributor.mk charge 0 1] } }) ∧
      (∀ c, (s.bay b).config = some c →
        s.stackPiece b charge mc =
          let after := s.setBay b { s.bay b with openPack := some stacked }
          if ((s.bay b).state = .opened ∧ c.target ≤ stacked.stacked) ∨
              ((s.bay b).state = .closing ∧ stacked.reserved = 0) then
            after.closePack b
          else after) ∧
      s.releasePlace b charge =
        if (s.bay b).state = .opened ∧ released.stacked = 0 ∧ released.reserved = 0 then
          dropped.setBay b { s.bay b with state := .empty, openPack := none }
        else
          let after := dropped.setBay b { s.bay b with openPack := some released }
          if (s.bay b).state = .closing ∧ released.reserved = 0 then after.closePack b else after

/-- R150 to R154: a pack with nothing stacked leaves its bay EMPTY; one that finds eight records waits whole, with
RECORDS_FULL when no other bay waits; any other becomes a closed record with the next free serial, its figures, its
code and its date, its label job queued and PACK_READY posted; the place that a collected record frees goes to the
waiting bays in ascending number, and RECORDS_FULL leaves the cause set when none waits any more. -/
def Obligations.PacksCloseIntoRecords : Prop :=
  (∀ (s : State) (b : BayNo), ∀ p, (s.bay b).openPack = some p → ∀ c, (s.bay b).config = some c →
    (p.stacked = 0 → s.closePack b = s.setBay b { s.bay b with state := .empty, openPack := none }) ∧
    (p.stacked ≠ 0 → 8 ≤ s.packs.length →
      let waiting := s.setBay b { s.bay b with state := .waitRecord }
      s.closePack b =
        if ∀ d : BayNo, (s.bay d).state ≠ .waitRecord then waiting.addCause .recordsFull else waiting) ∧
    (p.stacked ≠ 0 → s.packs.length < 8 → s.backup.packCounter ≤ 999999 →
      let serial := s.issuedSerial
      let t := s.closePack b
      (1 ≤ serial ∧ serial ≤ 999999 ∧ s.pack serial = none ∧
        ∃ tries < 9, serial = (s.backup.packCounter + tries) % 999999 + 1 ∧
          ∀ m < tries, (s.pack ((s.backup.packCounter + m) % 999999 + 1)).isSome) ∧
      t.bays = (s.setBay b { s.bay b with state := .labelling, openPack := none }).bays ∧
      t.backup = { s.backup with packCounter := serial } ∧ t.label.jobs = s.label.jobs ++ [serial] ∧
      t.notices = { s.notices with packReady := if s.notices.packReady < 65535 then s.notices.packReady + 1
                                                 else s.notices.packReady } ∧
      t.charges = s.charges ∧ t.line = s.line ∧ t.kilns = s.kilns ∧
      ∃ r, t.packs = s.packs ++ [r] ∧ r.serial = serial ∧ r.bay = b ∧ r.species = p.species ∧ r.nominal = c.nominal ∧
        r.pieceCount = p.stacked ∧ r.mcMax = p.mcMax.getD 0 ∧ r.label = .queued ∧ r.scanBack = none ∧
        r.contributors = (p.contributors.map fun x => (x.charge, x.stacked)) ∧
        r.meanMc = (2 * p.mcSum + p.stacked) / (2 * p.stacked) ∧
        r.printedMc = (2 * p.mcSum + 10 * p.stacked) / (20 * p.stacked) ∧
        r.code.length = 10 ∧ (∀ d ∈ r.code, d ≤ 9) ∧ r.code.getLast? = some r.checkDigit ∧
        (p.species < 1000 →
          r.code.dropLast.foldl (fun n d => 10 * n + d) 0 = 1000 * serial + p.species) ∧
        (3 * (r.code.getD 0 0 + r.code.getD 2 0 + r.code.getD 4 0 + r.code.getD 6 0 + r.code.getD 8 0) +
          (r.code.getD 1 0 + r.code.getD 3 0 + r.code.getD 5 0 + r.code.getD 7 0) + r.code.getD 9 0) % 10 = 0 ∧
        r.date =
          (if s.backup.clockValid then
            let d := s.backup.clock
            [d.year / 1000 % 10, d.year / 100 % 10, d.year / 10 % 10, d.year % 10, d.month / 10 % 10, d.month % 10,
              d.day / 10 % 10, d.day % 10]
          else List.replicate 8 0))) ∧
  ∀ s : State, s.packs.length = 7 → (∀ b, (s.bay b).state = .waitRecord → (s.bay b).openPack.isSome) →
    let waits := fun (b : BayNo) => (s.bay b).state == .waitRecord
    ((∀ b, waits b = false) →
      s.giveFreedPlace = { s with line := { s.line with causes := { s.line.causes with recordsFull := false } } }) ∧
    ∀ b, waits b = true → (∀ d < b, waits d = false) →
      ∀ p, (s.bay b).openPack = some p →
      let written := s.writeRecord b p
      s.giveFreedPlace =
        if ∀ d, d ≠ b → waits d = false then
          { written with line := { written.line with causes := { written.line.causes with recordsFull := false } } }
        else written

/-- R155, R156, R159, R160: the requests on closed records and on the label timeout; the job of a REPRINT that finds the
label queue empty becomes current and is started, which it is when no exchange is outstanding and port 8 takes its
LABEL-PRINT. That the job stays UNSTARTED also when port 8 answers "busy" is log entry 19, the model's choice. -/
def Obligations.PackRequestsAnswer : Prop :=
  ∀ (s : State) (serial seconds : Nat),
    (s.takes .listPacks → exec .listPacks s =
      .next (s.okReply .listPacks
        (listOf (fun r : PackRecord => u32 r.serial ++ numberOctet r.bay ++ u8 r.label.code) s.packs))) ∧
    (s.takes (.labelConfig seconds) → exec (.labelConfig seconds) s =
      .next (if 5 ≤ seconds ∧ seconds ≤ 120 then
        { s with label := { s.label with timeoutSetting := seconds } }.okReply (.labelConfig seconds) []
      else s.refusal (.labelConfig seconds) .outOfRange)) ∧
    (∀ i ∈ [Instr.readPack serial, .collectPack serial, .reprint serial, .voidLabel serial], s.takes i →
      (serial < 1 ∨ 999999 < serial → exec i s = .next (s.refusal i .outOfRange)) ∧
      (1 ≤ serial → serial ≤ 999999 → s.pack serial = none → exec i s = .next (s.refusal i .notFound))) ∧
    ∀ r, s.pack serial = some r → 1 ≤ serial → serial ≤ 999999 →
      let fault := r.label ≠ .queued ∧ r.label ≠ .printing ∧ r.label ≠ .confirmed ∧ r.label ≠ .void
      let relabelled := fun (label : LabelState) =>
        s.packs.map fun (x : PackRecord) => if x.serial = serial then { x with label := label } else x
      (s.takes (.readPack serial) → exec (.readPack serial) s = .next (s.okReply (.readPack serial) r.octets)) ∧
      (s.takes (.collectPack serial) → exec (.collectPack serial) s =
        .next (if r.label = .confirmed ∨ r.label = .void then
          ({ s with packs := s.packs.filter fun x => x.serial != serial }.giveFreedPlace).okReply
            (.collectPack serial) r.octets
        else s.refusal (.collectPack serial) .wrongState)) ∧
      (s.takes (.voidLabel serial) → exec (.voidLabel serial) s =
        .next (if fault then
          ({ s with
             packs := relabelled .void,
             charges := r.contributors.foldl
               (fun table (x : Nat × Nat) => updateBy Charge.number x.1
                 (fun (c : Charge) => { c with openPackRefs := c.openPackRefs - 1 }) table) s.charges }.setBay r.bay
            { s.bay r.bay with state := .empty }).okReply (.voidLabel serial) []
        else s.refusal (.voidLabel serial) .wrongState)) ∧
      (s.takes (.reprint serial) → exec (.reprint serial) s =
        .next (if fault then
          let queued :=
            { s with
              packs := s.packs.map fun (x : PackRecord) =>
                if x.serial = serial then { x with label := .queued, scanBack := none } else x,
              label := { s.label with
                         jobs := s.label.jobs ++ [serial],
                         phase := if s.label.jobs = [] then some .unstarted else s.label.phase } }.setBay r.bay
              { s.bay r.bay with state := .labelling }
          (if s.label.jobs = [] then queued.startCurrent else queued).okReply (.reprint serial) []
        else s.refusal (.reprint serial) .wrongState)) ∧
      (s.label.phase = some .unstarted → s.label.jobs.head? = some serial →
        s.startCurrent =
          if s.label.outstanding.isSome ∨ (s.port 7).state ≠ .up ∨ (s.port 7).waiting.isSome ∨
              (∃ e ∈ (s.port 7).exchange, e.command ≠ .identify) then s
          else
            { s with
              label := { s.label with
                         phase := some .print, timeout := some (s.label.timeoutSetting * 1000),
                         outstanding := some { status := false, stale := false } } }.askPort 7
              { command := .labelPrint, data := r.labelContent })

/-- R156 to R158: the label unit's events and the outcomes of its exchanges. A job is confirmed by a scan-back equal to
the record's code; any of the four faults stores its reason, stops the waits, marks an outstanding exchange stale and
moves the bay to LABEL_FAULT; either way the next job becomes current. A stale outcome is ignored and the next job may
start, and so may a job still UNSTARTED when port 8 leaves UP, which leaves no exchange outstanding; an outcome with none
outstanding is ignored as well (log entry 39, the model's choice). The pause's run-out makes the LABEL-PRINT or the
LABEL-STATUS outstanding and asks port 8 for it; with any answer but taken nothing is outstanding and no pause runs (log
entry 19, the model's choice). -/
def Obligations.LabelJobsEndConfirmedOrInFault : Prop :=
  ∀ (s : State) (outcome : ExchangeOutcome) (status : Octet) (data : List Octet), s.isOn →
    let u := s.label
    (exec .labelPauseExpiry s =
      .next (if u.pause = false then s
      else
        let paused := { s with label := { u with pause := false } }
        let asked := fun (isStatus : Bool) (w : WaitingExchange) =>
          if (s.port 7).state ≠ .up ∨ (s.port 7).waiting.isSome ∨ (∃ e ∈ (s.port 7).exchange, e.command ≠ .identify) then
            paused
          else
            { s with
              label := { u with pause := false, outstanding := some { status := isStatus, stale := false } } }.askPort 7 w
        match u.phase, s.currentRecord with
        | some .print, some r => asked false { command := .labelPrint, data := r.labelContent }
        | some .poll, some _ => asked true { command := .labelStatus, data := [] }
        | _, _ => paused)) ∧
    (exec .labelPortUp s =
      .next (if s.reportNext .labelPortUp then { s with reports := s.reports.erase .labelPortUp }.startCurrent else s)) ∧
    (u.phase = some .unstarted ∨ u.phase = none → exec .labelPortLeftUp s =
      .next (if s.reportNext .labelPortLeftUp then
        { s with reports := s.reports.erase .labelPortLeftUp, label := { u with outstanding := none } }.startCurrent
      else s)) ∧
    (∀ isStatus : Bool,
      (∀ x, u.outstanding = some x → x.stale = true →
        s.labelOutcome isStatus outcome { status := status, data := data } =
          { s with label := { u with outstanding := none } }.startCurrent) ∧
      (u.outstanding = none → s.labelOutcome isStatus outcome { status := status, data := data } = s.startCurrent)) ∧
    ∀ r, s.currentRecord = some r →
      let next := { u with jobs := u.jobs.tail,
                           phase := if u.jobs.tail = [] then none else some .unstarted, pause := false, timeout := none }
      let stale := u.outstanding.map fun x => { x with stale := true }
      let faulted := fun (reports : List Report) (outstanding : Option LabelExchange) (reason : LabelFaultReason)
          (scanBack : Option (List Octet)) =>
        ({ s with
           reports := reports,
           packs := s.packs.map fun (x : PackRecord) =>
             if x.serial = r.serial then { x with label := .fault reason, scanBack := scanBack } else x,
           label := { next with outstanding := outstanding },
           notices := { s.notices with labelFault := s.notices.labelFault.set r.bay.val true r.bay.isLt } }.setBay r.bay
          { s.bay r.bay with state := .labelFault }).startCurrent
      let waiting := fun (packs : List PackRecord) (phase : Option LabelPhase) =>
        { s with packs := packs, label := { u with outstanding := none, pause := true, phase := phase } }
      (exec .labelTimeoutExpiry s = .next (if u.timeout = none then s else faulted s.reports stale .timeout none)) ∧
      ((u.phase = some .print ∨ u.phase = some .poll) → exec .labelPortLeftUp s =
        .next (if s.reportNext .labelPortLeftUp then faulted (s.reports.erase .labelPortLeftUp) none .port none
        else s)) ∧
      (u.outstanding = some { status := false, stale := false } →
        s.labelOutcome false outcome { status := status, data := data } =
          if outcome = .good ∧ status = 0x00 then
            waiting (s.packs.map fun (x : PackRecord) => if x.serial = r.serial then { x with label := .printing } else x) (some .poll)
          else waiting s.packs u.phase) ∧
      (u.outstanding = some { status := true, stale := false } →
        s.labelOutcome true outcome { status := status, data := data } =
          if outcome = .good ∧ status = 0x02 then
            if data = r.code.map (fun d => BitVec.ofNat 8 (0x30 + d)) then
              ({ s with
                 packs := s.packs.map fun (x : PackRecord) => if x.serial = r.serial then { x with label := .confirmed } else x,
                 label := { next with outstanding := none },
                 charges := r.contributors.foldl
                   (fun table (x : Nat × Nat) => updateBy Charge.number x.1
                     (fun (c : Charge) => { c with openPackRefs := c.openPackRefs - 1 }) table) s.charges }.setBay r.bay
                { s.bay r.bay with state := .empty }).startCurrent
            else faulted s.reports none .mismatch (some data)
          else if outcome = .good ∧ status = 0x03 then faulted s.reports none .applicator none
          else waiting s.packs u.phase)

/-! ### Moisture arithmetic -/

/-- R3 to R8, R10 to R13, R15, R16: the class of a reading and its moisture on the curve of the corrected code, the
ends saturated; the smoothing of accepted, suspect and reseeding readings; the controlling MC as the rounded mean of
the wettest candidates, INVALID below the minimum number, with the spread and the driest. -/
def Obligations.MoistureIsConvertedSmoothedAndSelected : Prop :=
  (∀ (l : Nat) (fault : Bool) (temperature : Option Int) (species : Option SpeciesEntry),
    (fault = true → convert l fault temperature species = ⟨.faulted, l, none, .none⟩) ∧
    (fault = false → l < 3072 → convert l fault temperature species = ⟨.short, l, none, .none⟩) ∧
    (fault = false → 12800 < l → convert l fault temperature species = ⟨.openLead, l, none, .none⟩) ∧
    (fault = false → 3072 ≤ l → l ≤ 12800 → species = none →
      convert l fault temperature species = ⟨.noCurve, l, none, .none⟩) ∧
    ∀ e, species = some e → fault = false → 3072 ≤ l → l ≤ 12800 → 8 ≤ e.curve.length → ∀ j : Fin 7,
      let t := max (-400) (min (temperature.getD 250) 1200)
      let n := (e.kT : Int) * (t - 250)
      let x : Int := l + if 0 ≤ n then (n + 50) / 100 else -((-n + 50) / 100)
      let point := fun (i : Nat) => e.curve.getD i (0, 0)
      let flags : ReadingFlags := { ReadingFlags.none with uncorrected := temperature.isNone }
      speciesInRange e.kT e.packLimit e.curve = true →
      (x ≤ (point 0).1 → convert l fault temperature species =
        ⟨.usable, l, some (point 0).2, { flags with saturatedWet := true }⟩) ∧
      ((point 7).1 ≤ x → convert l fault temperature species =
        ⟨.usable, l, some (point 7).2, { flags with saturatedDry := true }⟩) ∧
      ((point 0).1 < x → (point j.val).1 ≤ x → x < (point (j.val + 1)).1 →
        let width := (point (j.val + 1)).1 - (point j.val).1
        let drop := (point j.val).2 - (point (j.val + 1)).2
        convert l fault temperature species =
          ⟨.usable, l,
            some ((point j.val).2 - (2 * (drop * (x - (point j.val).1).toNat) + width) / (2 * width)), flags⟩)) ∧
  (∀ (value suspects mc shift limit : Nat),
    let distance := max mc value - min mc value
    (smooth none suspects mc shift limit = ⟨mc, 0, false, false⟩) ∧
    (limit < distance → suspects < 2 → smooth (some value) suspects mc shift limit = ⟨value, suspects + 1, true, false⟩) ∧
    (limit < distance → 2 ≤ suspects → smooth (some value) suspects mc shift limit = ⟨mc, 0, false, true⟩) ∧
    (distance ≤ limit → 1 ≤ shift → shift ≤ 3 →
      let step := if distance = 0 then 0 else max 1 ((2 * distance + 2 ^ shift) / (2 * 2 ^ shift))
      smooth (some value) suspects mc shift limit =
        ⟨if value ≤ mc then value + step else value - step, 0, false, false⟩) ∧
    (distance ≤ limit → smooth (some value) suspects mc 0 limit = ⟨mc, 0, false, false⟩)) ∧
  ∀ (values : List Nat) (wetCount minimum : Nat), 1 ≤ wetCount → 1 ≤ minimum →
    let result := select values wetCount minimum
    let k := min wetCount values.length
    (result.controllingMc = .invalid ↔ values.length < minimum) ∧
    (minimum ≤ values.length →
      ∃ wet dry : List Nat, (wet ++ dry).Perm values ∧ wet.length = k ∧ (∀ x ∈ wet, ∀ y ∈ dry, y ≤ x) ∧
        result.controllingMc = .value ((2 * wet.sum + k) / (2 * k))) ∧
    (result.driest = none ↔ values = []) ∧
    (∀ d, result.driest = some d → d ∈ values ∧ ∀ x ∈ values, d ≤ x) ∧
    (result.spread = none ↔ values.length < 2 ∨ values.length < minimum) ∧
    ∀ r, result.spread = some r → ∃ hi ∈ values, ∃ lo ∈ values, r = hi - lo ∧ ∀ x ∈ values, lo ≤ x ∧ x ≤ hi

/-! ### Invariants -/

/-- Every step keeps the bounded tables in their one form and within their capacities, and the fates of each charge
summing to its metered tally (R21, R37, R47, R104, R106, R128, R152). -/
def Obligations.StepsKeepTheTables : Prop :=
  ∀ s t : State, s.tablesKept → s.talliesKept → step s = .next t → t.tablesKept ∧ t.talliesKept

/-- Every step keeps each kiln record in the shape of its state, and the dry-bulbs and depressions in their ranges
(R29, R55, R58, R76). -/
def Obligations.StepsKeepTheKilns : Prop :=
  ∀ s t : State, s.kilnsKept → s.setpointsKept → step s = .next t → t.kilnsKept ∧ t.setpointsKept

/-- Every step keeps each port record in the shape of its state, its counts below their limits (R87, R90, R93, R96);
and every step keeps the reply of an answered request, and at most one refusal, waiting to be sent (R185 to R187,
R190). -/
def Obligations.StepsKeepThePortsAndTheLink : Prop :=
  (∀ s t : State, s.portsKept → step s = .next t → t.portsKept) ∧
  ∀ s t : State, s.linkKept → step s = .next t → t.linkKept

/-- Every step keeps each sweep record and each presence entry in its shape (R106, R107, R110, R113). -/
def Obligations.StepsKeepTheProbeUnit : Prop :=
  ∀ s t : State, s.sweepsKept → step s = .next t → t.sweepsKept

/-- The first reset meets every invariant. -/
def Obligations.ResetMeetsTheInvariants : Prop :=
  let s := State.reset
  s.tablesKept ∧ s.talliesKept ∧ s.kilnsKept ∧ s.setpointsKept ∧ s.portsKept ∧ s.sweepsKept ∧ s.linkKept
end

