-- ==== Sys2Proof/Laws/State.lean ====
section
/-!
SUPPORT. The small lemmas of the state updates: for each update and each field what the field is afterwards, by `rfl`; and what
the numbered records read after one of them is set.
-/
namespace Sys2Proof.Machine

variable (s : State)

/-! ### setKiln -/

@[simp] theorem State.setKiln_power (k : KilnNo) (r : KilnRecord) : (s.setKiln k r).power = s.power := rfl
@[simp] theorem State.setKiln_species (k : KilnNo) (r : KilnRecord) : (s.setKiln k r).species = s.species := rfl
@[simp] theorem State.setKiln_schedules (k : KilnNo) (r : KilnRecord) : (s.setKiln k r).schedules = s.schedules := rfl
@[simp] theorem State.setKiln_charges (k : KilnNo) (r : KilnRecord) : (s.setKiln k r).charges = s.charges := rfl
@[simp] theorem State.setKiln_ports (k : KilnNo) (r : KilnRecord) : (s.setKiln k r).ports = s.ports := rfl
@[simp] theorem State.setKiln_reports (k : KilnNo) (r : KilnRecord) : (s.setKiln k r).reports = s.reports := rfl
@[simp] theorem State.setKiln_assignments (k : KilnNo) (r : KilnRecord) : (s.setKiln k r).assignments = s.assignments := rfl
@[simp] theorem State.setKiln_presence (k : KilnNo) (r : KilnRecord) : (s.setKiln k r).presence = s.presence := rfl
@[simp] theorem State.setKiln_sweeps (k : KilnNo) (r : KilnRecord) : (s.setKiln k r).sweeps = s.sweeps := rfl
@[simp] theorem State.setKiln_line (k : KilnNo) (r : KilnRecord) : (s.setKiln k r).line = s.line := rfl
@[simp] theorem State.setKiln_bays (k : KilnNo) (r : KilnRecord) : (s.setKiln k r).bays = s.bays := rfl
@[simp] theorem State.setKiln_packs (k : KilnNo) (r : KilnRecord) : (s.setKiln k r).packs = s.packs := rfl
@[simp] theorem State.setKiln_label (k : KilnNo) (r : KilnRecord) : (s.setKiln k r).label = s.label := rfl
@[simp] theorem State.setKiln_minuteCount (k : KilnNo) (r : KilnRecord) : (s.setKiln k r).minuteCount = s.minuteCount := rfl
@[simp] theorem State.setKiln_backup (k : KilnNo) (r : KilnRecord) : (s.setKiln k r).backup = s.backup := rfl
@[simp] theorem State.setKiln_notices (k : KilnNo) (r : KilnRecord) : (s.setKiln k r).notices = s.notices := rfl
@[simp] theorem State.setKiln_link (k : KilnNo) (r : KilnRecord) : (s.setKiln k r).link = s.link := rfl
@[simp] theorem State.setKiln_pending (k : KilnNo) (r : KilnRecord) : (s.setKiln k r).pending = s.pending := rfl

/-! ### setPort -/

@[simp] theorem State.setPort_power (p : PortNo) (r : PortRecord) : (s.setPort p r).power = s.power := rfl
@[simp] theorem State.setPort_species (p : PortNo) (r : PortRecord) : (s.setPort p r).species = s.species := rfl
@[simp] theorem State.setPort_schedules (p : PortNo) (r : PortRecord) : (s.setPort p r).schedules = s.schedules := rfl
@[simp] theorem State.setPort_charges (p : PortNo) (r : PortRecord) : (s.setPort p r).charges = s.charges := rfl
@[simp] theorem State.setPort_kilns (p : PortNo) (r : PortRecord) : (s.setPort p r).kilns = s.kilns := rfl
@[simp] theorem State.setPort_reports (p : PortNo) (r : PortRecord) : (s.setPort p r).reports = s.reports := rfl
@[simp] theorem State.setPort_assignments (p : PortNo) (r : PortRecord) : (s.setPort p r).assignments = s.assignments := rfl
@[simp] theorem State.setPort_presence (p : PortNo) (r : PortRecord) : (s.setPort p r).presence = s.presence := rfl
@[simp] theorem State.setPort_sweeps (p : PortNo) (r : PortRecord) : (s.setPort p r).sweeps = s.sweeps := rfl
@[simp] theorem State.setPort_line (p : PortNo) (r : PortRecord) : (s.setPort p r).line = s.line := rfl
@[simp] theorem State.setPort_bays (p : PortNo) (r : PortRecord) : (s.setPort p r).bays = s.bays := rfl
@[simp] theorem State.setPort_packs (p : PortNo) (r : PortRecord) : (s.setPort p r).packs = s.packs := rfl
@[simp] theorem State.setPort_label (p : PortNo) (r : PortRecord) : (s.setPort p r).label = s.label := rfl
@[simp] theorem State.setPort_minuteCount (p : PortNo) (r : PortRecord) : (s.setPort p r).minuteCount = s.minuteCount := rfl
@[simp] theorem State.setPort_backup (p : PortNo) (r : PortRecord) : (s.setPort p r).backup = s.backup := rfl
@[simp] theorem State.setPort_notices (p : PortNo) (r : PortRecord) : (s.setPort p r).notices = s.notices := rfl
@[simp] theorem State.setPort_link (p : PortNo) (r : PortRecord) : (s.setPort p r).link = s.link := rfl
@[simp] theorem State.setPort_pending (p : PortNo) (r : PortRecord) : (s.setPort p r).pending = s.pending := rfl

/-! ### setSweep -/

@[simp] theorem State.setSweep_power (k : KilnNo) (r : SweepRecord) : (s.setSweep k r).power = s.power := rfl
@[simp] theorem State.setSweep_species (k : KilnNo) (r : SweepRecord) : (s.setSweep k r).species = s.species := rfl
@[simp] theorem State.setSweep_schedules (k : KilnNo) (r : SweepRecord) : (s.setSweep k r).schedules = s.schedules := rfl
@[simp] theorem State.setSweep_charges (k : KilnNo) (r : SweepRecord) : (s.setSweep k r).charges = s.charges := rfl
@[simp] theorem State.setSweep_kilns (k : KilnNo) (r : SweepRecord) : (s.setSweep k r).kilns = s.kilns := rfl
@[simp] theorem State.setSweep_ports (k : KilnNo) (r : SweepRecord) : (s.setSweep k r).ports = s.ports := rfl
@[simp] theorem State.setSweep_reports (k : KilnNo) (r : SweepRecord) : (s.setSweep k r).reports = s.reports := rfl
@[simp] theorem State.setSweep_assignments (k : KilnNo) (r : SweepRecord) : (s.setSweep k r).assignments = s.assignments := rfl
@[simp] theorem State.setSweep_presence (k : KilnNo) (r : SweepRecord) : (s.setSweep k r).presence = s.presence := rfl
@[simp] theorem State.setSweep_line (k : KilnNo) (r : SweepRecord) : (s.setSweep k r).line = s.line := rfl
@[simp] theorem State.setSweep_bays (k : KilnNo) (r : SweepRecord) : (s.setSweep k r).bays = s.bays := rfl
@[simp] theorem State.setSweep_packs (k : KilnNo) (r : SweepRecord) : (s.setSweep k r).packs = s.packs := rfl
@[simp] theorem State.setSweep_label (k : KilnNo) (r : SweepRecord) : (s.setSweep k r).label = s.label := rfl
@[simp] theorem State.setSweep_minuteCount (k : KilnNo) (r : SweepRecord) : (s.setSweep k r).minuteCount = s.minuteCount := rfl
@[simp] theorem State.setSweep_backup (k : KilnNo) (r : SweepRecord) : (s.setSweep k r).backup = s.backup := rfl
@[simp] theorem State.setSweep_notices (k : KilnNo) (r : SweepRecord) : (s.setSweep k r).notices = s.notices := rfl
@[simp] theorem State.setSweep_link (k : KilnNo) (r : SweepRecord) : (s.setSweep k r).link = s.link := rfl
@[simp] theorem State.setSweep_pending (k : KilnNo) (r : SweepRecord) : (s.setSweep k r).pending = s.pending := rfl

/-! ### setBay -/

@[simp] theorem State.setBay_power (b : BayNo) (r : Bay) : (s.setBay b r).power = s.power := rfl
@[simp] theorem State.setBay_species (b : BayNo) (r : Bay) : (s.setBay b r).species = s.species := rfl
@[simp] theorem State.setBay_schedules (b : BayNo) (r : Bay) : (s.setBay b r).schedules = s.schedules := rfl
@[simp] theorem State.setBay_charges (b : BayNo) (r : Bay) : (s.setBay b r).charges = s.charges := rfl
@[simp] theorem State.setBay_kilns (b : BayNo) (r : Bay) : (s.setBay b r).kilns = s.kilns := rfl
@[simp] theorem State.setBay_ports (b : BayNo) (r : Bay) : (s.setBay b r).ports = s.ports := rfl
@[simp] theorem State.setBay_reports (b : BayNo) (r : Bay) : (s.setBay b r).reports = s.reports := rfl
@[simp] theorem State.setBay_assignments (b : BayNo) (r : Bay) : (s.setBay b r).assignments = s.assignments := rfl
@[simp] theorem State.setBay_presence (b : BayNo) (r : Bay) : (s.setBay b r).presence = s.presence := rfl
@[simp] theorem State.setBay_sweeps (b : BayNo) (r : Bay) : (s.setBay b r).sweeps = s.sweeps := rfl
@[simp] theorem State.setBay_line (b : BayNo) (r : Bay) : (s.setBay b r).line = s.line := rfl
@[simp] theorem State.setBay_packs (b : BayNo) (r : Bay) : (s.setBay b r).packs = s.packs := rfl
@[simp] theorem State.setBay_label (b : BayNo) (r : Bay) : (s.setBay b r).label = s.label := rfl
@[simp] theorem State.setBay_minuteCount (b : BayNo) (r : Bay) : (s.setBay b r).minuteCount = s.minuteCount := rfl
@[simp] theorem State.setBay_backup (b : BayNo) (r : Bay) : (s.setBay b r).backup = s.backup := rfl
@[simp] theorem State.setBay_notices (b : BayNo) (r : Bay) : (s.setBay b r).notices = s.notices := rfl
@[simp] theorem State.setBay_link (b : BayNo) (r : Bay) : (s.setBay b r).link = s.link := rfl
@[simp] theorem State.setBay_pending (b : BayNo) (r : Bay) : (s.setBay b r).pending = s.pending := rfl

/-! ### setSnapshot -/

@[simp] theorem State.setSnapshot_power (k : KilnNo) (x : Option Snapshot) : (s.setSnapshot k x).power = s.power := rfl
@[simp] theorem State.setSnapshot_species (k : KilnNo) (x : Option Snapshot) : (s.setSnapshot k x).species = s.species := rfl
@[simp] theorem State.setSnapshot_schedules (k : KilnNo) (x : Option Snapshot) : (s.setSnapshot k x).schedules = s.schedules := rfl
@[simp] theorem State.setSnapshot_charges (k : KilnNo) (x : Option Snapshot) : (s.setSnapshot k x).charges = s.charges := rfl
@[simp] theorem State.setSnapshot_kilns (k : KilnNo) (x : Option Snapshot) : (s.setSnapshot k x).kilns = s.kilns := rfl
@[simp] theorem State.setSnapshot_ports (k : KilnNo) (x : Option Snapshot) : (s.setSnapshot k x).ports = s.ports := rfl
@[simp] theorem State.setSnapshot_reports (k : KilnNo) (x : Option Snapshot) : (s.setSnapshot k x).reports = s.reports := rfl
@[simp] theorem State.setSnapshot_assignments (k : KilnNo) (x : Option Snapshot) : (s.setSnapshot k x).assignments = s.assignments := rfl
@[simp] theorem State.setSnapshot_presence (k : KilnNo) (x : Option Snapshot) : (s.setSnapshot k x).presence = s.presence := rfl
@[simp] theorem State.setSnapshot_sweeps (k : KilnNo) (x : Option Snapshot) : (s.setSnapshot k x).sweeps = s.sweeps := rfl
@[simp] theorem State.setSnapshot_line (k : KilnNo) (x : Option Snapshot) : (s.setSnapshot k x).line = s.line := rfl
@[simp] theorem State.setSnapshot_bays (k : KilnNo) (x : Option Snapshot) : (s.setSnapshot k x).bays = s.bays := rfl
@[simp] theorem State.setSnapshot_packs (k : KilnNo) (x : Option Snapshot) : (s.setSnapshot k x).packs = s.packs := rfl
@[simp] theorem State.setSnapshot_label (k : KilnNo) (x : Option Snapshot) : (s.setSnapshot k x).label = s.label := rfl
@[simp] theorem State.setSnapshot_minuteCount (k : KilnNo) (x : Option Snapshot) : (s.setSnapshot k x).minuteCount = s.minuteCount := rfl
@[simp] theorem State.setSnapshot_notices (k : KilnNo) (x : Option Snapshot) : (s.setSnapshot k x).notices = s.notices := rfl
@[simp] theorem State.setSnapshot_link (k : KilnNo) (x : Option Snapshot) : (s.setSnapshot k x).link = s.link := rfl
@[simp] theorem State.setSnapshot_pending (k : KilnNo) (x : Option Snapshot) : (s.setSnapshot k x).pending = s.pending := rfl

/-! ### modifyLine -/

@[simp] theorem State.modifyLine_power (f : Line → Line) : (s.modifyLine f).power = s.power := rfl
@[simp] theorem State.modifyLine_species (f : Line → Line) : (s.modifyLine f).species = s.species := rfl
@[simp] theorem State.modifyLine_schedules (f : Line → Line) : (s.modifyLine f).schedules = s.schedules := rfl
@[simp] theorem State.modifyLine_charges (f : Line → Line) : (s.modifyLine f).charges = s.charges := rfl
@[simp] theorem State.modifyLine_kilns (f : Line → Line) : (s.modifyLine f).kilns = s.kilns := rfl
@[simp] theorem State.modifyLine_ports (f : Line → Line) : (s.modifyLine f).ports = s.ports := rfl
@[simp] theorem State.modifyLine_reports (f : Line → Line) : (s.modifyLine f).reports = s.reports := rfl
@[simp] theorem State.modifyLine_assignments (f : Line → Line) : (s.modifyLine f).assignments = s.assignments := rfl
@[simp] theorem State.modifyLine_presence (f : Line → Line) : (s.modifyLine f).presence = s.presence := rfl
@[simp] theorem State.modifyLine_sweeps (f : Line → Line) : (s.modifyLine f).sweeps = s.sweeps := rfl
@[simp] theorem State.modifyLine_line (f : Line → Line) : (s.modifyLine f).line = f s.line := rfl
@[simp] theorem State.modifyLine_bays (f : Line → Line) : (s.modifyLine f).bays = s.bays := rfl
@[simp] theorem State.modifyLine_packs (f : Line → Line) : (s.modifyLine f).packs = s.packs := rfl
@[simp] theorem State.modifyLine_label (f : Line → Line) : (s.modifyLine f).label = s.label := rfl
@[simp] theorem State.modifyLine_minuteCount (f : Line → Line) : (s.modifyLine f).minuteCount = s.minuteCount := rfl
@[simp] theorem State.modifyLine_backup (f : Line → Line) : (s.modifyLine f).backup = s.backup := rfl
@[simp] theorem State.modifyLine_notices (f : Line → Line) : (s.modifyLine f).notices = s.notices := rfl
@[simp] theorem State.modifyLine_link (f : Line → Line) : (s.modifyLine f).link = s.link := rfl
@[simp] theorem State.modifyLine_pending (f : Line → Line) : (s.modifyLine f).pending = s.pending := rfl

/-! ### modifyLabel -/

@[simp] theorem State.modifyLabel_power (f : LabelUnit → LabelUnit) : (s.modifyLabel f).power = s.power := rfl
@[simp] theorem State.modifyLabel_species (f : LabelUnit → LabelUnit) : (s.modifyLabel f).species = s.species := rfl
@[simp] theorem State.modifyLabel_schedules (f : LabelUnit → LabelUnit) : (s.modifyLabel f).schedules = s.schedules := rfl
@[simp] theorem State.modifyLabel_charges (f : LabelUnit → LabelUnit) : (s.modifyLabel f).charges = s.charges := rfl
@[simp] theorem State.modifyLabel_kilns (f : LabelUnit → LabelUnit) : (s.modifyLabel f).kilns = s.kilns := rfl
@[simp] theorem State.modifyLabel_ports (f : LabelUnit → LabelUnit) : (s.modifyLabel f).ports = s.ports := rfl
@[simp] theorem State.modifyLabel_reports (f : LabelUnit → LabelUnit) : (s.modifyLabel f).reports = s.reports := rfl
@[simp] theorem State.modifyLabel_assignments (f : LabelUnit → LabelUnit) : (s.modifyLabel f).assignments = s.assignments := rfl
@[simp] theorem State.modifyLabel_presence (f : LabelUnit → LabelUnit) : (s.modifyLabel f).presence = s.presence := rfl
@[simp] theorem State.modifyLabel_sweeps (f : LabelUnit → LabelUnit) : (s.modifyLabel f).sweeps = s.sweeps := rfl
@[simp] theorem State.modifyLabel_line (f : LabelUnit → LabelUnit) : (s.modifyLabel f).line = s.line := rfl
@[simp] theorem State.modifyLabel_bays (f : LabelUnit → LabelUnit) : (s.modifyLabel f).bays = s.bays := rfl
@[simp] theorem State.modifyLabel_packs (f : LabelUnit → LabelUnit) : (s.modifyLabel f).packs = s.packs := rfl
@[simp] theorem State.modifyLabel_label (f : LabelUnit → LabelUnit) : (s.modifyLabel f).label = f s.label := rfl
@[simp] theorem State.modifyLabel_minuteCount (f : LabelUnit → LabelUnit) : (s.modifyLabel f).minuteCount = s.minuteCount := rfl
@[simp] theorem State.modifyLabel_backup (f : LabelUnit → LabelUnit) : (s.modifyLabel f).backup = s.backup := rfl
@[simp] theorem State.modifyLabel_notices (f : LabelUnit → LabelUnit) : (s.modifyLabel f).notices = s.notices := rfl
@[simp] theorem State.modifyLabel_link (f : LabelUnit → LabelUnit) : (s.modifyLabel f).link = s.link := rfl
@[simp] theorem State.modifyLabel_pending (f : LabelUnit → LabelUnit) : (s.modifyLabel f).pending = s.pending := rfl

/-! ### modifyNotices -/

@[simp] theorem State.modifyNotices_power (f : Notices → Notices) : (s.modifyNotices f).power = s.power := rfl
@[simp] theorem State.modifyNotices_species (f : Notices → Notices) : (s.modifyNotices f).species = s.species := rfl
@[simp] theorem State.modifyNotices_schedules (f : Notices → Notices) : (s.modifyNotices f).schedules = s.schedules := rfl
@[simp] theorem State.modifyNotices_charges (f : Notices → Notices) : (s.modifyNotices f).charges = s.charges := rfl
@[simp] theorem State.modifyNotices_kilns (f : Notices → Notices) : (s.modifyNotices f).kilns = s.kilns := rfl
@[simp] theorem State.modifyNotices_ports (f : Notices → Notices) : (s.modifyNotices f).ports = s.ports := rfl
@[simp] theorem State.modifyNotices_reports (f : Notices → Notices) : (s.modifyNotices f).reports = s.reports := rfl
@[simp] theorem State.modifyNotices_assignments (f : Notices → Notices) : (s.modifyNotices f).assignments = s.assignments := rfl
@[simp] theorem State.modifyNotices_presence (f : Notices → Notices) : (s.modifyNotices f).presence = s.presence := rfl
@[simp] theorem State.modifyNotices_sweeps (f : Notices → Notices) : (s.modifyNotices f).sweeps = s.sweeps := rfl
@[simp] theorem State.modifyNotices_line (f : Notices → Notices) : (s.modifyNotices f).line = s.line := rfl
@[simp] theorem State.modifyNotices_bays (f : Notices → Notices) : (s.modifyNotices f).bays = s.bays := rfl
@[simp] theorem State.modifyNotices_packs (f : Notices → Notices) : (s.modifyNotices f).packs = s.packs := rfl
@[simp] theorem State.modifyNotices_label (f : Notices → Notices) : (s.modifyNotices f).label = s.label := rfl
@[simp] theorem State.modifyNotices_minuteCount (f : Notices → Notices) : (s.modifyNotices f).minuteCount = s.minuteCount := rfl
@[simp] theorem State.modifyNotices_backup (f : Notices → Notices) : (s.modifyNotices f).backup = s.backup := rfl
@[simp] theorem State.modifyNotices_notices (f : Notices → Notices) : (s.modifyNotices f).notices = f s.notices := rfl
@[simp] theorem State.modifyNotices_link (f : Notices → Notices) : (s.modifyNotices f).link = s.link := rfl
@[simp] theorem State.modifyNotices_pending (f : Notices → Notices) : (s.modifyNotices f).pending = s.pending := rfl

/-! ### modifyLink -/

@[simp] theorem State.modifyLink_power (f : Link → Link) : (s.modifyLink f).power = s.power := rfl
@[simp] theorem State.modifyLink_species (f : Link → Link) : (s.modifyLink f).species = s.species := rfl
@[simp] theorem State.modifyLink_schedules (f : Link → Link) : (s.modifyLink f).schedules = s.schedules := rfl
@[simp] theorem State.modifyLink_charges (f : Link → Link) : (s.modifyLink f).charges = s.charges := rfl
@[simp] theorem State.modifyLink_kilns (f : Link → Link) : (s.modifyLink f).kilns = s.kilns := rfl
@[simp] theorem State.modifyLink_ports (f : Link → Link) : (s.modifyLink f).ports = s.ports := rfl
@[simp] theorem State.modifyLink_reports (f : Link → Link) : (s.modifyLink f).reports = s.reports := rfl
@[simp] theorem State.modifyLink_assignments (f : Link → Link) : (s.modifyLink f).assignments = s.assignments := rfl
@[simp] theorem State.modifyLink_presence (f : Link → Link) : (s.modifyLink f).presence = s.presence := rfl
@[simp] theorem State.modifyLink_sweeps (f : Link → Link) : (s.modifyLink f).sweeps = s.sweeps := rfl
@[simp] theorem State.modifyLink_line (f : Link → Link) : (s.modifyLink f).line = s.line := rfl
@[simp] theorem State.modifyLink_bays (f : Link → Link) : (s.modifyLink f).bays = s.bays := rfl
@[simp] theorem State.modifyLink_packs (f : Link → Link) : (s.modifyLink f).packs = s.packs := rfl
@[simp] theorem State.modifyLink_label (f : Link → Link) : (s.modifyLink f).label = s.label := rfl
@[simp] theorem State.modifyLink_minuteCount (f : Link → Link) : (s.modifyLink f).minuteCount = s.minuteCount := rfl
@[simp] theorem State.modifyLink_backup (f : Link → Link) : (s.modifyLink f).backup = s.backup := rfl
@[simp] theorem State.modifyLink_notices (f : Link → Link) : (s.modifyLink f).notices = s.notices := rfl
@[simp] theorem State.modifyLink_link (f : Link → Link) : (s.modifyLink f).link = f s.link := rfl
@[simp] theorem State.modifyLink_pending (f : Link → Link) : (s.modifyLink f).pending = s.pending := rfl

/-! ### setPending -/

@[simp] theorem State.setPending_power (q : List Instr) : (s.setPending q).power = s.power := rfl
@[simp] theorem State.setPending_species (q : List Instr) : (s.setPending q).species = s.species := rfl
@[simp] theorem State.setPending_schedules (q : List Instr) : (s.setPending q).schedules = s.schedules := rfl
@[simp] theorem State.setPending_charges (q : List Instr) : (s.setPending q).charges = s.charges := rfl
@[simp] theorem State.setPending_kilns (q : List Instr) : (s.setPending q).kilns = s.kilns := rfl
@[simp] theorem State.setPending_ports (q : List Instr) : (s.setPending q).ports = s.ports := rfl
@[simp] theorem State.setPending_reports (q : List Instr) : (s.setPending q).reports = s.reports := rfl
@[simp] theorem State.setPending_assignments (q : List Instr) : (s.setPending q).assignments = s.assignments := rfl
@[simp] theorem State.setPending_presence (q : List Instr) : (s.setPending q).presence = s.presence := rfl
@[simp] theorem State.setPending_sweeps (q : List Instr) : (s.setPending q).sweeps = s.sweeps := rfl
@[simp] theorem State.setPending_line (q : List Instr) : (s.setPending q).line = s.line := rfl
@[simp] theorem State.setPending_bays (q : List Instr) : (s.setPending q).bays = s.bays := rfl
@[simp] theorem State.setPending_packs (q : List Instr) : (s.setPending q).packs = s.packs := rfl
@[simp] theorem State.setPending_label (q : List Instr) : (s.setPending q).label = s.label := rfl
@[simp] theorem State.setPending_minuteCount (q : List Instr) : (s.setPending q).minuteCount = s.minuteCount := rfl
@[simp] theorem State.setPending_backup (q : List Instr) : (s.setPending q).backup = s.backup := rfl
@[simp] theorem State.setPending_notices (q : List Instr) : (s.setPending q).notices = s.notices := rfl
@[simp] theorem State.setPending_link (q : List Instr) : (s.setPending q).link = s.link := rfl
@[simp] theorem State.setPending_pending (q : List Instr) : (s.setPending q).pending = q := rfl

/-! ### modifyCharge -/

@[simp] theorem State.modifyCharge_power (n : Nat) (f : Charge → Charge) : (s.modifyCharge n f).power = s.power := rfl
@[simp] theorem State.modifyCharge_species (n : Nat) (f : Charge → Charge) : (s.modifyCharge n f).species = s.species := rfl
@[simp] theorem State.modifyCharge_schedules (n : Nat) (f : Charge → Charge) : (s.modifyCharge n f).schedules = s.schedules := rfl
@[simp] theorem State.modifyCharge_charges (n : Nat) (f : Charge → Charge) : (s.modifyCharge n f).charges = updateBy Charge.number n f s.charges := rfl
@[simp] theorem State.modifyCharge_kilns (n : Nat) (f : Charge → Charge) : (s.modifyCharge n f).kilns = s.kilns := rfl
@[simp] theorem State.modifyCharge_ports (n : Nat) (f : Charge → Charge) : (s.modifyCharge n f).ports = s.ports := rfl
@[simp] theorem State.modifyCharge_reports (n : Nat) (f : Charge → Charge) : (s.modifyCharge n f).reports = s.reports := rfl
@[simp] theorem State.modifyCharge_assignments (n : Nat) (f : Charge → Charge) : (s.modifyCharge n f).assignments = s.assignments := rfl
@[simp] theorem State.modifyCharge_presence (n : Nat) (f : Charge → Charge) : (s.modifyCharge n f).presence = s.presence := rfl
@[simp] theorem State.modifyCharge_sweeps (n : Nat) (f : Charge → Charge) : (s.modifyCharge n f).sweeps = s.sweeps := rfl
@[simp] theorem State.modifyCharge_line (n : Nat) (f : Charge → Charge) : (s.modifyCharge n f).line = s.line := rfl
@[simp] theorem State.modifyCharge_bays (n : Nat) (f : Charge → Charge) : (s.modifyCharge n f).bays = s.bays := rfl
@[simp] theorem State.modifyCharge_packs (n : Nat) (f : Charge → Charge) : (s.modifyCharge n f).packs = s.packs := rfl
@[simp] theorem State.modifyCharge_label (n : Nat) (f : Charge → Charge) : (s.modifyCharge n f).label = s.label := rfl
@[simp] theorem State.modifyCharge_minuteCount (n : Nat) (f : Charge → Charge) : (s.modifyCharge n f).minuteCount = s.minuteCount := rfl
@[simp] theorem State.modifyCharge_backup (n : Nat) (f : Charge → Charge) : (s.modifyCharge n f).backup = s.backup := rfl
@[simp] theorem State.modifyCharge_notices (n : Nat) (f : Charge → Charge) : (s.modifyCharge n f).notices = s.notices := rfl
@[simp] theorem State.modifyCharge_link (n : Nat) (f : Charge → Charge) : (s.modifyCharge n f).link = s.link := rfl
@[simp] theorem State.modifyCharge_pending (n : Nat) (f : Charge → Charge) : (s.modifyCharge n f).pending = s.pending := rfl

/-! ### modifyPack -/

@[simp] theorem State.modifyPack_power (n : Nat) (f : PackRecord → PackRecord) : (s.modifyPack n f).power = s.power := rfl
@[simp] theorem State.modifyPack_species (n : Nat) (f : PackRecord → PackRecord) : (s.modifyPack n f).species = s.species := rfl
@[simp] theorem State.modifyPack_schedules (n : Nat) (f : PackRecord → PackRecord) : (s.modifyPack n f).schedules = s.schedules := rfl
@[simp] theorem State.modifyPack_charges (n : Nat) (f : PackRecord → PackRecord) : (s.modifyPack n f).charges = s.charges := rfl
@[simp] theorem State.modifyPack_kilns (n : Nat) (f : PackRecord → PackRecord) : (s.modifyPack n f).kilns = s.kilns := rfl
@[simp] theorem State.modifyPack_ports (n : Nat) (f : PackRecord → PackRecord) : (s.modifyPack n f).ports = s.ports := rfl
@[simp] theorem State.modifyPack_reports (n : Nat) (f : PackRecord → PackRecord) : (s.modifyPack n f).reports = s.reports := rfl
@[simp] theorem State.modifyPack_assignments (n : Nat) (f : PackRecord → PackRecord) : (s.modifyPack n f).assignments = s.assignments := rfl
@[simp] theorem State.modifyPack_presence (n : Nat) (f : PackRecord → PackRecord) : (s.modifyPack n f).presence = s.presence := rfl
@[simp] theorem State.modifyPack_sweeps (n : Nat) (f : PackRecord → PackRecord) : (s.modifyPack n f).sweeps = s.sweeps := rfl
@[simp] theorem State.modifyPack_line (n : Nat) (f : PackRecord → PackRecord) : (s.modifyPack n f).line = s.line := rfl
@[simp] theorem State.modifyPack_bays (n : Nat) (f : PackRecord → PackRecord) : (s.modifyPack n f).bays = s.bays := rfl
@[simp] theorem State.modifyPack_packs (n : Nat) (f : PackRecord → PackRecord) : (s.modifyPack n f).packs = updateBy PackRecord.serial n f s.packs := rfl
@[simp] theorem State.modifyPack_label (n : Nat) (f : PackRecord → PackRecord) : (s.modifyPack n f).label = s.label := rfl
@[simp] theorem State.modifyPack_minuteCount (n : Nat) (f : PackRecord → PackRecord) : (s.modifyPack n f).minuteCount = s.minuteCount := rfl
@[simp] theorem State.modifyPack_backup (n : Nat) (f : PackRecord → PackRecord) : (s.modifyPack n f).backup = s.backup := rfl
@[simp] theorem State.modifyPack_notices (n : Nat) (f : PackRecord → PackRecord) : (s.modifyPack n f).notices = s.notices := rfl
@[simp] theorem State.modifyPack_link (n : Nat) (f : PackRecord → PackRecord) : (s.modifyPack n f).link = s.link := rfl
@[simp] theorem State.modifyPack_pending (n : Nat) (f : PackRecord → PackRecord) : (s.modifyPack n f).pending = s.pending := rfl

/-! ### takeReport -/

@[simp] theorem State.takeReport_power (r : Report) : (s.takeReport r).power = s.power := rfl
@[simp] theorem State.takeReport_species (r : Report) : (s.takeReport r).species = s.species := rfl
@[simp] theorem State.takeReport_schedules (r : Report) : (s.takeReport r).schedules = s.schedules := rfl
@[simp] theorem State.takeReport_charges (r : Report) : (s.takeReport r).charges = s.charges := rfl
@[simp] theorem State.takeReport_kilns (r : Report) : (s.takeReport r).kilns = s.kilns := rfl
@[simp] theorem State.takeReport_ports (r : Report) : (s.takeReport r).ports = s.ports := rfl
@[simp] theorem State.takeReport_reports (r : Report) : (s.takeReport r).reports = s.reports.erase r := rfl
@[simp] theorem State.takeReport_assignments (r : Report) : (s.takeReport r).assignments = s.assignments := rfl
@[simp] theorem State.takeReport_presence (r : Report) : (s.takeReport r).presence = s.presence := rfl
@[simp] theorem State.takeReport_sweeps (r : Report) : (s.takeReport r).sweeps = s.sweeps := rfl
@[simp] theorem State.takeReport_line (r : Report) : (s.takeReport r).line = s.line := rfl
@[simp] theorem State.takeReport_bays (r : Report) : (s.takeReport r).bays = s.bays := rfl
@[simp] theorem State.takeReport_packs (r : Report) : (s.takeReport r).packs = s.packs := rfl
@[simp] theorem State.takeReport_label (r : Report) : (s.takeReport r).label = s.label := rfl
@[simp] theorem State.takeReport_minuteCount (r : Report) : (s.takeReport r).minuteCount = s.minuteCount := rfl
@[simp] theorem State.takeReport_backup (r : Report) : (s.takeReport r).backup = s.backup := rfl
@[simp] theorem State.takeReport_notices (r : Report) : (s.takeReport r).notices = s.notices := rfl
@[simp] theorem State.takeReport_link (r : Report) : (s.takeReport r).link = s.link := rfl
@[simp] theorem State.takeReport_pending (r : Report) : (s.takeReport r).pending = s.pending := rfl

/-! ### report -/

@[simp] theorem State.report_power (r : Report) : (s.report r).power = s.power := rfl
@[simp] theorem State.report_species (r : Report) : (s.report r).species = s.species := rfl
@[simp] theorem State.report_schedules (r : Report) : (s.report r).schedules = s.schedules := rfl
@[simp] theorem State.report_charges (r : Report) : (s.report r).charges = s.charges := rfl
@[simp] theorem State.report_kilns (r : Report) : (s.report r).kilns = s.kilns := rfl
@[simp] theorem State.report_ports (r : Report) : (s.report r).ports = s.ports := rfl
@[simp] theorem State.report_reports (r : Report) : (s.report r).reports = s.reports ++ [r] := rfl
@[simp] theorem State.report_assignments (r : Report) : (s.report r).assignments = s.assignments := rfl
@[simp] theorem State.report_presence (r : Report) : (s.report r).presence = s.presence := rfl
@[simp] theorem State.report_sweeps (r : Report) : (s.report r).sweeps = s.sweeps := rfl
@[simp] theorem State.report_line (r : Report) : (s.report r).line = s.line := rfl
@[simp] theorem State.report_bays (r : Report) : (s.report r).bays = s.bays := rfl
@[simp] theorem State.report_packs (r : Report) : (s.report r).packs = s.packs := rfl
@[simp] theorem State.report_label (r : Report) : (s.report r).label = s.label := rfl
@[simp] theorem State.report_minuteCount (r : Report) : (s.report r).minuteCount = s.minuteCount := rfl
@[simp] theorem State.report_backup (r : Report) : (s.report r).backup = s.backup := rfl
@[simp] theorem State.report_notices (r : Report) : (s.report r).notices = s.notices := rfl
@[simp] theorem State.report_link (r : Report) : (s.report r).link = s.link := rfl
@[simp] theorem State.report_pending (r : Report) : (s.report r).pending = s.pending := rfl

/-! ### Reading a numbered record after one is set -/

/-- A place read after a place of a vector is set. -/
theorem get_set {α : Type} {n : Nat} (v : Vector α n) (i j : Fin n) (x : α) :
    (v.set i.val x i.isLt).get j = if i = j then x else v.get j := by
  have h := Vector.getElem_set (xs := v) (x := x) (hi := i.isLt) j.isLt
  simp only [Vector.get_eq_getElem, h, Fin.ext_iff]

@[simp] theorem State.kiln_setKiln (k j : KilnNo) (r : KilnRecord) :
    (s.setKiln k r).kiln j = if k = j then r else s.kiln j := get_set s.kilns k j r

@[simp] theorem State.port_setPort (p q : PortNo) (r : PortRecord) :
    (s.setPort p r).port q = if p = q then r else s.port q := get_set s.ports p q r

@[simp] theorem State.sweep_setSweep (k j : KilnNo) (r : SweepRecord) :
    (s.setSweep k r).sweep j = if k = j then r else s.sweep j := get_set s.sweeps k j r

@[simp] theorem State.bay_setBay (b c : BayNo) (r : Bay) :
    (s.setBay b r).bay c = if b = c then r else s.bay c := get_set s.bays b c r

@[simp] theorem State.snapshot_setSnapshot (k j : KilnNo) (x : Option Snapshot) :
    (s.setSnapshot k x).snapshot j = if k = j then x else s.snapshot j := get_set s.backup.snapshots k j x

/-! A snapshot's update leaves the rest of the backup domain. -/

@[simp] theorem State.setSnapshot_clock (k : KilnNo) (x : Option Snapshot) :
    (s.setSnapshot k x).backup.clock = s.backup.clock := rfl
@[simp] theorem State.setSnapshot_clockValid (k : KilnNo) (x : Option Snapshot) :
    (s.setSnapshot k x).backup.clockValid = s.backup.clockValid := rfl
@[simp] theorem State.setSnapshot_chargeCounter (k : KilnNo) (x : Option Snapshot) :
    (s.setSnapshot k x).backup.chargeCounter = s.backup.chargeCounter := rfl
@[simp] theorem State.setSnapshot_packCounter (k : KilnNo) (x : Option Snapshot) :
    (s.setSnapshot k x).backup.packCounter = s.backup.packCounter := rfl
@[simp] theorem State.setSnapshot_domainValid (k : KilnNo) (x : Option Snapshot) :
    (s.setSnapshot k x).backup.domainValid = s.backup.domainValid := rfl

end Sys2Proof.Machine
end

