-- ==== Sys2Proof/Laws/Frames.lean ====
section
/-!
SUPPORT. Frames: for each operation over the state, every field of State that it leaves as it was. What an operation does to
the fields not listed here its definition says.
-/
namespace Sys2Proof.Machine

variable (s : State)

/-- What every step of a fold keeps, the fold keeps. -/
theorem foldl_keeps {α β : Type} (f : State → β) (g : State → α → State) (h : ∀ t x, f (g t x) = f t) (l : List α)
    (s : State) : f (l.foldl g s) = f s := by
  induction l generalizing s with
  | nil => rfl
  | cons x l ih => rw [List.foldl_cons, ih, h]

/-! ### Shared operations -/

@[simp] theorem State.modifyKiln_frame (k : KilnNo) (f : KilnRecord → KilnRecord) :
    (s.modifyKiln k f).power = s.power ∧ (s.modifyKiln k f).species = s.species ∧ (s.modifyKiln k f).schedules =
    s.schedules ∧ (s.modifyKiln k f).charges = s.charges ∧ (s.modifyKiln k f).ports = s.ports ∧ (s.modifyKiln k
    f).reports = s.reports ∧ (s.modifyKiln k f).assignments = s.assignments ∧ (s.modifyKiln k f).presence =
    s.presence ∧ (s.modifyKiln k f).sweeps = s.sweeps ∧ (s.modifyKiln k f).line = s.line ∧ (s.modifyKiln k
    f).bays = s.bays ∧ (s.modifyKiln k f).packs = s.packs ∧ (s.modifyKiln k f).label = s.label ∧ (s.modifyKiln k
    f).minuteCount = s.minuteCount ∧ (s.modifyKiln k f).backup = s.backup ∧ (s.modifyKiln k f).notices =
    s.notices ∧ (s.modifyKiln k f).link = s.link ∧ (s.modifyKiln k f).pending = s.pending := by
  simp [State.modifyKiln]

@[simp] theorem State.modifyPort_frame (p : PortNo) (f : PortRecord → PortRecord) :
    (s.modifyPort p f).power = s.power ∧ (s.modifyPort p f).species = s.species ∧ (s.modifyPort p f).schedules =
    s.schedules ∧ (s.modifyPort p f).charges = s.charges ∧ (s.modifyPort p f).kilns = s.kilns ∧ (s.modifyPort p
    f).reports = s.reports ∧ (s.modifyPort p f).assignments = s.assignments ∧ (s.modifyPort p f).presence =
    s.presence ∧ (s.modifyPort p f).sweeps = s.sweeps ∧ (s.modifyPort p f).line = s.line ∧ (s.modifyPort p
    f).bays = s.bays ∧ (s.modifyPort p f).packs = s.packs ∧ (s.modifyPort p f).label = s.label ∧ (s.modifyPort p
    f).minuteCount = s.minuteCount ∧ (s.modifyPort p f).backup = s.backup ∧ (s.modifyPort p f).notices =
    s.notices ∧ (s.modifyPort p f).link = s.link ∧ (s.modifyPort p f).pending = s.pending := by
  simp [State.modifyPort]

@[simp] theorem State.modifySweep_frame (k : KilnNo) (f : SweepRecord → SweepRecord) :
    (s.modifySweep k f).power = s.power ∧ (s.modifySweep k f).species = s.species ∧ (s.modifySweep k
    f).schedules = s.schedules ∧ (s.modifySweep k f).charges = s.charges ∧ (s.modifySweep k f).kilns = s.kilns ∧
    (s.modifySweep k f).ports = s.ports ∧ (s.modifySweep k f).reports = s.reports ∧ (s.modifySweep k
    f).assignments = s.assignments ∧ (s.modifySweep k f).presence = s.presence ∧ (s.modifySweep k f).line =
    s.line ∧ (s.modifySweep k f).bays = s.bays ∧ (s.modifySweep k f).packs = s.packs ∧ (s.modifySweep k f).label
    = s.label ∧ (s.modifySweep k f).minuteCount = s.minuteCount ∧ (s.modifySweep k f).backup = s.backup ∧
    (s.modifySweep k f).notices = s.notices ∧ (s.modifySweep k f).link = s.link ∧ (s.modifySweep k f).pending =
    s.pending := by
  simp [State.modifySweep]

@[simp] theorem State.modifyBay_frame (b : BayNo) (f : Bay → Bay) :
    (s.modifyBay b f).power = s.power ∧ (s.modifyBay b f).species = s.species ∧ (s.modifyBay b f).schedules =
    s.schedules ∧ (s.modifyBay b f).charges = s.charges ∧ (s.modifyBay b f).kilns = s.kilns ∧ (s.modifyBay b
    f).ports = s.ports ∧ (s.modifyBay b f).reports = s.reports ∧ (s.modifyBay b f).assignments = s.assignments ∧
    (s.modifyBay b f).presence = s.presence ∧ (s.modifyBay b f).sweeps = s.sweeps ∧ (s.modifyBay b f).line =
    s.line ∧ (s.modifyBay b f).packs = s.packs ∧ (s.modifyBay b f).label = s.label ∧ (s.modifyBay b
    f).minuteCount = s.minuteCount ∧ (s.modifyBay b f).backup = s.backup ∧ (s.modifyBay b f).notices = s.notices
    ∧ (s.modifyBay b f).link = s.link ∧ (s.modifyBay b f).pending = s.pending := by
  simp [State.modifyBay]

@[simp] theorem State.postKilnFault_frame (k : KilnNo) :
    (s.postKilnFault k).power = s.power ∧ (s.postKilnFault k).species = s.species ∧ (s.postKilnFault
    k).schedules = s.schedules ∧ (s.postKilnFault k).charges = s.charges ∧ (s.postKilnFault k).kilns = s.kilns ∧
    (s.postKilnFault k).ports = s.ports ∧ (s.postKilnFault k).reports = s.reports ∧ (s.postKilnFault
    k).assignments = s.assignments ∧ (s.postKilnFault k).presence = s.presence ∧ (s.postKilnFault k).sweeps =
    s.sweeps ∧ (s.postKilnFault k).line = s.line ∧ (s.postKilnFault k).bays = s.bays ∧ (s.postKilnFault k).packs
    = s.packs ∧ (s.postKilnFault k).label = s.label ∧ (s.postKilnFault k).minuteCount = s.minuteCount ∧
    (s.postKilnFault k).backup = s.backup ∧ (s.postKilnFault k).link = s.link ∧ (s.postKilnFault k).pending =
    s.pending := by
  simp [State.postKilnFault]

@[simp] theorem State.postRecovery_frame (k : KilnNo) :
    (s.postRecovery k).power = s.power ∧ (s.postRecovery k).species = s.species ∧ (s.postRecovery k).schedules =
    s.schedules ∧ (s.postRecovery k).charges = s.charges ∧ (s.postRecovery k).kilns = s.kilns ∧ (s.postRecovery
    k).ports = s.ports ∧ (s.postRecovery k).reports = s.reports ∧ (s.postRecovery k).assignments = s.assignments
    ∧ (s.postRecovery k).presence = s.presence ∧ (s.postRecovery k).sweeps = s.sweeps ∧ (s.postRecovery k).line
    = s.line ∧ (s.postRecovery k).bays = s.bays ∧ (s.postRecovery k).packs = s.packs ∧ (s.postRecovery k).label
    = s.label ∧ (s.postRecovery k).minuteCount = s.minuteCount ∧ (s.postRecovery k).backup = s.backup ∧
    (s.postRecovery k).link = s.link ∧ (s.postRecovery k).pending = s.pending := by
  simp [State.postRecovery]

@[simp] theorem State.postLineStop_frame (cause : StopCause) :
    (s.postLineStop cause).power = s.power ∧ (s.postLineStop cause).species = s.species ∧ (s.postLineStop
    cause).schedules = s.schedules ∧ (s.postLineStop cause).charges = s.charges ∧ (s.postLineStop cause).kilns =
    s.kilns ∧ (s.postLineStop cause).ports = s.ports ∧ (s.postLineStop cause).reports = s.reports ∧
    (s.postLineStop cause).assignments = s.assignments ∧ (s.postLineStop cause).presence = s.presence ∧
    (s.postLineStop cause).sweeps = s.sweeps ∧ (s.postLineStop cause).line = s.line ∧ (s.postLineStop
    cause).bays = s.bays ∧ (s.postLineStop cause).packs = s.packs ∧ (s.postLineStop cause).label = s.label ∧
    (s.postLineStop cause).minuteCount = s.minuteCount ∧ (s.postLineStop cause).backup = s.backup ∧
    (s.postLineStop cause).link = s.link ∧ (s.postLineStop cause).pending = s.pending := by
  simp [State.postLineStop]

@[simp] theorem State.postLabelFault_frame (b : BayNo) :
    (s.postLabelFault b).power = s.power ∧ (s.postLabelFault b).species = s.species ∧ (s.postLabelFault
    b).schedules = s.schedules ∧ (s.postLabelFault b).charges = s.charges ∧ (s.postLabelFault b).kilns = s.kilns
    ∧ (s.postLabelFault b).ports = s.ports ∧ (s.postLabelFault b).reports = s.reports ∧ (s.postLabelFault
    b).assignments = s.assignments ∧ (s.postLabelFault b).presence = s.presence ∧ (s.postLabelFault b).sweeps =
    s.sweeps ∧ (s.postLabelFault b).line = s.line ∧ (s.postLabelFault b).bays = s.bays ∧ (s.postLabelFault
    b).packs = s.packs ∧ (s.postLabelFault b).label = s.label ∧ (s.postLabelFault b).minuteCount = s.minuteCount
    ∧ (s.postLabelFault b).backup = s.backup ∧ (s.postLabelFault b).link = s.link ∧ (s.postLabelFault b).pending
    = s.pending := by
  simp [State.postLabelFault]

@[simp] theorem State.postPortDown_frame (p : PortNo) :
    (s.postPortDown p).power = s.power ∧ (s.postPortDown p).species = s.species ∧ (s.postPortDown p).schedules =
    s.schedules ∧ (s.postPortDown p).charges = s.charges ∧ (s.postPortDown p).kilns = s.kilns ∧ (s.postPortDown
    p).ports = s.ports ∧ (s.postPortDown p).reports = s.reports ∧ (s.postPortDown p).assignments = s.assignments
    ∧ (s.postPortDown p).presence = s.presence ∧ (s.postPortDown p).sweeps = s.sweeps ∧ (s.postPortDown p).line
    = s.line ∧ (s.postPortDown p).bays = s.bays ∧ (s.postPortDown p).packs = s.packs ∧ (s.postPortDown p).label
    = s.label ∧ (s.postPortDown p).minuteCount = s.minuteCount ∧ (s.postPortDown p).backup = s.backup ∧
    (s.postPortDown p).link = s.link ∧ (s.postPortDown p).pending = s.pending := by
  simp [State.postPortDown]

@[simp] theorem State.postProbeChange_frame (k : KilnNo) :
    (s.postProbeChange k).power = s.power ∧ (s.postProbeChange k).species = s.species ∧ (s.postProbeChange
    k).schedules = s.schedules ∧ (s.postProbeChange k).charges = s.charges ∧ (s.postProbeChange k).kilns =
    s.kilns ∧ (s.postProbeChange k).ports = s.ports ∧ (s.postProbeChange k).reports = s.reports ∧
    (s.postProbeChange k).assignments = s.assignments ∧ (s.postProbeChange k).presence = s.presence ∧
    (s.postProbeChange k).sweeps = s.sweeps ∧ (s.postProbeChange k).line = s.line ∧ (s.postProbeChange k).bays =
    s.bays ∧ (s.postProbeChange k).packs = s.packs ∧ (s.postProbeChange k).label = s.label ∧ (s.postProbeChange
    k).minuteCount = s.minuteCount ∧ (s.postProbeChange k).backup = s.backup ∧ (s.postProbeChange k).link =
    s.link ∧ (s.postProbeChange k).pending = s.pending := by
  simp [State.postProbeChange]

@[simp] theorem State.postKilnStep_frame (k : KilnNo) (overtime : Bool) :
    (s.postKilnStep k overtime).power = s.power ∧ (s.postKilnStep k overtime).species = s.species ∧
    (s.postKilnStep k overtime).schedules = s.schedules ∧ (s.postKilnStep k overtime).charges = s.charges ∧
    (s.postKilnStep k overtime).kilns = s.kilns ∧ (s.postKilnStep k overtime).ports = s.ports ∧ (s.postKilnStep
    k overtime).reports = s.reports ∧ (s.postKilnStep k overtime).assignments = s.assignments ∧ (s.postKilnStep
    k overtime).presence = s.presence ∧ (s.postKilnStep k overtime).sweeps = s.sweeps ∧ (s.postKilnStep k
    overtime).line = s.line ∧ (s.postKilnStep k overtime).bays = s.bays ∧ (s.postKilnStep k overtime).packs =
    s.packs ∧ (s.postKilnStep k overtime).label = s.label ∧ (s.postKilnStep k overtime).minuteCount =
    s.minuteCount ∧ (s.postKilnStep k overtime).backup = s.backup ∧ (s.postKilnStep k overtime).link = s.link ∧
    (s.postKilnStep k overtime).pending = s.pending := by
  simp [State.postKilnStep]

@[simp] theorem State.postChargeDried_frame (k : KilnNo) :
    (s.postChargeDried k).power = s.power ∧ (s.postChargeDried k).species = s.species ∧ (s.postChargeDried
    k).schedules = s.schedules ∧ (s.postChargeDried k).charges = s.charges ∧ (s.postChargeDried k).kilns =
    s.kilns ∧ (s.postChargeDried k).ports = s.ports ∧ (s.postChargeDried k).reports = s.reports ∧
    (s.postChargeDried k).assignments = s.assignments ∧ (s.postChargeDried k).presence = s.presence ∧
    (s.postChargeDried k).sweeps = s.sweeps ∧ (s.postChargeDried k).line = s.line ∧ (s.postChargeDried k).bays =
    s.bays ∧ (s.postChargeDried k).packs = s.packs ∧ (s.postChargeDried k).label = s.label ∧ (s.postChargeDried
    k).minuteCount = s.minuteCount ∧ (s.postChargeDried k).backup = s.backup ∧ (s.postChargeDried k).link =
    s.link ∧ (s.postChargeDried k).pending = s.pending := by
  simp [State.postChargeDried]

@[simp] theorem State.postPackReady_frame :
    (s.postPackReady).power = s.power ∧ (s.postPackReady).species = s.species ∧ (s.postPackReady).schedules =
    s.schedules ∧ (s.postPackReady).charges = s.charges ∧ (s.postPackReady).kilns = s.kilns ∧
    (s.postPackReady).ports = s.ports ∧ (s.postPackReady).reports = s.reports ∧ (s.postPackReady).assignments =
    s.assignments ∧ (s.postPackReady).presence = s.presence ∧ (s.postPackReady).sweeps = s.sweeps ∧
    (s.postPackReady).line = s.line ∧ (s.postPackReady).bays = s.bays ∧ (s.postPackReady).packs = s.packs ∧
    (s.postPackReady).label = s.label ∧ (s.postPackReady).minuteCount = s.minuteCount ∧ (s.postPackReady).backup
    = s.backup ∧ (s.postPackReady).link = s.link ∧ (s.postPackReady).pending = s.pending := by
  simp [State.postPackReady]

@[simp] theorem State.postMoistureInvalid_frame (k : KilnNo) :
    (s.postMoistureInvalid k).power = s.power ∧ (s.postMoistureInvalid k).species = s.species ∧
    (s.postMoistureInvalid k).schedules = s.schedules ∧ (s.postMoistureInvalid k).charges = s.charges ∧
    (s.postMoistureInvalid k).kilns = s.kilns ∧ (s.postMoistureInvalid k).ports = s.ports ∧
    (s.postMoistureInvalid k).reports = s.reports ∧ (s.postMoistureInvalid k).assignments = s.assignments ∧
    (s.postMoistureInvalid k).presence = s.presence ∧ (s.postMoistureInvalid k).sweeps = s.sweeps ∧
    (s.postMoistureInvalid k).line = s.line ∧ (s.postMoistureInvalid k).bays = s.bays ∧ (s.postMoistureInvalid
    k).packs = s.packs ∧ (s.postMoistureInvalid k).label = s.label ∧ (s.postMoistureInvalid k).minuteCount =
    s.minuteCount ∧ (s.postMoistureInvalid k).backup = s.backup ∧ (s.postMoistureInvalid k).link = s.link ∧
    (s.postMoistureInvalid k).pending = s.pending := by
  simp [State.postMoistureInvalid]

@[simp] theorem State.postClockInvalid_frame :
    (s.postClockInvalid).power = s.power ∧ (s.postClockInvalid).species = s.species ∧
    (s.postClockInvalid).schedules = s.schedules ∧ (s.postClockInvalid).charges = s.charges ∧
    (s.postClockInvalid).kilns = s.kilns ∧ (s.postClockInvalid).ports = s.ports ∧ (s.postClockInvalid).reports =
    s.reports ∧ (s.postClockInvalid).assignments = s.assignments ∧ (s.postClockInvalid).presence = s.presence ∧
    (s.postClockInvalid).sweeps = s.sweeps ∧ (s.postClockInvalid).line = s.line ∧ (s.postClockInvalid).bays =
    s.bays ∧ (s.postClockInvalid).packs = s.packs ∧ (s.postClockInvalid).label = s.label ∧
    (s.postClockInvalid).minuteCount = s.minuteCount ∧ (s.postClockInvalid).backup = s.backup ∧
    (s.postClockInvalid).link = s.link ∧ (s.postClockInvalid).pending = s.pending := by
  simp [State.postClockInvalid]

@[simp] theorem State.writeSnapshot_frame (k : KilnNo) :
    (s.writeSnapshot k).power = s.power ∧ (s.writeSnapshot k).species = s.species ∧ (s.writeSnapshot
    k).schedules = s.schedules ∧ (s.writeSnapshot k).charges = s.charges ∧ (s.writeSnapshot k).kilns = s.kilns ∧
    (s.writeSnapshot k).ports = s.ports ∧ (s.writeSnapshot k).reports = s.reports ∧ (s.writeSnapshot
    k).assignments = s.assignments ∧ (s.writeSnapshot k).presence = s.presence ∧ (s.writeSnapshot k).sweeps =
    s.sweeps ∧ (s.writeSnapshot k).line = s.line ∧ (s.writeSnapshot k).bays = s.bays ∧ (s.writeSnapshot k).packs
    = s.packs ∧ (s.writeSnapshot k).label = s.label ∧ (s.writeSnapshot k).minuteCount = s.minuteCount ∧
    (s.writeSnapshot k).notices = s.notices ∧ (s.writeSnapshot k).link = s.link ∧ (s.writeSnapshot k).pending =
    s.pending := by
  unfold State.writeSnapshot
  (repeat' split) <;> simp

/-! ### The supervisory link -/

@[simp] theorem State.compose_frame (busy : Bool) (payload : List Octet) :
    (s.compose busy payload).power = s.power ∧ (s.compose busy payload).species = s.species ∧ (s.compose busy
    payload).schedules = s.schedules ∧ (s.compose busy payload).charges = s.charges ∧ (s.compose busy
    payload).kilns = s.kilns ∧ (s.compose busy payload).ports = s.ports ∧ (s.compose busy payload).reports =
    s.reports ∧ (s.compose busy payload).assignments = s.assignments ∧ (s.compose busy payload).presence =
    s.presence ∧ (s.compose busy payload).sweeps = s.sweeps ∧ (s.compose busy payload).line = s.line ∧
    (s.compose busy payload).bays = s.bays ∧ (s.compose busy payload).packs = s.packs ∧ (s.compose busy
    payload).label = s.label ∧ (s.compose busy payload).minuteCount = s.minuteCount ∧ (s.compose busy
    payload).backup = s.backup ∧ (s.compose busy payload).notices = s.notices ∧ (s.compose busy payload).pending
    = s.pending := by
  simp [State.compose]

@[simp] theorem State.holdRequest_frame (kind : Octet) (request : Option Instr) (answered : Bool) :
    (s.holdRequest kind request answered).power = s.power ∧ (s.holdRequest kind request answered).species =
    s.species ∧ (s.holdRequest kind request answered).schedules = s.schedules ∧ (s.holdRequest kind request
    answered).charges = s.charges ∧ (s.holdRequest kind request answered).kilns = s.kilns ∧ (s.holdRequest kind
    request answered).ports = s.ports ∧ (s.holdRequest kind request answered).reports = s.reports ∧
    (s.holdRequest kind request answered).assignments = s.assignments ∧ (s.holdRequest kind request
    answered).presence = s.presence ∧ (s.holdRequest kind request answered).sweeps = s.sweeps ∧ (s.holdRequest
    kind request answered).line = s.line ∧ (s.holdRequest kind request answered).bays = s.bays ∧ (s.holdRequest
    kind request answered).packs = s.packs ∧ (s.holdRequest kind request answered).label = s.label ∧
    (s.holdRequest kind request answered).minuteCount = s.minuteCount ∧ (s.holdRequest kind request
    answered).backup = s.backup ∧ (s.holdRequest kind request answered).notices = s.notices ∧ (s.holdRequest
    kind request answered).pending = s.pending := by
  simp [State.holdRequest]

@[simp] theorem State.answerOk_frame (kind : Octet) (content : List Octet) :
    (s.answerOk kind content).power = s.power ∧ (s.answerOk kind content).species = s.species ∧ (s.answerOk kind
    content).schedules = s.schedules ∧ (s.answerOk kind content).charges = s.charges ∧ (s.answerOk kind
    content).kilns = s.kilns ∧ (s.answerOk kind content).ports = s.ports ∧ (s.answerOk kind content).reports =
    s.reports ∧ (s.answerOk kind content).assignments = s.assignments ∧ (s.answerOk kind content).presence =
    s.presence ∧ (s.answerOk kind content).sweeps = s.sweeps ∧ (s.answerOk kind content).line = s.line ∧
    (s.answerOk kind content).bays = s.bays ∧ (s.answerOk kind content).packs = s.packs ∧ (s.answerOk kind
    content).label = s.label ∧ (s.answerOk kind content).minuteCount = s.minuteCount ∧ (s.answerOk kind
    content).backup = s.backup ∧ (s.answerOk kind content).notices = s.notices ∧ (s.answerOk kind
    content).pending = s.pending := by
  unfold State.answerOk
  (repeat' split) <;> simp

@[simp] theorem State.answerRefused_frame (kind : Octet) (status : Status) :
    (s.answerRefused kind status).power = s.power ∧ (s.answerRefused kind status).species = s.species ∧
    (s.answerRefused kind status).schedules = s.schedules ∧ (s.answerRefused kind status).charges = s.charges ∧
    (s.answerRefused kind status).kilns = s.kilns ∧ (s.answerRefused kind status).ports = s.ports ∧
    (s.answerRefused kind status).reports = s.reports ∧ (s.answerRefused kind status).assignments =
    s.assignments ∧ (s.answerRefused kind status).presence = s.presence ∧ (s.answerRefused kind status).sweeps =
    s.sweeps ∧ (s.answerRefused kind status).line = s.line ∧ (s.answerRefused kind status).bays = s.bays ∧
    (s.answerRefused kind status).packs = s.packs ∧ (s.answerRefused kind status).label = s.label ∧
    (s.answerRefused kind status).minuteCount = s.minuteCount ∧ (s.answerRefused kind status).backup = s.backup
    ∧ (s.answerRefused kind status).notices = s.notices ∧ (s.answerRefused kind status).pending = s.pending := by
  simp [State.answerRefused]

@[simp] theorem State.refuseBusy_frame (kind : Octet) :
    (s.refuseBusy kind).power = s.power ∧ (s.refuseBusy kind).species = s.species ∧ (s.refuseBusy
    kind).schedules = s.schedules ∧ (s.refuseBusy kind).charges = s.charges ∧ (s.refuseBusy kind).kilns =
    s.kilns ∧ (s.refuseBusy kind).ports = s.ports ∧ (s.refuseBusy kind).reports = s.reports ∧ (s.refuseBusy
    kind).assignments = s.assignments ∧ (s.refuseBusy kind).presence = s.presence ∧ (s.refuseBusy kind).sweeps =
    s.sweeps ∧ (s.refuseBusy kind).line = s.line ∧ (s.refuseBusy kind).bays = s.bays ∧ (s.refuseBusy kind).packs
    = s.packs ∧ (s.refuseBusy kind).label = s.label ∧ (s.refuseBusy kind).minuteCount = s.minuteCount ∧
    (s.refuseBusy kind).backup = s.backup ∧ (s.refuseBusy kind).notices = s.notices ∧ (s.refuseBusy
    kind).pending = s.pending := by
  unfold State.refuseBusy
  (repeat' split) <;> simp

@[simp] theorem State.handOn_frame (payload : List Octet) :
    (s.handOn payload).power = s.power ∧ (s.handOn payload).species = s.species ∧ (s.handOn payload).schedules =
    s.schedules ∧ (s.handOn payload).charges = s.charges ∧ (s.handOn payload).kilns = s.kilns ∧ (s.handOn
    payload).ports = s.ports ∧ (s.handOn payload).reports = s.reports ∧ (s.handOn payload).assignments =
    s.assignments ∧ (s.handOn payload).presence = s.presence ∧ (s.handOn payload).sweeps = s.sweeps ∧ (s.handOn
    payload).line = s.line ∧ (s.handOn payload).bays = s.bays ∧ (s.handOn payload).packs = s.packs ∧ (s.handOn
    payload).label = s.label ∧ (s.handOn payload).minuteCount = s.minuteCount ∧ (s.handOn payload).backup =
    s.backup ∧ (s.handOn payload).notices = s.notices ∧ (s.handOn payload).pending = s.pending := by
  unfold State.handOn
  (repeat' split) <;> simp

@[simp] theorem State.discardFrame_frame (next : Receiver) :
    (s.discardFrame next).power = s.power ∧ (s.discardFrame next).species = s.species ∧ (s.discardFrame
    next).schedules = s.schedules ∧ (s.discardFrame next).charges = s.charges ∧ (s.discardFrame next).kilns =
    s.kilns ∧ (s.discardFrame next).ports = s.ports ∧ (s.discardFrame next).reports = s.reports ∧
    (s.discardFrame next).assignments = s.assignments ∧ (s.discardFrame next).presence = s.presence ∧
    (s.discardFrame next).sweeps = s.sweeps ∧ (s.discardFrame next).line = s.line ∧ (s.discardFrame next).bays =
    s.bays ∧ (s.discardFrame next).packs = s.packs ∧ (s.discardFrame next).label = s.label ∧ (s.discardFrame
    next).minuteCount = s.minuteCount ∧ (s.discardFrame next).backup = s.backup ∧ (s.discardFrame next).notices
    = s.notices ∧ (s.discardFrame next).pending = s.pending := by
  simp [State.discardFrame]

@[simp] theorem State.receiveFrameOctet_frame (octets : List Octet) (octet : Octet) :
    (s.receiveFrameOctet octets octet).power = s.power ∧ (s.receiveFrameOctet octets octet).species = s.species
    ∧ (s.receiveFrameOctet octets octet).schedules = s.schedules ∧ (s.receiveFrameOctet octets octet).charges =
    s.charges ∧ (s.receiveFrameOctet octets octet).kilns = s.kilns ∧ (s.receiveFrameOctet octets octet).ports =
    s.ports ∧ (s.receiveFrameOctet octets octet).reports = s.reports ∧ (s.receiveFrameOctet octets
    octet).assignments = s.assignments ∧ (s.receiveFrameOctet octets octet).presence = s.presence ∧
    (s.receiveFrameOctet octets octet).sweeps = s.sweeps ∧ (s.receiveFrameOctet octets octet).line = s.line ∧
    (s.receiveFrameOctet octets octet).bays = s.bays ∧ (s.receiveFrameOctet octets octet).packs = s.packs ∧
    (s.receiveFrameOctet octets octet).label = s.label ∧ (s.receiveFrameOctet octets octet).minuteCount =
    s.minuteCount ∧ (s.receiveFrameOctet octets octet).backup = s.backup ∧ (s.receiveFrameOctet octets
    octet).notices = s.notices ∧ (s.receiveFrameOctet octets octet).pending = s.pending := by
  unfold State.receiveFrameOctet
  dsimp only
  (repeat' split) <;> simp

@[simp] theorem State.receiveLinkOctet_frame (octet : Octet) (framingError : Bool) :
    (s.receiveLinkOctet octet framingError).power = s.power ∧ (s.receiveLinkOctet octet framingError).species =
    s.species ∧ (s.receiveLinkOctet octet framingError).schedules = s.schedules ∧ (s.receiveLinkOctet octet
    framingError).charges = s.charges ∧ (s.receiveLinkOctet octet framingError).kilns = s.kilns ∧
    (s.receiveLinkOctet octet framingError).ports = s.ports ∧ (s.receiveLinkOctet octet framingError).reports =
    s.reports ∧ (s.receiveLinkOctet octet framingError).assignments = s.assignments ∧ (s.receiveLinkOctet octet
    framingError).presence = s.presence ∧ (s.receiveLinkOctet octet framingError).sweeps = s.sweeps ∧
    (s.receiveLinkOctet octet framingError).line = s.line ∧ (s.receiveLinkOctet octet framingError).bays =
    s.bays ∧ (s.receiveLinkOctet octet framingError).packs = s.packs ∧ (s.receiveLinkOctet octet
    framingError).label = s.label ∧ (s.receiveLinkOctet octet framingError).minuteCount = s.minuteCount ∧
    (s.receiveLinkOctet octet framingError).backup = s.backup ∧ (s.receiveLinkOctet octet framingError).notices
    = s.notices ∧ (s.receiveLinkOctet octet framingError).pending = s.pending := by
  unfold State.receiveLinkOctet
  dsimp only
  (repeat' split) <;> simp

@[simp] theorem State.linkSilence_frame :
    (s.linkSilence).power = s.power ∧ (s.linkSilence).species = s.species ∧ (s.linkSilence).schedules =
    s.schedules ∧ (s.linkSilence).charges = s.charges ∧ (s.linkSilence).kilns = s.kilns ∧ (s.linkSilence).ports
    = s.ports ∧ (s.linkSilence).reports = s.reports ∧ (s.linkSilence).assignments = s.assignments ∧
    (s.linkSilence).presence = s.presence ∧ (s.linkSilence).sweeps = s.sweeps ∧ (s.linkSilence).line = s.line ∧
    (s.linkSilence).bays = s.bays ∧ (s.linkSilence).packs = s.packs ∧ (s.linkSilence).label = s.label ∧
    (s.linkSilence).minuteCount = s.minuteCount ∧ (s.linkSilence).backup = s.backup ∧ (s.linkSilence).notices =
    s.notices ∧ (s.linkSilence).pending = s.pending := by
  unfold State.linkSilence
  dsimp only
  (repeat' split) <;> simp

/-! ### The charge table -/

@[simp] theorem State.writeChargeCounter_frame (number : Nat) :
    (s.writeChargeCounter number).power = s.power ∧ (s.writeChargeCounter number).species = s.species ∧
    (s.writeChargeCounter number).schedules = s.schedules ∧ (s.writeChargeCounter number).charges = s.charges ∧
    (s.writeChargeCounter number).kilns = s.kilns ∧ (s.writeChargeCounter number).ports = s.ports ∧
    (s.writeChargeCounter number).reports = s.reports ∧ (s.writeChargeCounter number).assignments =
    s.assignments ∧ (s.writeChargeCounter number).presence = s.presence ∧ (s.writeChargeCounter number).sweeps =
    s.sweeps ∧ (s.writeChargeCounter number).line = s.line ∧ (s.writeChargeCounter number).bays = s.bays ∧
    (s.writeChargeCounter number).packs = s.packs ∧ (s.writeChargeCounter number).label = s.label ∧
    (s.writeChargeCounter number).minuteCount = s.minuteCount ∧ (s.writeChargeCounter number).notices =
    s.notices ∧ (s.writeChargeCounter number).link = s.link ∧ (s.writeChargeCounter number).pending = s.pending := by
  simp [State.writeChargeCounter]

@[simp] theorem State.addCharge_frame (c : Charge) :
    (s.addCharge c).power = s.power ∧ (s.addCharge c).species = s.species ∧ (s.addCharge c).schedules =
    s.schedules ∧ (s.addCharge c).kilns = s.kilns ∧ (s.addCharge c).ports = s.ports ∧ (s.addCharge c).reports =
    s.reports ∧ (s.addCharge c).assignments = s.assignments ∧ (s.addCharge c).presence = s.presence ∧
    (s.addCharge c).sweeps = s.sweeps ∧ (s.addCharge c).line = s.line ∧ (s.addCharge c).bays = s.bays ∧
    (s.addCharge c).packs = s.packs ∧ (s.addCharge c).label = s.label ∧ (s.addCharge c).minuteCount =
    s.minuteCount ∧ (s.addCharge c).backup = s.backup ∧ (s.addCharge c).notices = s.notices ∧ (s.addCharge
    c).link = s.link ∧ (s.addCharge c).pending = s.pending := by
  simp [State.addCharge]

@[simp] theorem State.stageCharge_frame (number : Nat) :
    (s.stageCharge number).power = s.power ∧ (s.stageCharge number).species = s.species ∧ (s.stageCharge
    number).schedules = s.schedules ∧ (s.stageCharge number).kilns = s.kilns ∧ (s.stageCharge number).ports =
    s.ports ∧ (s.stageCharge number).reports = s.reports ∧ (s.stageCharge number).assignments = s.assignments ∧
    (s.stageCharge number).presence = s.presence ∧ (s.stageCharge number).sweeps = s.sweeps ∧ (s.stageCharge
    number).line = s.line ∧ (s.stageCharge number).bays = s.bays ∧ (s.stageCharge number).packs = s.packs ∧
    (s.stageCharge number).label = s.label ∧ (s.stageCharge number).minuteCount = s.minuteCount ∧ (s.stageCharge
    number).backup = s.backup ∧ (s.stageCharge number).notices = s.notices ∧ (s.stageCharge number).link =
    s.link ∧ (s.stageCharge number).pending = s.pending := by
  simp [State.stageCharge]

@[simp] theorem State.recordFinalMc_frame (number : Nat) (mc : ControllingMc) :
    (s.recordFinalMc number mc).power = s.power ∧ (s.recordFinalMc number mc).species = s.species ∧
    (s.recordFinalMc number mc).schedules = s.schedules ∧ (s.recordFinalMc number mc).kilns = s.kilns ∧
    (s.recordFinalMc number mc).ports = s.ports ∧ (s.recordFinalMc number mc).reports = s.reports ∧
    (s.recordFinalMc number mc).assignments = s.assignments ∧ (s.recordFinalMc number mc).presence = s.presence
    ∧ (s.recordFinalMc number mc).sweeps = s.sweeps ∧ (s.recordFinalMc number mc).line = s.line ∧
    (s.recordFinalMc number mc).bays = s.bays ∧ (s.recordFinalMc number mc).packs = s.packs ∧ (s.recordFinalMc
    number mc).label = s.label ∧ (s.recordFinalMc number mc).minuteCount = s.minuteCount ∧ (s.recordFinalMc
    number mc).backup = s.backup ∧ (s.recordFinalMc number mc).notices = s.notices ∧ (s.recordFinalMc number
    mc).link = s.link ∧ (s.recordFinalMc number mc).pending = s.pending := by
  simp [State.recordFinalMc]

@[simp] theorem State.settlePiece_frame (number : Nat) (fate : Fate) :
    (s.settlePiece number fate).power = s.power ∧ (s.settlePiece number fate).species = s.species ∧
    (s.settlePiece number fate).schedules = s.schedules ∧ (s.settlePiece number fate).kilns = s.kilns ∧
    (s.settlePiece number fate).ports = s.ports ∧ (s.settlePiece number fate).reports = s.reports ∧
    (s.settlePiece number fate).assignments = s.assignments ∧ (s.settlePiece number fate).presence = s.presence
    ∧ (s.settlePiece number fate).sweeps = s.sweeps ∧ (s.settlePiece number fate).line = s.line ∧ (s.settlePiece
    number fate).bays = s.bays ∧ (s.settlePiece number fate).packs = s.packs ∧ (s.settlePiece number fate).label
    = s.label ∧ (s.settlePiece number fate).minuteCount = s.minuteCount ∧ (s.settlePiece number fate).backup =
    s.backup ∧ (s.settlePiece number fate).notices = s.notices ∧ (s.settlePiece number fate).link = s.link ∧
    (s.settlePiece number fate).pending = s.pending := by
  unfold State.settlePiece
  (repeat' split) <;> simp

@[simp] theorem State.addMeterReading_frame (number mc : Nat) :
    (s.addMeterReading number mc).power = s.power ∧ (s.addMeterReading number mc).species = s.species ∧
    (s.addMeterReading number mc).schedules = s.schedules ∧ (s.addMeterReading number mc).kilns = s.kilns ∧
    (s.addMeterReading number mc).ports = s.ports ∧ (s.addMeterReading number mc).reports = s.reports ∧
    (s.addMeterReading number mc).assignments = s.assignments ∧ (s.addMeterReading number mc).presence =
    s.presence ∧ (s.addMeterReading number mc).sweeps = s.sweeps ∧ (s.addMeterReading number mc).line = s.line ∧
    (s.addMeterReading number mc).bays = s.bays ∧ (s.addMeterReading number mc).packs = s.packs ∧
    (s.addMeterReading number mc).label = s.label ∧ (s.addMeterReading number mc).minuteCount = s.minuteCount ∧
    (s.addMeterReading number mc).backup = s.backup ∧ (s.addMeterReading number mc).notices = s.notices ∧
    (s.addMeterReading number mc).link = s.link ∧ (s.addMeterReading number mc).pending = s.pending := by
  unfold State.addMeterReading
  (repeat' split) <;> simp

@[simp] theorem State.addReference_frame (number : Nat) :
    (s.addReference number).power = s.power ∧ (s.addReference number).species = s.species ∧ (s.addReference
    number).schedules = s.schedules ∧ (s.addReference number).kilns = s.kilns ∧ (s.addReference number).ports =
    s.ports ∧ (s.addReference number).reports = s.reports ∧ (s.addReference number).assignments = s.assignments
    ∧ (s.addReference number).presence = s.presence ∧ (s.addReference number).sweeps = s.sweeps ∧
    (s.addReference number).line = s.line ∧ (s.addReference number).bays = s.bays ∧ (s.addReference
    number).packs = s.packs ∧ (s.addReference number).label = s.label ∧ (s.addReference number).minuteCount =
    s.minuteCount ∧ (s.addReference number).backup = s.backup ∧ (s.addReference number).notices = s.notices ∧
    (s.addReference number).link = s.link ∧ (s.addReference number).pending = s.pending := by
  simp [State.addReference]

@[simp] theorem State.dropReference_frame (number : Nat) :
    (s.dropReference number).power = s.power ∧ (s.dropReference number).species = s.species ∧ (s.dropReference
    number).schedules = s.schedules ∧ (s.dropReference number).kilns = s.kilns ∧ (s.dropReference number).ports
    = s.ports ∧ (s.dropReference number).reports = s.reports ∧ (s.dropReference number).assignments =
    s.assignments ∧ (s.dropReference number).presence = s.presence ∧ (s.dropReference number).sweeps = s.sweeps
    ∧ (s.dropReference number).line = s.line ∧ (s.dropReference number).bays = s.bays ∧ (s.dropReference
    number).packs = s.packs ∧ (s.dropReference number).label = s.label ∧ (s.dropReference number).minuteCount =
    s.minuteCount ∧ (s.dropReference number).backup = s.backup ∧ (s.dropReference number).notices = s.notices ∧
    (s.dropReference number).link = s.link ∧ (s.dropReference number).pending = s.pending := by
  simp [State.dropReference]

/-! ### Line-stop causes -/

@[simp] theorem State.addCause_frame (cause : StopCause) :
    (s.addCause cause).power = s.power ∧ (s.addCause cause).species = s.species ∧ (s.addCause cause).schedules =
    s.schedules ∧ (s.addCause cause).charges = s.charges ∧ (s.addCause cause).kilns = s.kilns ∧ (s.addCause
    cause).ports = s.ports ∧ (s.addCause cause).reports = s.reports ∧ (s.addCause cause).assignments =
    s.assignments ∧ (s.addCause cause).presence = s.presence ∧ (s.addCause cause).sweeps = s.sweeps ∧
    (s.addCause cause).bays = s.bays ∧ (s.addCause cause).packs = s.packs ∧ (s.addCause cause).label = s.label ∧
    (s.addCause cause).minuteCount = s.minuteCount ∧ (s.addCause cause).backup = s.backup ∧ (s.addCause
    cause).link = s.link ∧ (s.addCause cause).pending = s.pending := by
  unfold State.addCause
  (repeat' split) <;> simp

@[simp] theorem State.removeCause_frame (cause : StopCause) :
    (s.removeCause cause).power = s.power ∧ (s.removeCause cause).species = s.species ∧ (s.removeCause
    cause).schedules = s.schedules ∧ (s.removeCause cause).charges = s.charges ∧ (s.removeCause cause).kilns =
    s.kilns ∧ (s.removeCause cause).ports = s.ports ∧ (s.removeCause cause).reports = s.reports ∧ (s.removeCause
    cause).assignments = s.assignments ∧ (s.removeCause cause).presence = s.presence ∧ (s.removeCause
    cause).sweeps = s.sweeps ∧ (s.removeCause cause).bays = s.bays ∧ (s.removeCause cause).packs = s.packs ∧
    (s.removeCause cause).label = s.label ∧ (s.removeCause cause).minuteCount = s.minuteCount ∧ (s.removeCause
    cause).backup = s.backup ∧ (s.removeCause cause).notices = s.notices ∧ (s.removeCause cause).link = s.link ∧
    (s.removeCause cause).pending = s.pending := by
  simp [State.removeCause]

/-! ### The field ports -/

@[simp] theorem State.sendNext_frame (p : PortNo) :
    (s.sendNext p).power = s.power ∧ (s.sendNext p).species = s.species ∧ (s.sendNext p).schedules = s.schedules
    ∧ (s.sendNext p).charges = s.charges ∧ (s.sendNext p).kilns = s.kilns ∧ (s.sendNext p).reports = s.reports ∧
    (s.sendNext p).assignments = s.assignments ∧ (s.sendNext p).presence = s.presence ∧ (s.sendNext p).sweeps =
    s.sweeps ∧ (s.sendNext p).line = s.line ∧ (s.sendNext p).bays = s.bays ∧ (s.sendNext p).packs = s.packs ∧
    (s.sendNext p).label = s.label ∧ (s.sendNext p).minuteCount = s.minuteCount ∧ (s.sendNext p).backup =
    s.backup ∧ (s.sendNext p).notices = s.notices ∧ (s.sendNext p).link = s.link ∧ (s.sendNext p).pending =
    s.pending := by
  unfold State.sendNext
  (repeat' split) <;> simp

@[simp] theorem State.askPort_frame (p : PortNo) (w : WaitingExchange) :
    (s.askPort p w).power = s.power ∧ (s.askPort p w).species = s.species ∧ (s.askPort p w).schedules =
    s.schedules ∧ (s.askPort p w).charges = s.charges ∧ (s.askPort p w).kilns = s.kilns ∧ (s.askPort p
    w).reports = s.reports ∧ (s.askPort p w).assignments = s.assignments ∧ (s.askPort p w).presence = s.presence
    ∧ (s.askPort p w).sweeps = s.sweeps ∧ (s.askPort p w).line = s.line ∧ (s.askPort p w).bays = s.bays ∧
    (s.askPort p w).packs = s.packs ∧ (s.askPort p w).label = s.label ∧ (s.askPort p w).minuteCount =
    s.minuteCount ∧ (s.askPort p w).backup = s.backup ∧ (s.askPort p w).notices = s.notices ∧ (s.askPort p
    w).link = s.link ∧ (s.askPort p w).pending = s.pending := by
  unfold State.askPort
  (repeat' split) <;> simp

@[simp] theorem State.putPlan_frame (p : PortNo) (plan : List (Nat × ProbeCommand)) :
    (s.putPlan p plan).power = s.power ∧ (s.putPlan p plan).species = s.species ∧ (s.putPlan p plan).schedules =
    s.schedules ∧ (s.putPlan p plan).charges = s.charges ∧ (s.putPlan p plan).kilns = s.kilns ∧ (s.putPlan p
    plan).reports = s.reports ∧ (s.putPlan p plan).assignments = s.assignments ∧ (s.putPlan p plan).presence =
    s.presence ∧ (s.putPlan p plan).sweeps = s.sweeps ∧ (s.putPlan p plan).line = s.line ∧ (s.putPlan p
    plan).bays = s.bays ∧ (s.putPlan p plan).packs = s.packs ∧ (s.putPlan p plan).label = s.label ∧ (s.putPlan p
    plan).minuteCount = s.minuteCount ∧ (s.putPlan p plan).backup = s.backup ∧ (s.putPlan p plan).notices =
    s.notices ∧ (s.putPlan p plan).link = s.link ∧ (s.putPlan p plan).pending = s.pending := by
  simp [State.putPlan]

@[simp] theorem State.withdraw_frame (p : PortNo) (address : Nat) :
    (s.withdraw p address).power = s.power ∧ (s.withdraw p address).species = s.species ∧ (s.withdraw p
    address).schedules = s.schedules ∧ (s.withdraw p address).charges = s.charges ∧ (s.withdraw p address).kilns
    = s.kilns ∧ (s.withdraw p address).reports = s.reports ∧ (s.withdraw p address).assignments = s.assignments
    ∧ (s.withdraw p address).presence = s.presence ∧ (s.withdraw p address).sweeps = s.sweeps ∧ (s.withdraw p
    address).line = s.line ∧ (s.withdraw p address).bays = s.bays ∧ (s.withdraw p address).packs = s.packs ∧
    (s.withdraw p address).label = s.label ∧ (s.withdraw p address).minuteCount = s.minuteCount ∧ (s.withdraw p
    address).backup = s.backup ∧ (s.withdraw p address).notices = s.notices ∧ (s.withdraw p address).link =
    s.link ∧ (s.withdraw p address).pending = s.pending := by
  simp [State.withdraw]

@[simp] theorem State.discardSweep_frame (p : PortNo) :
    (s.discardSweep p).power = s.power ∧ (s.discardSweep p).species = s.species ∧ (s.discardSweep p).schedules =
    s.schedules ∧ (s.discardSweep p).charges = s.charges ∧ (s.discardSweep p).kilns = s.kilns ∧ (s.discardSweep
    p).reports = s.reports ∧ (s.discardSweep p).assignments = s.assignments ∧ (s.discardSweep p).presence =
    s.presence ∧ (s.discardSweep p).sweeps = s.sweeps ∧ (s.discardSweep p).line = s.line ∧ (s.discardSweep
    p).bays = s.bays ∧ (s.discardSweep p).packs = s.packs ∧ (s.discardSweep p).label = s.label ∧ (s.discardSweep
    p).minuteCount = s.minuteCount ∧ (s.discardSweep p).backup = s.backup ∧ (s.discardSweep p).notices =
    s.notices ∧ (s.discardSweep p).link = s.link ∧ (s.discardSweep p).pending = s.pending := by
  simp [State.discardSweep]

@[simp] theorem State.enterUp_frame (p : PortNo) (identity : Identity) :
    (s.enterUp p identity).power = s.power ∧ (s.enterUp p identity).species = s.species ∧ (s.enterUp p
    identity).schedules = s.schedules ∧ (s.enterUp p identity).charges = s.charges ∧ (s.enterUp p
    identity).kilns = s.kilns ∧ (s.enterUp p identity).assignments = s.assignments ∧ (s.enterUp p
    identity).presence = s.presence ∧ (s.enterUp p identity).sweeps = s.sweeps ∧ (s.enterUp p identity).line =
    s.line ∧ (s.enterUp p identity).bays = s.bays ∧ (s.enterUp p identity).packs = s.packs ∧ (s.enterUp p
    identity).label = s.label ∧ (s.enterUp p identity).minuteCount = s.minuteCount ∧ (s.enterUp p
    identity).backup = s.backup ∧ (s.enterUp p identity).notices = s.notices ∧ (s.enterUp p identity).link =
    s.link ∧ (s.enterUp p identity).pending = s.pending := by
  unfold State.enterUp
  (repeat' split) <;> simp

@[simp] theorem State.enterDown_frame (p : PortNo) :
    (s.enterDown p).power = s.power ∧ (s.enterDown p).species = s.species ∧ (s.enterDown p).schedules =
    s.schedules ∧ (s.enterDown p).charges = s.charges ∧ (s.enterDown p).kilns = s.kilns ∧ (s.enterDown
    p).reports = s.reports ∧ (s.enterDown p).assignments = s.assignments ∧ (s.enterDown p).presence = s.presence
    ∧ (s.enterDown p).sweeps = s.sweeps ∧ (s.enterDown p).line = s.line ∧ (s.enterDown p).bays = s.bays ∧
    (s.enterDown p).packs = s.packs ∧ (s.enterDown p).label = s.label ∧ (s.enterDown p).minuteCount =
    s.minuteCount ∧ (s.enterDown p).backup = s.backup ∧ (s.enterDown p).link = s.link ∧ (s.enterDown p).pending
    = s.pending := by
  simp [State.enterDown]

@[simp] theorem State.loseReadbacks_frame (k : KilnNo) :
    (s.loseReadbacks k).power = s.power ∧ (s.loseReadbacks k).species = s.species ∧ (s.loseReadbacks
    k).schedules = s.schedules ∧ (s.loseReadbacks k).charges = s.charges ∧ (s.loseReadbacks k).ports = s.ports ∧
    (s.loseReadbacks k).reports = s.reports ∧ (s.loseReadbacks k).assignments = s.assignments ∧ (s.loseReadbacks
    k).presence = s.presence ∧ (s.loseReadbacks k).sweeps = s.sweeps ∧ (s.loseReadbacks k).line = s.line ∧
    (s.loseReadbacks k).bays = s.bays ∧ (s.loseReadbacks k).packs = s.packs ∧ (s.loseReadbacks k).label =
    s.label ∧ (s.loseReadbacks k).minuteCount = s.minuteCount ∧ (s.loseReadbacks k).backup = s.backup ∧
    (s.loseReadbacks k).notices = s.notices ∧ (s.loseReadbacks k).link = s.link ∧ (s.loseReadbacks k).pending =
    s.pending := by
  simp [State.loseReadbacks]

/-- A report of leaving UP takes the validity of the readbacks of the port's kiln, and nothing else of any kiln (R4). -/
theorem State.reportLeftUp_kiln (p : PortNo) (j : KilnNo) :
    (s.reportLeftUp p).kiln j =
      if portKiln p = some j then { s.kiln j with dryValid := false, wetValid := false } else s.kiln j := by
  unfold State.reportLeftUp
  split
  · rename_i k h
    show (s.loseReadbacks k).kiln j = _
    rw [State.loseReadbacks, State.modifyKiln, State.kiln_setKiln, h]
    by_cases hk : k = j <;> simp [hk]
  · rename_i h
    rw [h]
    split <;> rfl

@[simp] theorem State.reportLeftUp_frame (p : PortNo) :
    (s.reportLeftUp p).power = s.power ∧ (s.reportLeftUp p).species = s.species ∧ (s.reportLeftUp p).schedules =
    s.schedules ∧ (s.reportLeftUp p).charges = s.charges ∧ (s.reportLeftUp p).ports = s.ports ∧ (s.reportLeftUp
    p).assignments = s.assignments ∧ (s.reportLeftUp p).presence = s.presence ∧ (s.reportLeftUp p).sweeps =
    s.sweeps ∧ (s.reportLeftUp p).line = s.line ∧ (s.reportLeftUp p).bays = s.bays ∧ (s.reportLeftUp p).packs =
    s.packs ∧ (s.reportLeftUp p).label = s.label ∧ (s.reportLeftUp p).minuteCount = s.minuteCount ∧
    (s.reportLeftUp p).backup = s.backup ∧ (s.reportLeftUp p).notices = s.notices ∧ (s.reportLeftUp p).link =
    s.link ∧ (s.reportLeftUp p).pending = s.pending := by
  unfold State.reportLeftUp
  (repeat' split) <;> simp

/-! ### The label unit -/

@[simp] theorem State.askPrint_frame (record : PackRecord) :
    (s.askPrint record).power = s.power ∧ (s.askPrint record).species = s.species ∧ (s.askPrint
    record).schedules = s.schedules ∧ (s.askPrint record).charges = s.charges ∧ (s.askPrint record).kilns =
    s.kilns ∧ (s.askPrint record).reports = s.reports ∧ (s.askPrint record).assignments = s.assignments ∧
    (s.askPrint record).presence = s.presence ∧ (s.askPrint record).sweeps = s.sweeps ∧ (s.askPrint record).line
    = s.line ∧ (s.askPrint record).bays = s.bays ∧ (s.askPrint record).packs = s.packs ∧ (s.askPrint
    record).minuteCount = s.minuteCount ∧ (s.askPrint record).backup = s.backup ∧ (s.askPrint record).notices =
    s.notices ∧ (s.askPrint record).link = s.link ∧ (s.askPrint record).pending = s.pending := by
  unfold State.askPrint
  (repeat' split) <;> simp

@[simp] theorem State.askStatus_frame :
    (s.askStatus).power = s.power ∧ (s.askStatus).species = s.species ∧ (s.askStatus).schedules = s.schedules ∧
    (s.askStatus).charges = s.charges ∧ (s.askStatus).kilns = s.kilns ∧ (s.askStatus).reports = s.reports ∧
    (s.askStatus).assignments = s.assignments ∧ (s.askStatus).presence = s.presence ∧ (s.askStatus).sweeps =
    s.sweeps ∧ (s.askStatus).line = s.line ∧ (s.askStatus).bays = s.bays ∧ (s.askStatus).packs = s.packs ∧
    (s.askStatus).minuteCount = s.minuteCount ∧ (s.askStatus).backup = s.backup ∧ (s.askStatus).notices =
    s.notices ∧ (s.askStatus).link = s.link ∧ (s.askStatus).pending = s.pending := by
  unfold State.askStatus
  (repeat' split) <;> simp

@[simp] theorem State.startCurrent_frame :
    (s.startCurrent).power = s.power ∧ (s.startCurrent).species = s.species ∧ (s.startCurrent).schedules =
    s.schedules ∧ (s.startCurrent).charges = s.charges ∧ (s.startCurrent).kilns = s.kilns ∧
    (s.startCurrent).reports = s.reports ∧ (s.startCurrent).assignments = s.assignments ∧
    (s.startCurrent).presence = s.presence ∧ (s.startCurrent).sweeps = s.sweeps ∧ (s.startCurrent).line = s.line
    ∧ (s.startCurrent).bays = s.bays ∧ (s.startCurrent).packs = s.packs ∧ (s.startCurrent).minuteCount =
    s.minuteCount ∧ (s.startCurrent).backup = s.backup ∧ (s.startCurrent).notices = s.notices ∧
    (s.startCurrent).link = s.link ∧ (s.startCurrent).pending = s.pending := by
  unfold State.startCurrent
  (repeat' split) <;> simp

@[simp] theorem State.appendJob_frame (serial : Nat) :
    (s.appendJob serial).power = s.power ∧ (s.appendJob serial).species = s.species ∧ (s.appendJob
    serial).schedules = s.schedules ∧ (s.appendJob serial).charges = s.charges ∧ (s.appendJob serial).kilns =
    s.kilns ∧ (s.appendJob serial).reports = s.reports ∧ (s.appendJob serial).assignments = s.assignments ∧
    (s.appendJob serial).presence = s.presence ∧ (s.appendJob serial).sweeps = s.sweeps ∧ (s.appendJob
    serial).line = s.line ∧ (s.appendJob serial).bays = s.bays ∧ (s.appendJob serial).packs = s.packs ∧
    (s.appendJob serial).minuteCount = s.minuteCount ∧ (s.appendJob serial).backup = s.backup ∧ (s.appendJob
    serial).notices = s.notices ∧ (s.appendJob serial).link = s.link ∧ (s.appendJob serial).pending = s.pending := by
  unfold State.appendJob
  dsimp only
  (repeat' split) <;> simp

@[simp] theorem State.freeBay_frame (record : PackRecord) :
    (s.freeBay record).power = s.power ∧ (s.freeBay record).species = s.species ∧ (s.freeBay record).schedules =
    s.schedules ∧ (s.freeBay record).kilns = s.kilns ∧ (s.freeBay record).ports = s.ports ∧ (s.freeBay
    record).reports = s.reports ∧ (s.freeBay record).assignments = s.assignments ∧ (s.freeBay record).presence =
    s.presence ∧ (s.freeBay record).sweeps = s.sweeps ∧ (s.freeBay record).line = s.line ∧ (s.freeBay
    record).packs = s.packs ∧ (s.freeBay record).label = s.label ∧ (s.freeBay record).minuteCount =
    s.minuteCount ∧ (s.freeBay record).backup = s.backup ∧ (s.freeBay record).notices = s.notices ∧ (s.freeBay
    record).link = s.link ∧ (s.freeBay record).pending = s.pending := by
  refine ⟨?_, ?_, ?_, ?_, ?_, ?_, ?_, ?_, ?_, ?_, ?_, ?_, ?_, ?_, ?_, ?_, ?_⟩
  · unfold State.freeBay; rw [foldl_keeps (·.power) _ (by intros; simp)]; simp
  · unfold State.freeBay; rw [foldl_keeps (·.species) _ (by intros; simp)]; simp
  · unfold State.freeBay; rw [foldl_keeps (·.schedules) _ (by intros; simp)]; simp
  · unfold State.freeBay; rw [foldl_keeps (·.kilns) _ (by intros; simp)]; simp
  · unfold State.freeBay; rw [foldl_keeps (·.ports) _ (by intros; simp)]; simp
  · unfold State.freeBay; rw [foldl_keeps (·.reports) _ (by intros; simp)]; simp
  · unfold State.freeBay; rw [foldl_keeps (·.assignments) _ (by intros; simp)]; simp
  · unfold State.freeBay; rw [foldl_keeps (·.presence) _ (by intros; simp)]; simp
  · unfold State.freeBay; rw [foldl_keeps (·.sweeps) _ (by intros; simp)]; simp
  · unfold State.freeBay; rw [foldl_keeps (·.line) _ (by intros; simp)]; simp
  · unfold State.freeBay; rw [foldl_keeps (·.packs) _ (by intros; simp)]; simp
  · unfold State.freeBay; rw [foldl_keeps (·.label) _ (by intros; simp)]; simp
  · unfold State.freeBay; rw [foldl_keeps (·.minuteCount) _ (by intros; simp)]; simp
  · unfold State.freeBay; rw [foldl_keeps (·.backup) _ (by intros; simp)]; simp
  · unfold State.freeBay; rw [foldl_keeps (·.notices) _ (by intros; simp)]; simp
  · unfold State.freeBay; rw [foldl_keeps (·.link) _ (by intros; simp)]; simp
  · unfold State.freeBay; rw [foldl_keeps (·.pending) _ (by intros; simp)]; simp

@[simp] theorem State.confirmLabel_frame (record : PackRecord) :
    (s.confirmLabel record).power = s.power ∧ (s.confirmLabel record).species = s.species ∧ (s.confirmLabel
    record).schedules = s.schedules ∧ (s.confirmLabel record).kilns = s.kilns ∧ (s.confirmLabel record).reports
    = s.reports ∧ (s.confirmLabel record).assignments = s.assignments ∧ (s.confirmLabel record).presence =
    s.presence ∧ (s.confirmLabel record).sweeps = s.sweeps ∧ (s.confirmLabel record).line = s.line ∧
    (s.confirmLabel record).minuteCount = s.minuteCount ∧ (s.confirmLabel record).backup = s.backup ∧
    (s.confirmLabel record).notices = s.notices ∧ (s.confirmLabel record).link = s.link ∧ (s.confirmLabel
    record).pending = s.pending := by
  simp [State.confirmLabel]

@[simp] theorem State.faultLabel_frame (record : PackRecord) (reason : LabelFaultReason) (scanBack : Option (List Octet)) :
    (s.faultLabel record reason scanBack).power = s.power ∧ (s.faultLabel record reason scanBack).species =
    s.species ∧ (s.faultLabel record reason scanBack).schedules = s.schedules ∧ (s.faultLabel record reason
    scanBack).charges = s.charges ∧ (s.faultLabel record reason scanBack).kilns = s.kilns ∧ (s.faultLabel record
    reason scanBack).reports = s.reports ∧ (s.faultLabel record reason scanBack).assignments = s.assignments ∧
    (s.faultLabel record reason scanBack).presence = s.presence ∧ (s.faultLabel record reason scanBack).sweeps =
    s.sweeps ∧ (s.faultLabel record reason scanBack).line = s.line ∧ (s.faultLabel record reason
    scanBack).minuteCount = s.minuteCount ∧ (s.faultLabel record reason scanBack).backup = s.backup ∧
    (s.faultLabel record reason scanBack).link = s.link ∧ (s.faultLabel record reason scanBack).pending =
    s.pending := by
  simp [State.faultLabel]

@[simp] theorem State.faultCurrent_frame (reason : LabelFaultReason) :
    (s.faultCurrent reason).power = s.power ∧ (s.faultCurrent reason).species = s.species ∧ (s.faultCurrent
    reason).schedules = s.schedules ∧ (s.faultCurrent reason).charges = s.charges ∧ (s.faultCurrent
    reason).kilns = s.kilns ∧ (s.faultCurrent reason).reports = s.reports ∧ (s.faultCurrent reason).assignments
    = s.assignments ∧ (s.faultCurrent reason).presence = s.presence ∧ (s.faultCurrent reason).sweeps = s.sweeps
    ∧ (s.faultCurrent reason).line = s.line ∧ (s.faultCurrent reason).minuteCount = s.minuteCount ∧
    (s.faultCurrent reason).backup = s.backup ∧ (s.faultCurrent reason).link = s.link ∧ (s.faultCurrent
    reason).pending = s.pending := by
  unfold State.faultCurrent
  (repeat' split) <;> simp

@[simp] theorem State.startPause_frame :
    (s.startPause).power = s.power ∧ (s.startPause).species = s.species ∧ (s.startPause).schedules = s.schedules
    ∧ (s.startPause).charges = s.charges ∧ (s.startPause).kilns = s.kilns ∧ (s.startPause).ports = s.ports ∧
    (s.startPause).reports = s.reports ∧ (s.startPause).assignments = s.assignments ∧ (s.startPause).presence =
    s.presence ∧ (s.startPause).sweeps = s.sweeps ∧ (s.startPause).line = s.line ∧ (s.startPause).bays = s.bays
    ∧ (s.startPause).packs = s.packs ∧ (s.startPause).minuteCount = s.minuteCount ∧ (s.startPause).backup =
    s.backup ∧ (s.startPause).notices = s.notices ∧ (s.startPause).link = s.link ∧ (s.startPause).pending =
    s.pending := by
  simp [State.startPause]

@[simp] theorem State.printOutcome_frame (record : PackRecord) (outcome : ExchangeOutcome) (status : Octet) :
    (s.printOutcome record outcome status).power = s.power ∧ (s.printOutcome record outcome status).species =
    s.species ∧ (s.printOutcome record outcome status).schedules = s.schedules ∧ (s.printOutcome record outcome
    status).charges = s.charges ∧ (s.printOutcome record outcome status).kilns = s.kilns ∧ (s.printOutcome
    record outcome status).ports = s.ports ∧ (s.printOutcome record outcome status).reports = s.reports ∧
    (s.printOutcome record outcome status).assignments = s.assignments ∧ (s.printOutcome record outcome
    status).presence = s.presence ∧ (s.printOutcome record outcome status).sweeps = s.sweeps ∧ (s.printOutcome
    record outcome status).line = s.line ∧ (s.printOutcome record outcome status).bays = s.bays ∧
    (s.printOutcome record outcome status).minuteCount = s.minuteCount ∧ (s.printOutcome record outcome
    status).backup = s.backup ∧ (s.printOutcome record outcome status).notices = s.notices ∧ (s.printOutcome
    record outcome status).link = s.link ∧ (s.printOutcome record outcome status).pending = s.pending := by
  unfold State.printOutcome
  (repeat' split) <;> simp

@[simp] theorem State.statusOutcome_frame (record : PackRecord) (outcome : ExchangeOutcome) (reply : StationReply) :
    (s.statusOutcome record outcome reply).power = s.power ∧ (s.statusOutcome record outcome reply).species =
    s.species ∧ (s.statusOutcome record outcome reply).schedules = s.schedules ∧ (s.statusOutcome record outcome
    reply).kilns = s.kilns ∧ (s.statusOutcome record outcome reply).reports = s.reports ∧ (s.statusOutcome
    record outcome reply).assignments = s.assignments ∧ (s.statusOutcome record outcome reply).presence =
    s.presence ∧ (s.statusOutcome record outcome reply).sweeps = s.sweeps ∧ (s.statusOutcome record outcome
    reply).line = s.line ∧ (s.statusOutcome record outcome reply).minuteCount = s.minuteCount ∧ (s.statusOutcome
    record outcome reply).backup = s.backup ∧ (s.statusOutcome record outcome reply).link = s.link ∧
    (s.statusOutcome record outcome reply).pending = s.pending := by
  unfold State.statusOutcome
  (repeat' split) <;> simp

@[simp] theorem State.labelOutcome_frame (isStatus : Bool) (outcome : ExchangeOutcome) (reply : StationReply) :
    (s.labelOutcome isStatus outcome reply).power = s.power ∧ (s.labelOutcome isStatus outcome reply).species =
    s.species ∧ (s.labelOutcome isStatus outcome reply).schedules = s.schedules ∧ (s.labelOutcome isStatus
    outcome reply).kilns = s.kilns ∧ (s.labelOutcome isStatus outcome reply).reports = s.reports ∧
    (s.labelOutcome isStatus outcome reply).assignments = s.assignments ∧ (s.labelOutcome isStatus outcome
    reply).presence = s.presence ∧ (s.labelOutcome isStatus outcome reply).sweeps = s.sweeps ∧ (s.labelOutcome
    isStatus outcome reply).line = s.line ∧ (s.labelOutcome isStatus outcome reply).minuteCount = s.minuteCount
    ∧ (s.labelOutcome isStatus outcome reply).backup = s.backup ∧ (s.labelOutcome isStatus outcome reply).link =
    s.link ∧ (s.labelOutcome isStatus outcome reply).pending = s.pending := by
  unfold State.labelOutcome
  dsimp only
  (repeat' split) <;> simp

@[simp] theorem State.labelPauseOver_frame :
    (s.labelPauseOver).power = s.power ∧ (s.labelPauseOver).species = s.species ∧ (s.labelPauseOver).schedules =
    s.schedules ∧ (s.labelPauseOver).charges = s.charges ∧ (s.labelPauseOver).kilns = s.kilns ∧
    (s.labelPauseOver).reports = s.reports ∧ (s.labelPauseOver).assignments = s.assignments ∧
    (s.labelPauseOver).presence = s.presence ∧ (s.labelPauseOver).sweeps = s.sweeps ∧ (s.labelPauseOver).line =
    s.line ∧ (s.labelPauseOver).bays = s.bays ∧ (s.labelPauseOver).packs = s.packs ∧
    (s.labelPauseOver).minuteCount = s.minuteCount ∧ (s.labelPauseOver).backup = s.backup ∧
    (s.labelPauseOver).notices = s.notices ∧ (s.labelPauseOver).link = s.link ∧ (s.labelPauseOver).pending =
    s.pending := by
  unfold State.labelPauseOver
  dsimp only
  (repeat' split) <;> simp

@[simp] theorem State.labelPortLost_frame :
    (s.labelPortLost).power = s.power ∧ (s.labelPortLost).species = s.species ∧ (s.labelPortLost).schedules =
    s.schedules ∧ (s.labelPortLost).charges = s.charges ∧ (s.labelPortLost).kilns = s.kilns ∧
    (s.labelPortLost).reports = s.reports ∧ (s.labelPortLost).assignments = s.assignments ∧
    (s.labelPortLost).presence = s.presence ∧ (s.labelPortLost).sweeps = s.sweeps ∧ (s.labelPortLost).line =
    s.line ∧ (s.labelPortLost).minuteCount = s.minuteCount ∧ (s.labelPortLost).backup = s.backup ∧
    (s.labelPortLost).link = s.link ∧ (s.labelPortLost).pending = s.pending := by
  unfold State.labelPortLost
  dsimp only
  (repeat' split) <;> simp

/-! ### The kiln supervisor -/

@[simp] theorem State.setHolds_frame (k : KilnNo) (holds : HoldSet) :
    (s.setHolds k holds).power = s.power ∧ (s.setHolds k holds).species = s.species ∧ (s.setHolds k
    holds).schedules = s.schedules ∧ (s.setHolds k holds).charges = s.charges ∧ (s.setHolds k holds).ports =
    s.ports ∧ (s.setHolds k holds).reports = s.reports ∧ (s.setHolds k holds).assignments = s.assignments ∧
    (s.setHolds k holds).presence = s.presence ∧ (s.setHolds k holds).sweeps = s.sweeps ∧ (s.setHolds k
    holds).line = s.line ∧ (s.setHolds k holds).bays = s.bays ∧ (s.setHolds k holds).packs = s.packs ∧
    (s.setHolds k holds).label = s.label ∧ (s.setHolds k holds).minuteCount = s.minuteCount ∧ (s.setHolds k
    holds).notices = s.notices ∧ (s.setHolds k holds).link = s.link ∧ (s.setHolds k holds).pending = s.pending := by
  unfold State.setHolds
  (repeat' split) <;> simp

@[simp] theorem State.completeKiln_frame (k : KilnNo) :
    (s.completeKiln k).power = s.power ∧ (s.completeKiln k).species = s.species ∧ (s.completeKiln k).schedules =
    s.schedules ∧ (s.completeKiln k).ports = s.ports ∧ (s.completeKiln k).reports = s.reports ∧ (s.completeKiln
    k).assignments = s.assignments ∧ (s.completeKiln k).presence = s.presence ∧ (s.completeKiln k).sweeps =
    s.sweeps ∧ (s.completeKiln k).line = s.line ∧ (s.completeKiln k).bays = s.bays ∧ (s.completeKiln k).packs =
    s.packs ∧ (s.completeKiln k).label = s.label ∧ (s.completeKiln k).minuteCount = s.minuteCount ∧
    (s.completeKiln k).link = s.link ∧ (s.completeKiln k).pending = s.pending := by
  unfold State.completeKiln
  (repeat' split) <;> simp

@[simp] theorem State.advanceStep_frame (k : KilnNo) (overtime : Bool) :
    (s.advanceStep k overtime).power = s.power ∧ (s.advanceStep k overtime).species = s.species ∧ (s.advanceStep
    k overtime).schedules = s.schedules ∧ (s.advanceStep k overtime).ports = s.ports ∧ (s.advanceStep k
    overtime).reports = s.reports ∧ (s.advanceStep k overtime).assignments = s.assignments ∧ (s.advanceStep k
    overtime).presence = s.presence ∧ (s.advanceStep k overtime).sweeps = s.sweeps ∧ (s.advanceStep k
    overtime).line = s.line ∧ (s.advanceStep k overtime).bays = s.bays ∧ (s.advanceStep k overtime).packs =
    s.packs ∧ (s.advanceStep k overtime).label = s.label ∧ (s.advanceStep k overtime).minuteCount =
    s.minuteCount ∧ (s.advanceStep k overtime).link = s.link ∧ (s.advanceStep k overtime).pending = s.pending := by
  unfold State.advanceStep
  (repeat' split) <;> simp

@[simp] theorem State.testStepTime_frame (k : KilnNo) (step : Step) :
    (s.testStepTime k step).power = s.power ∧ (s.testStepTime k step).species = s.species ∧ (s.testStepTime k
    step).schedules = s.schedules ∧ (s.testStepTime k step).ports = s.ports ∧ (s.testStepTime k step).reports =
    s.reports ∧ (s.testStepTime k step).assignments = s.assignments ∧ (s.testStepTime k step).presence =
    s.presence ∧ (s.testStepTime k step).sweeps = s.sweeps ∧ (s.testStepTime k step).line = s.line ∧
    (s.testStepTime k step).bays = s.bays ∧ (s.testStepTime k step).packs = s.packs ∧ (s.testStepTime k
    step).label = s.label ∧ (s.testStepTime k step).minuteCount = s.minuteCount ∧ (s.testStepTime k step).link =
    s.link ∧ (s.testStepTime k step).pending = s.pending := by
  unfold State.testStepTime
  dsimp only
  (repeat' split) <;> simp

@[simp] theorem State.runMinute_frame (k : KilnNo) :
    (s.runMinute k).power = s.power ∧ (s.runMinute k).species = s.species ∧ (s.runMinute k).schedules =
    s.schedules ∧ (s.runMinute k).ports = s.ports ∧ (s.runMinute k).reports = s.reports ∧ (s.runMinute
    k).assignments = s.assignments ∧ (s.runMinute k).presence = s.presence ∧ (s.runMinute k).sweeps = s.sweeps ∧
    (s.runMinute k).line = s.line ∧ (s.runMinute k).bays = s.bays ∧ (s.runMinute k).packs = s.packs ∧
    (s.runMinute k).label = s.label ∧ (s.runMinute k).minuteCount = s.minuteCount ∧ (s.runMinute k).link =
    s.link ∧ (s.runMinute k).pending = s.pending := by
  unfold State.runMinute
  (repeat' split) <;> simp

@[simp] theorem State.kilnMinute_frame (k : KilnNo) :
    (s.kilnMinute k).power = s.power ∧ (s.kilnMinute k).species = s.species ∧ (s.kilnMinute k).schedules =
    s.schedules ∧ (s.kilnMinute k).ports = s.ports ∧ (s.kilnMinute k).reports = s.reports ∧ (s.kilnMinute
    k).assignments = s.assignments ∧ (s.kilnMinute k).presence = s.presence ∧ (s.kilnMinute k).sweeps = s.sweeps
    ∧ (s.kilnMinute k).line = s.line ∧ (s.kilnMinute k).bays = s.bays ∧ (s.kilnMinute k).packs = s.packs ∧
    (s.kilnMinute k).label = s.label ∧ (s.kilnMinute k).minuteCount = s.minuteCount ∧ (s.kilnMinute k).link =
    s.link ∧ (s.kilnMinute k).pending = s.pending := by
  unfold State.kilnMinute
  dsimp only
  (repeat' split) <;> simp

@[simp] theorem State.deliverMinute_frame (k : KilnNo) :
    (s.deliverMinute k).power = s.power ∧ (s.deliverMinute k).species = s.species ∧ (s.deliverMinute
    k).schedules = s.schedules ∧ (s.deliverMinute k).charges = s.charges ∧ (s.deliverMinute k).ports = s.ports ∧
    (s.deliverMinute k).reports = s.reports ∧ (s.deliverMinute k).assignments = s.assignments ∧ (s.deliverMinute
    k).presence = s.presence ∧ (s.deliverMinute k).sweeps = s.sweeps ∧ (s.deliverMinute k).line = s.line ∧
    (s.deliverMinute k).bays = s.bays ∧ (s.deliverMinute k).packs = s.packs ∧ (s.deliverMinute k).label =
    s.label ∧ (s.deliverMinute k).backup = s.backup ∧ (s.deliverMinute k).notices = s.notices ∧ (s.deliverMinute
    k).link = s.link ∧ (s.deliverMinute k).pending = s.pending := by
  simp [State.deliverMinute]

@[simp] theorem State.testDryBulb_frame (k : KilnNo) :
    (s.testDryBulb k).power = s.power ∧ (s.testDryBulb k).species = s.species ∧ (s.testDryBulb k).schedules =
    s.schedules ∧ (s.testDryBulb k).ports = s.ports ∧ (s.testDryBulb k).reports = s.reports ∧ (s.testDryBulb
    k).assignments = s.assignments ∧ (s.testDryBulb k).presence = s.presence ∧ (s.testDryBulb k).sweeps =
    s.sweeps ∧ (s.testDryBulb k).line = s.line ∧ (s.testDryBulb k).bays = s.bays ∧ (s.testDryBulb k).packs =
    s.packs ∧ (s.testDryBulb k).label = s.label ∧ (s.testDryBulb k).minuteCount = s.minuteCount ∧ (s.testDryBulb
    k).link = s.link ∧ (s.testDryBulb k).pending = s.pending := by
  unfold State.testDryBulb
  (repeat' split) <;> simp

@[simp] theorem State.takeControllerReply_frame (k : KilnNo) (dry wet : Int) (status : ControllerStatus) :
    (s.takeControllerReply k dry wet status).power = s.power ∧ (s.takeControllerReply k dry wet status).species
    = s.species ∧ (s.takeControllerReply k dry wet status).schedules = s.schedules ∧ (s.takeControllerReply k
    dry wet status).ports = s.ports ∧ (s.takeControllerReply k dry wet status).reports = s.reports ∧
    (s.takeControllerReply k dry wet status).assignments = s.assignments ∧ (s.takeControllerReply k dry wet
    status).presence = s.presence ∧ (s.takeControllerReply k dry wet status).sweeps = s.sweeps ∧
    (s.takeControllerReply k dry wet status).line = s.line ∧ (s.takeControllerReply k dry wet status).bays =
    s.bays ∧ (s.takeControllerReply k dry wet status).packs = s.packs ∧ (s.takeControllerReply k dry wet
    status).label = s.label ∧ (s.takeControllerReply k dry wet status).minuteCount = s.minuteCount ∧
    (s.takeControllerReply k dry wet status).link = s.link ∧ (s.takeControllerReply k dry wet status).pending =
    s.pending := by
  unfold State.takeControllerReply
  dsimp only
  (repeat' split) <;> simp

@[simp] theorem State.setpointOutcome_frame (k : KilnNo) (outcome : ExchangeOutcome) (reply : StationReply) :
    (s.setpointOutcome k outcome reply).power = s.power ∧ (s.setpointOutcome k outcome reply).species =
    s.species ∧ (s.setpointOutcome k outcome reply).schedules = s.schedules ∧ (s.setpointOutcome k outcome
    reply).ports = s.ports ∧ (s.setpointOutcome k outcome reply).reports = s.reports ∧ (s.setpointOutcome k
    outcome reply).assignments = s.assignments ∧ (s.setpointOutcome k outcome reply).presence = s.presence ∧
    (s.setpointOutcome k outcome reply).sweeps = s.sweeps ∧ (s.setpointOutcome k outcome reply).line = s.line ∧
    (s.setpointOutcome k outcome reply).bays = s.bays ∧ (s.setpointOutcome k outcome reply).packs = s.packs ∧
    (s.setpointOutcome k outcome reply).label = s.label ∧ (s.setpointOutcome k outcome reply).minuteCount =
    s.minuteCount ∧ (s.setpointOutcome k outcome reply).link = s.link ∧ (s.setpointOutcome k outcome
    reply).pending = s.pending := by
  unfold State.setpointOutcome
  (repeat' split) <;> simp

@[simp] theorem State.testMoisture_frame (k : KilnNo) :
    (s.testMoisture k).power = s.power ∧ (s.testMoisture k).species = s.species ∧ (s.testMoisture k).schedules =
    s.schedules ∧ (s.testMoisture k).ports = s.ports ∧ (s.testMoisture k).reports = s.reports ∧ (s.testMoisture
    k).assignments = s.assignments ∧ (s.testMoisture k).presence = s.presence ∧ (s.testMoisture k).sweeps =
    s.sweeps ∧ (s.testMoisture k).line = s.line ∧ (s.testMoisture k).bays = s.bays ∧ (s.testMoisture k).packs =
    s.packs ∧ (s.testMoisture k).label = s.label ∧ (s.testMoisture k).minuteCount = s.minuteCount ∧
    (s.testMoisture k).link = s.link ∧ (s.testMoisture k).pending = s.pending := by
  unfold State.testMoisture
  (repeat' split) <;> simp

@[simp] theorem State.takeSweepResult_frame (k : KilnNo) (result : SweepResult) :
    (s.takeSweepResult k result).power = s.power ∧ (s.takeSweepResult k result).species = s.species ∧
    (s.takeSweepResult k result).schedules = s.schedules ∧ (s.takeSweepResult k result).ports = s.ports ∧
    (s.takeSweepResult k result).reports = s.reports ∧ (s.takeSweepResult k result).assignments = s.assignments
    ∧ (s.takeSweepResult k result).presence = s.presence ∧ (s.takeSweepResult k result).sweeps = s.sweeps ∧
    (s.takeSweepResult k result).line = s.line ∧ (s.takeSweepResult k result).bays = s.bays ∧ (s.takeSweepResult
    k result).packs = s.packs ∧ (s.takeSweepResult k result).label = s.label ∧ (s.takeSweepResult k
    result).minuteCount = s.minuteCount ∧ (s.takeSweepResult k result).link = s.link ∧ (s.takeSweepResult k
    result).pending = s.pending := by
  unfold State.takeSweepResult
  dsimp only
  (repeat' split) <;> simp

@[simp] theorem State.takeControllerLost_frame (k : KilnNo) :
    (s.takeControllerLost k).power = s.power ∧ (s.takeControllerLost k).species = s.species ∧
    (s.takeControllerLost k).schedules = s.schedules ∧ (s.takeControllerLost k).charges = s.charges ∧
    (s.takeControllerLost k).ports = s.ports ∧ (s.takeControllerLost k).reports = s.reports ∧
    (s.takeControllerLost k).assignments = s.assignments ∧ (s.takeControllerLost k).presence = s.presence ∧
    (s.takeControllerLost k).sweeps = s.sweeps ∧ (s.takeControllerLost k).line = s.line ∧ (s.takeControllerLost
    k).bays = s.bays ∧ (s.takeControllerLost k).packs = s.packs ∧ (s.takeControllerLost k).label = s.label ∧
    (s.takeControllerLost k).minuteCount = s.minuteCount ∧ (s.takeControllerLost k).backup = s.backup ∧
    (s.takeControllerLost k).link = s.link ∧ (s.takeControllerLost k).pending = s.pending := by
  unfold State.takeControllerLost
  dsimp only
  (repeat' split) <;> simp

@[simp] theorem State.takeKilnPortUp_frame (k : KilnNo) :
    (s.takeKilnPortUp k).power = s.power ∧ (s.takeKilnPortUp k).species = s.species ∧ (s.takeKilnPortUp
    k).schedules = s.schedules ∧ (s.takeKilnPortUp k).charges = s.charges ∧ (s.takeKilnPortUp k).ports = s.ports
    ∧ (s.takeKilnPortUp k).reports = s.reports ∧ (s.takeKilnPortUp k).assignments = s.assignments ∧
    (s.takeKilnPortUp k).presence = s.presence ∧ (s.takeKilnPortUp k).sweeps = s.sweeps ∧ (s.takeKilnPortUp
    k).line = s.line ∧ (s.takeKilnPortUp k).bays = s.bays ∧ (s.takeKilnPortUp k).packs = s.packs ∧
    (s.takeKilnPortUp k).label = s.label ∧ (s.takeKilnPortUp k).minuteCount = s.minuteCount ∧ (s.takeKilnPortUp
    k).backup = s.backup ∧ (s.takeKilnPortUp k).link = s.link ∧ (s.takeKilnPortUp k).pending = s.pending := by
  unfold State.takeKilnPortUp
  dsimp only
  (repeat' split) <;> simp

@[simp] theorem State.recoverKiln_frame (k : KilnNo) :
    (s.recoverKiln k).power = s.power ∧ (s.recoverKiln k).species = s.species ∧ (s.recoverKiln k).schedules =
    s.schedules ∧ (s.recoverKiln k).ports = s.ports ∧ (s.recoverKiln k).reports = s.reports ∧ (s.recoverKiln
    k).assignments = s.assignments ∧ (s.recoverKiln k).presence = s.presence ∧ (s.recoverKiln k).sweeps =
    s.sweeps ∧ (s.recoverKiln k).line = s.line ∧ (s.recoverKiln k).bays = s.bays ∧ (s.recoverKiln k).packs =
    s.packs ∧ (s.recoverKiln k).label = s.label ∧ (s.recoverKiln k).minuteCount = s.minuteCount ∧ (s.recoverKiln
    k).backup = s.backup ∧ (s.recoverKiln k).link = s.link ∧ (s.recoverKiln k).pending = s.pending := by
  unfold State.recoverKiln
  (repeat' split) <;> simp

@[simp] theorem State.recoverKilns_frame :
    (s.recoverKilns).power = s.power ∧ (s.recoverKilns).species = s.species ∧ (s.recoverKilns).schedules =
    s.schedules ∧ (s.recoverKilns).ports = s.ports ∧ (s.recoverKilns).reports = s.reports ∧
    (s.recoverKilns).assignments = s.assignments ∧ (s.recoverKilns).presence = s.presence ∧
    (s.recoverKilns).sweeps = s.sweeps ∧ (s.recoverKilns).line = s.line ∧ (s.recoverKilns).bays = s.bays ∧
    (s.recoverKilns).packs = s.packs ∧ (s.recoverKilns).label = s.label ∧ (s.recoverKilns).minuteCount =
    s.minuteCount ∧ (s.recoverKilns).backup = s.backup ∧ (s.recoverKilns).link = s.link ∧
    (s.recoverKilns).pending = s.pending := by
  refine ⟨?_, ?_, ?_, ?_, ?_, ?_, ?_, ?_, ?_, ?_, ?_, ?_, ?_, ?_, ?_, ?_⟩
  · rw [State.recoverKilns, foldl_keeps (·.power) State.recoverKiln (by intros; simp)]
  · rw [State.recoverKilns, foldl_keeps (·.species) State.recoverKiln (by intros; simp)]
  · rw [State.recoverKilns, foldl_keeps (·.schedules) State.recoverKiln (by intros; simp)]
  · rw [State.recoverKilns, foldl_keeps (·.ports) State.recoverKiln (by intros; simp)]
  · rw [State.recoverKilns, foldl_keeps (·.reports) State.recoverKiln (by intros; simp)]
  · rw [State.recoverKilns, foldl_keeps (·.assignments) State.recoverKiln (by intros; simp)]
  · rw [State.recoverKilns, foldl_keeps (·.presence) State.recoverKiln (by intros; simp)]
  · rw [State.recoverKilns, foldl_keeps (·.sweeps) State.recoverKiln (by intros; simp)]
  · rw [State.recoverKilns, foldl_keeps (·.line) State.recoverKiln (by intros; simp)]
  · rw [State.recoverKilns, foldl_keeps (·.bays) State.recoverKiln (by intros; simp)]
  · rw [State.recoverKilns, foldl_keeps (·.packs) State.recoverKiln (by intros; simp)]
  · rw [State.recoverKilns, foldl_keeps (·.label) State.recoverKiln (by intros; simp)]
  · rw [State.recoverKilns, foldl_keeps (·.minuteCount) State.recoverKiln (by intros; simp)]
  · rw [State.recoverKilns, foldl_keeps (·.backup) State.recoverKiln (by intros; simp)]
  · rw [State.recoverKilns, foldl_keeps (·.link) State.recoverKiln (by intros; simp)]
  · rw [State.recoverKilns, foldl_keeps (·.pending) State.recoverKiln (by intros; simp)]

/-! ### The pack builder -/

@[simp] theorem State.reservePlace_frame (b : BayNo) (species charge : Nat) :
    (s.reservePlace b species charge).power = s.power ∧ (s.reservePlace b species charge).species = s.species ∧
    (s.reservePlace b species charge).schedules = s.schedules ∧ (s.reservePlace b species charge).kilns =
    s.kilns ∧ (s.reservePlace b species charge).ports = s.ports ∧ (s.reservePlace b species charge).reports =
    s.reports ∧ (s.reservePlace b species charge).assignments = s.assignments ∧ (s.reservePlace b species
    charge).presence = s.presence ∧ (s.reservePlace b species charge).sweeps = s.sweeps ∧ (s.reservePlace b
    species charge).line = s.line ∧ (s.reservePlace b species charge).packs = s.packs ∧ (s.reservePlace b
    species charge).label = s.label ∧ (s.reservePlace b species charge).minuteCount = s.minuteCount ∧
    (s.reservePlace b species charge).backup = s.backup ∧ (s.reservePlace b species charge).notices = s.notices
    ∧ (s.reservePlace b species charge).link = s.link ∧ (s.reservePlace b species charge).pending = s.pending := by
  unfold State.reservePlace
  dsimp only
  (repeat' split) <;> simp

@[simp] theorem State.writeRecord_frame (b : BayNo) (p : OpenPack) :
    (s.writeRecord b p).power = s.power ∧ (s.writeRecord b p).species = s.species ∧ (s.writeRecord b
    p).schedules = s.schedules ∧ (s.writeRecord b p).charges = s.charges ∧ (s.writeRecord b p).kilns = s.kilns ∧
    (s.writeRecord b p).reports = s.reports ∧ (s.writeRecord b p).assignments = s.assignments ∧ (s.writeRecord b
    p).presence = s.presence ∧ (s.writeRecord b p).sweeps = s.sweeps ∧ (s.writeRecord b p).line = s.line ∧
    (s.writeRecord b p).minuteCount = s.minuteCount ∧ (s.writeRecord b p).link = s.link ∧ (s.writeRecord b
    p).pending = s.pending := by
  simp [State.writeRecord]

@[simp] theorem State.closePack_frame (b : BayNo) :
    (s.closePack b).power = s.power ∧ (s.closePack b).species = s.species ∧ (s.closePack b).schedules =
    s.schedules ∧ (s.closePack b).charges = s.charges ∧ (s.closePack b).kilns = s.kilns ∧ (s.closePack
    b).reports = s.reports ∧ (s.closePack b).assignments = s.assignments ∧ (s.closePack b).presence = s.presence
    ∧ (s.closePack b).sweeps = s.sweeps ∧ (s.closePack b).minuteCount = s.minuteCount ∧ (s.closePack b).link =
    s.link ∧ (s.closePack b).pending = s.pending := by
  unfold State.closePack
  dsimp only
  (repeat' split) <;> simp

@[simp] theorem State.givePlace_frame (b : BayNo) :
    (s.givePlace b).power = s.power ∧ (s.givePlace b).species = s.species ∧ (s.givePlace b).schedules =
    s.schedules ∧ (s.givePlace b).charges = s.charges ∧ (s.givePlace b).kilns = s.kilns ∧ (s.givePlace
    b).reports = s.reports ∧ (s.givePlace b).assignments = s.assignments ∧ (s.givePlace b).presence = s.presence
    ∧ (s.givePlace b).sweeps = s.sweeps ∧ (s.givePlace b).line = s.line ∧ (s.givePlace b).minuteCount =
    s.minuteCount ∧ (s.givePlace b).link = s.link ∧ (s.givePlace b).pending = s.pending := by
  unfold State.givePlace
  (repeat' split) <;> simp

@[simp] theorem State.giveFreedPlace_frame :
    (s.giveFreedPlace).power = s.power ∧ (s.giveFreedPlace).species = s.species ∧ (s.giveFreedPlace).schedules =
    s.schedules ∧ (s.giveFreedPlace).charges = s.charges ∧ (s.giveFreedPlace).kilns = s.kilns ∧
    (s.giveFreedPlace).reports = s.reports ∧ (s.giveFreedPlace).assignments = s.assignments ∧
    (s.giveFreedPlace).presence = s.presence ∧ (s.giveFreedPlace).sweeps = s.sweeps ∧
    (s.giveFreedPlace).minuteCount = s.minuteCount ∧ (s.giveFreedPlace).link = s.link ∧
    (s.giveFreedPlace).pending = s.pending := by
  refine ⟨?_, ?_, ?_, ?_, ?_, ?_, ?_, ?_, ?_, ?_, ?_, ?_⟩
  · unfold State.giveFreedPlace; dsimp only; split <;> simp [foldl_keeps (·.power) State.givePlace]
  · unfold State.giveFreedPlace; dsimp only; split <;> simp [foldl_keeps (·.species) State.givePlace]
  · unfold State.giveFreedPlace; dsimp only; split <;> simp [foldl_keeps (·.schedules) State.givePlace]
  · unfold State.giveFreedPlace; dsimp only; split <;> simp [foldl_keeps (·.charges) State.givePlace]
  · unfold State.giveFreedPlace; dsimp only; split <;> simp [foldl_keeps (·.kilns) State.givePlace]
  · unfold State.giveFreedPlace; dsimp only; split <;> simp [foldl_keeps (·.reports) State.givePlace]
  · unfold State.giveFreedPlace; dsimp only; split <;> simp [foldl_keeps (·.assignments) State.givePlace]
  · unfold State.giveFreedPlace; dsimp only; split <;> simp [foldl_keeps (·.presence) State.givePlace]
  · unfold State.giveFreedPlace; dsimp only; split <;> simp [foldl_keeps (·.sweeps) State.givePlace]
  · unfold State.giveFreedPlace; dsimp only; split <;> simp [foldl_keeps (·.minuteCount) State.givePlace]
  · unfold State.giveFreedPlace; dsimp only; split <;> simp [foldl_keeps (·.link) State.givePlace]
  · unfold State.giveFreedPlace; dsimp only; split <;> simp [foldl_keeps (·.pending) State.givePlace]

@[simp] theorem State.stackPiece_frame (b : BayNo) (charge mc : Nat) :
    (s.stackPiece b charge mc).power = s.power ∧ (s.stackPiece b charge mc).species = s.species ∧ (s.stackPiece
    b charge mc).schedules = s.schedules ∧ (s.stackPiece b charge mc).charges = s.charges ∧ (s.stackPiece b
    charge mc).kilns = s.kilns ∧ (s.stackPiece b charge mc).reports = s.reports ∧ (s.stackPiece b charge
    mc).assignments = s.assignments ∧ (s.stackPiece b charge mc).presence = s.presence ∧ (s.stackPiece b charge
    mc).sweeps = s.sweeps ∧ (s.stackPiece b charge mc).minuteCount = s.minuteCount ∧ (s.stackPiece b charge
    mc).link = s.link ∧ (s.stackPiece b charge mc).pending = s.pending := by
  unfold State.stackPiece
  dsimp only
  (repeat' split) <;> simp

@[simp] theorem State.releasePlace_frame (b : BayNo) (charge : Nat) :
    (s.releasePlace b charge).power = s.power ∧ (s.releasePlace b charge).species = s.species ∧ (s.releasePlace
    b charge).schedules = s.schedules ∧ (s.releasePlace b charge).kilns = s.kilns ∧ (s.releasePlace b
    charge).reports = s.reports ∧ (s.releasePlace b charge).assignments = s.assignments ∧ (s.releasePlace b
    charge).presence = s.presence ∧ (s.releasePlace b charge).sweeps = s.sweeps ∧ (s.releasePlace b
    charge).minuteCount = s.minuteCount ∧ (s.releasePlace b charge).link = s.link ∧ (s.releasePlace b
    charge).pending = s.pending := by
  unfold State.releasePlace
  dsimp only
  (repeat' split) <;> simp

/-! ### The probe unit -/

@[simp] theorem State.putPresence_frame (e : PresenceEntry) :
    (s.putPresence e).power = s.power ∧ (s.putPresence e).species = s.species ∧ (s.putPresence e).schedules =
    s.schedules ∧ (s.putPresence e).charges = s.charges ∧ (s.putPresence e).kilns = s.kilns ∧ (s.putPresence
    e).ports = s.ports ∧ (s.putPresence e).reports = s.reports ∧ (s.putPresence e).assignments = s.assignments ∧
    (s.putPresence e).sweeps = s.sweeps ∧ (s.putPresence e).line = s.line ∧ (s.putPresence e).bays = s.bays ∧
    (s.putPresence e).packs = s.packs ∧ (s.putPresence e).label = s.label ∧ (s.putPresence e).minuteCount =
    s.minuteCount ∧ (s.putPresence e).backup = s.backup ∧ (s.putPresence e).notices = s.notices ∧ (s.putPresence
    e).link = s.link ∧ (s.putPresence e).pending = s.pending := by
  simp [State.putPresence]

@[simp] theorem State.removePresence_frame (k : KilnNo) (address : Nat) :
    (s.removePresence k address).power = s.power ∧ (s.removePresence k address).species = s.species ∧
    (s.removePresence k address).schedules = s.schedules ∧ (s.removePresence k address).charges = s.charges ∧
    (s.removePresence k address).kilns = s.kilns ∧ (s.removePresence k address).ports = s.ports ∧
    (s.removePresence k address).reports = s.reports ∧ (s.removePresence k address).assignments = s.assignments
    ∧ (s.removePresence k address).sweeps = s.sweeps ∧ (s.removePresence k address).line = s.line ∧
    (s.removePresence k address).bays = s.bays ∧ (s.removePresence k address).packs = s.packs ∧
    (s.removePresence k address).label = s.label ∧ (s.removePresence k address).minuteCount = s.minuteCount ∧
    (s.removePresence k address).backup = s.backup ∧ (s.removePresence k address).notices = s.notices ∧
    (s.removePresence k address).link = s.link ∧ (s.removePresence k address).pending = s.pending := by
  simp [State.removePresence]

@[simp] theorem State.clearPresence_frame (k : KilnNo) :
    (s.clearPresence k).power = s.power ∧ (s.clearPresence k).species = s.species ∧ (s.clearPresence
    k).schedules = s.schedules ∧ (s.clearPresence k).charges = s.charges ∧ (s.clearPresence k).kilns = s.kilns ∧
    (s.clearPresence k).ports = s.ports ∧ (s.clearPresence k).reports = s.reports ∧ (s.clearPresence
    k).assignments = s.assignments ∧ (s.clearPresence k).sweeps = s.sweeps ∧ (s.clearPresence k).line = s.line ∧
    (s.clearPresence k).bays = s.bays ∧ (s.clearPresence k).packs = s.packs ∧ (s.clearPresence k).label =
    s.label ∧ (s.clearPresence k).minuteCount = s.minuteCount ∧ (s.clearPresence k).backup = s.backup ∧
    (s.clearPresence k).notices = s.notices ∧ (s.clearPresence k).link = s.link ∧ (s.clearPresence k).pending =
    s.pending := by
  simp [State.clearPresence]

@[simp] theorem State.addProbeEvent_frame (k : KilnNo) (event : ProbeEvent) :
    (s.addProbeEvent k event).power = s.power ∧ (s.addProbeEvent k event).species = s.species ∧ (s.addProbeEvent
    k event).schedules = s.schedules ∧ (s.addProbeEvent k event).charges = s.charges ∧ (s.addProbeEvent k
    event).kilns = s.kilns ∧ (s.addProbeEvent k event).ports = s.ports ∧ (s.addProbeEvent k event).reports =
    s.reports ∧ (s.addProbeEvent k event).assignments = s.assignments ∧ (s.addProbeEvent k event).presence =
    s.presence ∧ (s.addProbeEvent k event).line = s.line ∧ (s.addProbeEvent k event).bays = s.bays ∧
    (s.addProbeEvent k event).packs = s.packs ∧ (s.addProbeEvent k event).label = s.label ∧ (s.addProbeEvent k
    event).minuteCount = s.minuteCount ∧ (s.addProbeEvent k event).backup = s.backup ∧ (s.addProbeEvent k
    event).link = s.link ∧ (s.addProbeEvent k event).pending = s.pending := by
  unfold State.addProbeEvent
  dsimp only
  (repeat' split) <;> simp

@[simp] theorem State.completeSweep_frame (k : KilnNo) :
    (s.completeSweep k).power = s.power ∧ (s.completeSweep k).species = s.species ∧ (s.completeSweep
    k).schedules = s.schedules ∧ (s.completeSweep k).ports = s.ports ∧ (s.completeSweep k).reports = s.reports ∧
    (s.completeSweep k).assignments = s.assignments ∧ (s.completeSweep k).presence = s.presence ∧
    (s.completeSweep k).line = s.line ∧ (s.completeSweep k).bays = s.bays ∧ (s.completeSweep k).packs = s.packs
    ∧ (s.completeSweep k).label = s.label ∧ (s.completeSweep k).minuteCount = s.minuteCount ∧ (s.completeSweep
    k).link = s.link ∧ (s.completeSweep k).pending = s.pending := by
  simp [State.completeSweep]

@[simp] theorem State.completeIfDone_frame (k : KilnNo) :
    (s.completeIfDone k).power = s.power ∧ (s.completeIfDone k).species = s.species ∧ (s.completeIfDone
    k).schedules = s.schedules ∧ (s.completeIfDone k).ports = s.ports ∧ (s.completeIfDone k).reports = s.reports
    ∧ (s.completeIfDone k).assignments = s.assignments ∧ (s.completeIfDone k).presence = s.presence ∧
    (s.completeIfDone k).line = s.line ∧ (s.completeIfDone k).bays = s.bays ∧ (s.completeIfDone k).packs =
    s.packs ∧ (s.completeIfDone k).label = s.label ∧ (s.completeIfDone k).minuteCount = s.minuteCount ∧
    (s.completeIfDone k).link = s.link ∧ (s.completeIfDone k).pending = s.pending := by
  unfold State.completeIfDone
  (repeat' split) <;> simp

@[simp] theorem State.dropPlanned_frame (k : KilnNo) (address : Nat) :
    (s.dropPlanned k address).power = s.power ∧ (s.dropPlanned k address).species = s.species ∧ (s.dropPlanned k
    address).schedules = s.schedules ∧ (s.dropPlanned k address).charges = s.charges ∧ (s.dropPlanned k
    address).kilns = s.kilns ∧ (s.dropPlanned k address).reports = s.reports ∧ (s.dropPlanned k
    address).assignments = s.assignments ∧ (s.dropPlanned k address).presence = s.presence ∧ (s.dropPlanned k
    address).line = s.line ∧ (s.dropPlanned k address).bays = s.bays ∧ (s.dropPlanned k address).packs = s.packs
    ∧ (s.dropPlanned k address).label = s.label ∧ (s.dropPlanned k address).minuteCount = s.minuteCount ∧
    (s.dropPlanned k address).backup = s.backup ∧ (s.dropPlanned k address).notices = s.notices ∧ (s.dropPlanned
    k address).link = s.link ∧ (s.dropPlanned k address).pending = s.pending := by
  unfold State.dropPlanned
  (repeat' split) <;> simp

@[simp] theorem State.leaveOldPlace_frame (k : KilnNo) (address serial : Nat) :
    (s.leaveOldPlace k address serial).power = s.power ∧ (s.leaveOldPlace k address serial).species = s.species
    ∧ (s.leaveOldPlace k address serial).schedules = s.schedules ∧ (s.leaveOldPlace k address serial).charges =
    s.charges ∧ (s.leaveOldPlace k address serial).kilns = s.kilns ∧ (s.leaveOldPlace k address serial).reports
    = s.reports ∧ (s.leaveOldPlace k address serial).assignments = s.assignments ∧ (s.leaveOldPlace k address
    serial).line = s.line ∧ (s.leaveOldPlace k address serial).bays = s.bays ∧ (s.leaveOldPlace k address
    serial).packs = s.packs ∧ (s.leaveOldPlace k address serial).label = s.label ∧ (s.leaveOldPlace k address
    serial).minuteCount = s.minuteCount ∧ (s.leaveOldPlace k address serial).backup = s.backup ∧
    (s.leaveOldPlace k address serial).link = s.link ∧ (s.leaveOldPlace k address serial).pending = s.pending := by
  unfold State.leaveOldPlace
  (repeat' split) <;> simp

@[simp] theorem State.leavePlace_frame (k : KilnNo) (address serial : Nat) :
    (s.leavePlace k address serial).power = s.power ∧ (s.leavePlace k address serial).species = s.species ∧
    (s.leavePlace k address serial).schedules = s.schedules ∧ (s.leavePlace k address serial).charges =
    s.charges ∧ (s.leavePlace k address serial).kilns = s.kilns ∧ (s.leavePlace k address serial).ports =
    s.ports ∧ (s.leavePlace k address serial).reports = s.reports ∧ (s.leavePlace k address serial).assignments
    = s.assignments ∧ (s.leavePlace k address serial).line = s.line ∧ (s.leavePlace k address serial).bays =
    s.bays ∧ (s.leavePlace k address serial).packs = s.packs ∧ (s.leavePlace k address serial).label = s.label ∧
    (s.leavePlace k address serial).minuteCount = s.minuteCount ∧ (s.leavePlace k address serial).backup =
    s.backup ∧ (s.leavePlace k address serial).link = s.link ∧ (s.leavePlace k address serial).pending =
    s.pending := by
  unfold State.leavePlace
  (repeat' split) <;> simp

@[simp] theorem State.settleEntry_frame (k : KilnNo) (address serial : Nat) :
    (s.settleEntry k address serial).power = s.power ∧ (s.settleEntry k address serial).species = s.species ∧
    (s.settleEntry k address serial).schedules = s.schedules ∧ (s.settleEntry k address serial).charges =
    s.charges ∧ (s.settleEntry k address serial).kilns = s.kilns ∧ (s.settleEntry k address serial).ports =
    s.ports ∧ (s.settleEntry k address serial).reports = s.reports ∧ (s.settleEntry k address
    serial).assignments = s.assignments ∧ (s.settleEntry k address serial).line = s.line ∧ (s.settleEntry k
    address serial).bays = s.bays ∧ (s.settleEntry k address serial).packs = s.packs ∧ (s.settleEntry k address
    serial).label = s.label ∧ (s.settleEntry k address serial).minuteCount = s.minuteCount ∧ (s.settleEntry k
    address serial).backup = s.backup ∧ (s.settleEntry k address serial).link = s.link ∧ (s.settleEntry k
    address serial).pending = s.pending := by
  unfold State.settleEntry
  dsimp only
  (repeat' split) <;> simp

@[simp] theorem State.resolveIdentity_frame (k : KilnNo) (address serial : Nat) :
    (s.resolveIdentity k address serial).power = s.power ∧ (s.resolveIdentity k address serial).species =
    s.species ∧ (s.resolveIdentity k address serial).schedules = s.schedules ∧ (s.resolveIdentity k address
    serial).charges = s.charges ∧ (s.resolveIdentity k address serial).kilns = s.kilns ∧ (s.resolveIdentity k
    address serial).reports = s.reports ∧ (s.resolveIdentity k address serial).assignments = s.assignments ∧
    (s.resolveIdentity k address serial).line = s.line ∧ (s.resolveIdentity k address serial).bays = s.bays ∧
    (s.resolveIdentity k address serial).packs = s.packs ∧ (s.resolveIdentity k address serial).label = s.label
    ∧ (s.resolveIdentity k address serial).minuteCount = s.minuteCount ∧ (s.resolveIdentity k address
    serial).backup = s.backup ∧ (s.resolveIdentity k address serial).link = s.link ∧ (s.resolveIdentity k
    address serial).pending = s.pending := by
  simp [State.resolveIdentity]

@[simp] theorem State.countMiss_frame (k : KilnNo) (address : Nat) :
    (s.countMiss k address).power = s.power ∧ (s.countMiss k address).species = s.species ∧ (s.countMiss k
    address).schedules = s.schedules ∧ (s.countMiss k address).charges = s.charges ∧ (s.countMiss k
    address).kilns = s.kilns ∧ (s.countMiss k address).ports = s.ports ∧ (s.countMiss k address).reports =
    s.reports ∧ (s.countMiss k address).assignments = s.assignments ∧ (s.countMiss k address).line = s.line ∧
    (s.countMiss k address).bays = s.bays ∧ (s.countMiss k address).packs = s.packs ∧ (s.countMiss k
    address).label = s.label ∧ (s.countMiss k address).minuteCount = s.minuteCount ∧ (s.countMiss k
    address).backup = s.backup ∧ (s.countMiss k address).link = s.link ∧ (s.countMiss k address).pending =
    s.pending := by
  unfold State.countMiss
  (repeat' split) <;> simp

@[simp] theorem State.recordReading_frame (k : KilnNo) (e : PresenceEntry) (reading : Reading) :
    (s.recordReading k e reading).power = s.power ∧ (s.recordReading k e reading).species = s.species ∧
    (s.recordReading k e reading).schedules = s.schedules ∧ (s.recordReading k e reading).charges = s.charges ∧
    (s.recordReading k e reading).kilns = s.kilns ∧ (s.recordReading k e reading).ports = s.ports ∧
    (s.recordReading k e reading).reports = s.reports ∧ (s.recordReading k e reading).assignments =
    s.assignments ∧ (s.recordReading k e reading).line = s.line ∧ (s.recordReading k e reading).bays = s.bays ∧
    (s.recordReading k e reading).packs = s.packs ∧ (s.recordReading k e reading).label = s.label ∧
    (s.recordReading k e reading).minuteCount = s.minuteCount ∧ (s.recordReading k e reading).backup = s.backup
    ∧ (s.recordReading k e reading).link = s.link ∧ (s.recordReading k e reading).pending = s.pending := by
  unfold State.recordReading
  (repeat' split) <;> simp

@[simp] theorem State.probeReading_frame (k : KilnNo) (address lCode : Nat) (fault : Bool) :
    (s.probeReading k address lCode fault).power = s.power ∧ (s.probeReading k address lCode fault).species =
    s.species ∧ (s.probeReading k address lCode fault).schedules = s.schedules ∧ (s.probeReading k address lCode
    fault).charges = s.charges ∧ (s.probeReading k address lCode fault).kilns = s.kilns ∧ (s.probeReading k
    address lCode fault).ports = s.ports ∧ (s.probeReading k address lCode fault).reports = s.reports ∧
    (s.probeReading k address lCode fault).assignments = s.assignments ∧ (s.probeReading k address lCode
    fault).line = s.line ∧ (s.probeReading k address lCode fault).bays = s.bays ∧ (s.probeReading k address
    lCode fault).packs = s.packs ∧ (s.probeReading k address lCode fault).label = s.label ∧ (s.probeReading k
    address lCode fault).minuteCount = s.minuteCount ∧ (s.probeReading k address lCode fault).backup = s.backup
    ∧ (s.probeReading k address lCode fault).link = s.link ∧ (s.probeReading k address lCode fault).pending =
    s.pending := by
  unfold State.probeReading
  (repeat' split) <;> simp

@[simp] theorem State.goodProbeOutcome_frame (k : KilnNo) (address : Nat) (command : ProbeCommand) (data : List Octet) :
    (s.goodProbeOutcome k address command data).power = s.power ∧ (s.goodProbeOutcome k address command
    data).species = s.species ∧ (s.goodProbeOutcome k address command data).schedules = s.schedules ∧
    (s.goodProbeOutcome k address command data).charges = s.charges ∧ (s.goodProbeOutcome k address command
    data).kilns = s.kilns ∧ (s.goodProbeOutcome k address command data).reports = s.reports ∧
    (s.goodProbeOutcome k address command data).assignments = s.assignments ∧ (s.goodProbeOutcome k address
    command data).line = s.line ∧ (s.goodProbeOutcome k address command data).bays = s.bays ∧
    (s.goodProbeOutcome k address command data).packs = s.packs ∧ (s.goodProbeOutcome k address command
    data).label = s.label ∧ (s.goodProbeOutcome k address command data).minuteCount = s.minuteCount ∧
    (s.goodProbeOutcome k address command data).backup = s.backup ∧ (s.goodProbeOutcome k address command
    data).link = s.link ∧ (s.goodProbeOutcome k address command data).pending = s.pending := by
  unfold State.goodProbeOutcome
  (repeat' split) <;> simp

@[simp] theorem State.handleProbeOutcome_frame (k : KilnNo) (address : Nat) (command : ProbeCommand) (outcome : ExchangeOutcome) (data : List Octet) :
    (s.handleProbeOutcome k address command outcome data).power = s.power ∧ (s.handleProbeOutcome k address
    command outcome data).species = s.species ∧ (s.handleProbeOutcome k address command outcome data).schedules
    = s.schedules ∧ (s.handleProbeOutcome k address command outcome data).charges = s.charges ∧
    (s.handleProbeOutcome k address command outcome data).kilns = s.kilns ∧ (s.handleProbeOutcome k address
    command outcome data).reports = s.reports ∧ (s.handleProbeOutcome k address command outcome
    data).assignments = s.assignments ∧ (s.handleProbeOutcome k address command outcome data).line = s.line ∧
    (s.handleProbeOutcome k address command outcome data).bays = s.bays ∧ (s.handleProbeOutcome k address
    command outcome data).packs = s.packs ∧ (s.handleProbeOutcome k address command outcome data).label =
    s.label ∧ (s.handleProbeOutcome k address command outcome data).minuteCount = s.minuteCount ∧
    (s.handleProbeOutcome k address command outcome data).backup = s.backup ∧ (s.handleProbeOutcome k address
    command outcome data).link = s.link ∧ (s.handleProbeOutcome k address command outcome data).pending =
    s.pending := by
  unfold State.handleProbeOutcome
  (repeat' split) <;> simp

@[simp] theorem State.probeOutcome_frame (k : KilnNo) (address : Nat) (command : ProbeCommand) (outcome : ExchangeOutcome) (data : List Octet) :
    (s.probeOutcome k address command outcome data).power = s.power ∧ (s.probeOutcome k address command outcome
    data).species = s.species ∧ (s.probeOutcome k address command outcome data).schedules = s.schedules ∧
    (s.probeOutcome k address command outcome data).reports = s.reports ∧ (s.probeOutcome k address command
    outcome data).assignments = s.assignments ∧ (s.probeOutcome k address command outcome data).line = s.line ∧
    (s.probeOutcome k address command outcome data).bays = s.bays ∧ (s.probeOutcome k address command outcome
    data).packs = s.packs ∧ (s.probeOutcome k address command outcome data).label = s.label ∧ (s.probeOutcome k
    address command outcome data).minuteCount = s.minuteCount ∧ (s.probeOutcome k address command outcome
    data).link = s.link ∧ (s.probeOutcome k address command outcome data).pending = s.pending := by
  unfold State.probeOutcome
  dsimp only
  (repeat' split) <;> simp

@[simp] theorem State.planSweep_frame (k : KilnNo) :
    (s.planSweep k).power = s.power ∧ (s.planSweep k).species = s.species ∧ (s.planSweep k).schedules =
    s.schedules ∧ (s.planSweep k).reports = s.reports ∧ (s.planSweep k).assignments = s.assignments ∧
    (s.planSweep k).presence = s.presence ∧ (s.planSweep k).line = s.line ∧ (s.planSweep k).bays = s.bays ∧
    (s.planSweep k).packs = s.packs ∧ (s.planSweep k).label = s.label ∧ (s.planSweep k).minuteCount =
    s.minuteCount ∧ (s.planSweep k).link = s.link ∧ (s.planSweep k).pending = s.pending := by
  unfold State.planSweep
  dsimp only
  (repeat' split) <;> simp

@[simp] theorem State.abortSweep_frame (k : KilnNo) :
    (s.abortSweep k).power = s.power ∧ (s.abortSweep k).species = s.species ∧ (s.abortSweep k).schedules =
    s.schedules ∧ (s.abortSweep k).charges = s.charges ∧ (s.abortSweep k).kilns = s.kilns ∧ (s.abortSweep
    k).ports = s.ports ∧ (s.abortSweep k).reports = s.reports ∧ (s.abortSweep k).assignments = s.assignments ∧
    (s.abortSweep k).presence = s.presence ∧ (s.abortSweep k).line = s.line ∧ (s.abortSweep k).bays = s.bays ∧
    (s.abortSweep k).packs = s.packs ∧ (s.abortSweep k).label = s.label ∧ (s.abortSweep k).minuteCount =
    s.minuteCount ∧ (s.abortSweep k).backup = s.backup ∧ (s.abortSweep k).notices = s.notices ∧ (s.abortSweep
    k).link = s.link ∧ (s.abortSweep k).pending = s.pending := by
  simp [State.abortSweep]

@[simp] theorem State.abortForUnload_frame (k : KilnNo) :
    (s.abortForUnload k).power = s.power ∧ (s.abortForUnload k).species = s.species ∧ (s.abortForUnload
    k).schedules = s.schedules ∧ (s.abortForUnload k).charges = s.charges ∧ (s.abortForUnload k).kilns = s.kilns
    ∧ (s.abortForUnload k).reports = s.reports ∧ (s.abortForUnload k).assignments = s.assignments ∧
    (s.abortForUnload k).presence = s.presence ∧ (s.abortForUnload k).line = s.line ∧ (s.abortForUnload k).bays
    = s.bays ∧ (s.abortForUnload k).packs = s.packs ∧ (s.abortForUnload k).label = s.label ∧ (s.abortForUnload
    k).minuteCount = s.minuteCount ∧ (s.abortForUnload k).backup = s.backup ∧ (s.abortForUnload k).notices =
    s.notices ∧ (s.abortForUnload k).link = s.link ∧ (s.abortForUnload k).pending = s.pending := by
  unfold State.abortForUnload
  (repeat' split) <;> simp

@[simp] theorem State.probesLoaded_frame (k : KilnNo) :
    (s.probesLoaded k).power = s.power ∧ (s.probesLoaded k).species = s.species ∧ (s.probesLoaded k).schedules =
    s.schedules ∧ (s.probesLoaded k).charges = s.charges ∧ (s.probesLoaded k).kilns = s.kilns ∧ (s.probesLoaded
    k).ports = s.ports ∧ (s.probesLoaded k).reports = s.reports ∧ (s.probesLoaded k).assignments = s.assignments
    ∧ (s.probesLoaded k).line = s.line ∧ (s.probesLoaded k).bays = s.bays ∧ (s.probesLoaded k).packs = s.packs ∧
    (s.probesLoaded k).label = s.label ∧ (s.probesLoaded k).minuteCount = s.minuteCount ∧ (s.probesLoaded
    k).backup = s.backup ∧ (s.probesLoaded k).notices = s.notices ∧ (s.probesLoaded k).link = s.link ∧
    (s.probesLoaded k).pending = s.pending := by
  simp [State.probesLoaded]

@[simp] theorem State.probesUnloaded_frame (k : KilnNo) :
    (s.probesUnloaded k).power = s.power ∧ (s.probesUnloaded k).species = s.species ∧ (s.probesUnloaded
    k).schedules = s.schedules ∧ (s.probesUnloaded k).charges = s.charges ∧ (s.probesUnloaded k).kilns = s.kilns
    ∧ (s.probesUnloaded k).reports = s.reports ∧ (s.probesUnloaded k).assignments = s.assignments ∧
    (s.probesUnloaded k).line = s.line ∧ (s.probesUnloaded k).bays = s.bays ∧ (s.probesUnloaded k).packs =
    s.packs ∧ (s.probesUnloaded k).label = s.label ∧ (s.probesUnloaded k).minuteCount = s.minuteCount ∧
    (s.probesUnloaded k).backup = s.backup ∧ (s.probesUnloaded k).notices = s.notices ∧ (s.probesUnloaded
    k).link = s.link ∧ (s.probesUnloaded k).pending = s.pending := by
  simp [State.probesUnloaded]

/-! ### The planer line tracker -/

@[simp] theorem State.modifyPiece_frame (sequence : Nat) (f : Piece → Piece) :
    (s.modifyPiece sequence f).power = s.power ∧ (s.modifyPiece sequence f).species = s.species ∧ (s.modifyPiece
    sequence f).schedules = s.schedules ∧ (s.modifyPiece sequence f).charges = s.charges ∧ (s.modifyPiece
    sequence f).kilns = s.kilns ∧ (s.modifyPiece sequence f).ports = s.ports ∧ (s.modifyPiece sequence
    f).reports = s.reports ∧ (s.modifyPiece sequence f).assignments = s.assignments ∧ (s.modifyPiece sequence
    f).presence = s.presence ∧ (s.modifyPiece sequence f).sweeps = s.sweeps ∧ (s.modifyPiece sequence f).bays =
    s.bays ∧ (s.modifyPiece sequence f).packs = s.packs ∧ (s.modifyPiece sequence f).label = s.label ∧
    (s.modifyPiece sequence f).minuteCount = s.minuteCount ∧ (s.modifyPiece sequence f).backup = s.backup ∧
    (s.modifyPiece sequence f).notices = s.notices ∧ (s.modifyPiece sequence f).link = s.link ∧ (s.modifyPiece
    sequence f).pending = s.pending := by
  simp [State.modifyPiece]

@[simp] theorem State.countLine_frame (f : LineCounters → LineCounters) :
    (s.countLine f).power = s.power ∧ (s.countLine f).species = s.species ∧ (s.countLine f).schedules =
    s.schedules ∧ (s.countLine f).charges = s.charges ∧ (s.countLine f).kilns = s.kilns ∧ (s.countLine f).ports
    = s.ports ∧ (s.countLine f).reports = s.reports ∧ (s.countLine f).assignments = s.assignments ∧ (s.countLine
    f).presence = s.presence ∧ (s.countLine f).sweeps = s.sweeps ∧ (s.countLine f).bays = s.bays ∧ (s.countLine
    f).packs = s.packs ∧ (s.countLine f).label = s.label ∧ (s.countLine f).minuteCount = s.minuteCount ∧
    (s.countLine f).backup = s.backup ∧ (s.countLine f).notices = s.notices ∧ (s.countLine f).link = s.link ∧
    (s.countLine f).pending = s.pending := by
  simp [State.countLine]

@[simp] theorem State.removePiece_frame (p : Piece) :
    (s.removePiece p).power = s.power ∧ (s.removePiece p).species = s.species ∧ (s.removePiece
    p).schedules = s.schedules ∧ (s.removePiece p).charges = s.charges ∧ (s.removePiece
    p).kilns = s.kilns ∧ (s.removePiece p).ports = s.ports ∧ (s.removePiece p).reports =
    s.reports ∧ (s.removePiece p).assignments = s.assignments ∧ (s.removePiece p).presence =
    s.presence ∧ (s.removePiece p).sweeps = s.sweeps ∧ (s.removePiece p).bays = s.bays ∧
    (s.removePiece p).packs = s.packs ∧ (s.removePiece p).label = s.label ∧ (s.removePiece
    p).minuteCount = s.minuteCount ∧ (s.removePiece p).backup = s.backup ∧ (s.removePiece
    p).notices = s.notices ∧ (s.removePiece p).link = s.link ∧ (s.removePiece p).pending =
    s.pending := by
  unfold State.removePiece
  dsimp only
  (repeat' split) <;> simp

@[simp] theorem State.removeAtGate_frame (p : Piece) :
    (s.removeAtGate p).power = s.power ∧ (s.removeAtGate p).species = s.species ∧ (s.removeAtGate
    p).schedules = s.schedules ∧ (s.removeAtGate p).charges = s.charges ∧ (s.removeAtGate
    p).kilns = s.kilns ∧ (s.removeAtGate p).ports = s.ports ∧ (s.removeAtGate p).reports =
    s.reports ∧ (s.removeAtGate p).assignments = s.assignments ∧ (s.removeAtGate p).presence =
    s.presence ∧ (s.removeAtGate p).sweeps = s.sweeps ∧ (s.removeAtGate p).bays = s.bays ∧
    (s.removeAtGate p).packs = s.packs ∧ (s.removeAtGate p).label = s.label ∧ (s.removeAtGate
    p).minuteCount = s.minuteCount ∧ (s.removeAtGate p).backup = s.backup ∧ (s.removeAtGate
    p).notices = s.notices ∧ (s.removeAtGate p).link = s.link ∧ (s.removeAtGate p).pending =
    s.pending := by
  simp [State.removeAtGate]

@[simp] theorem State.gradeOf_frame (p : Piece) (length : Nat) :
    (s.gradeOf p length).2.power = s.power ∧ (s.gradeOf p length).2.species = s.species ∧ (s.gradeOf p
    length).2.schedules = s.schedules ∧ (s.gradeOf p length).2.kilns = s.kilns ∧ (s.gradeOf p length).2.ports =
    s.ports ∧ (s.gradeOf p length).2.reports = s.reports ∧ (s.gradeOf p length).2.assignments = s.assignments ∧
    (s.gradeOf p length).2.presence = s.presence ∧ (s.gradeOf p length).2.sweeps = s.sweeps ∧ (s.gradeOf p
    length).2.line = s.line ∧ (s.gradeOf p length).2.packs = s.packs ∧ (s.gradeOf p length).2.label = s.label ∧
    (s.gradeOf p length).2.minuteCount = s.minuteCount ∧ (s.gradeOf p length).2.backup = s.backup ∧ (s.gradeOf p
    length).2.notices = s.notices ∧ (s.gradeOf p length).2.link = s.link ∧ (s.gradeOf p length).2.pending =
    s.pending := by
  unfold State.gradeOf
  (repeat' split) <;> simp

@[simp] theorem State.decideGrade_frame (sequence : Nat) :
    (s.decideGrade sequence).power = s.power ∧ (s.decideGrade sequence).species = s.species ∧ (s.decideGrade
    sequence).schedules = s.schedules ∧ (s.decideGrade sequence).kilns = s.kilns ∧ (s.decideGrade
    sequence).ports = s.ports ∧ (s.decideGrade sequence).reports = s.reports ∧ (s.decideGrade
    sequence).assignments = s.assignments ∧ (s.decideGrade sequence).presence = s.presence ∧ (s.decideGrade
    sequence).sweeps = s.sweeps ∧ (s.decideGrade sequence).packs = s.packs ∧ (s.decideGrade sequence).label =
    s.label ∧ (s.decideGrade sequence).minuteCount = s.minuteCount ∧ (s.decideGrade sequence).backup = s.backup
    ∧ (s.decideGrade sequence).notices = s.notices ∧ (s.decideGrade sequence).link = s.link ∧ (s.decideGrade
    sequence).pending = s.pending := by
  unfold State.decideGrade; split; split; simp; simp; simp

@[simp] theorem State.settleReading_frame (sequence : Nat) (reading : PieceReading) :
    (s.settleReading sequence reading).power = s.power ∧ (s.settleReading sequence reading).species = s.species
    ∧ (s.settleReading sequence reading).schedules = s.schedules ∧ (s.settleReading sequence reading).charges =
    s.charges ∧ (s.settleReading sequence reading).kilns = s.kilns ∧ (s.settleReading sequence reading).ports =
    s.ports ∧ (s.settleReading sequence reading).reports = s.reports ∧ (s.settleReading sequence
    reading).assignments = s.assignments ∧ (s.settleReading sequence reading).presence = s.presence ∧
    (s.settleReading sequence reading).sweeps = s.sweeps ∧ (s.settleReading sequence reading).bays = s.bays ∧
    (s.settleReading sequence reading).packs = s.packs ∧ (s.settleReading sequence reading).label = s.label ∧
    (s.settleReading sequence reading).minuteCount = s.minuteCount ∧ (s.settleReading sequence reading).backup =
    s.backup ∧ (s.settleReading sequence reading).notices = s.notices ∧ (s.settleReading sequence reading).link
    = s.link ∧ (s.settleReading sequence reading).pending = s.pending := by
  simp [State.settleReading]

@[simp] theorem State.noReply_frame (sequence : Nat) :
    (s.noReply sequence).power = s.power ∧ (s.noReply sequence).species = s.species ∧ (s.noReply
    sequence).schedules = s.schedules ∧ (s.noReply sequence).charges = s.charges ∧ (s.noReply sequence).kilns =
    s.kilns ∧ (s.noReply sequence).ports = s.ports ∧ (s.noReply sequence).reports = s.reports ∧ (s.noReply
    sequence).assignments = s.assignments ∧ (s.noReply sequence).presence = s.presence ∧ (s.noReply
    sequence).sweeps = s.sweeps ∧ (s.noReply sequence).bays = s.bays ∧ (s.noReply sequence).packs = s.packs ∧
    (s.noReply sequence).label = s.label ∧ (s.noReply sequence).minuteCount = s.minuteCount ∧ (s.noReply
    sequence).backup = s.backup ∧ (s.noReply sequence).notices = s.notices ∧ (s.noReply sequence).link = s.link
    ∧ (s.noReply sequence).pending = s.pending := by
  simp [State.noReply]

@[simp] theorem State.triggerSample_frame (sequence : Nat) :
    (s.triggerSample sequence).power = s.power ∧ (s.triggerSample sequence).species = s.species ∧
    (s.triggerSample sequence).schedules = s.schedules ∧ (s.triggerSample sequence).charges = s.charges ∧
    (s.triggerSample sequence).kilns = s.kilns ∧ (s.triggerSample sequence).reports = s.reports ∧
    (s.triggerSample sequence).assignments = s.assignments ∧ (s.triggerSample sequence).presence = s.presence ∧
    (s.triggerSample sequence).sweeps = s.sweeps ∧ (s.triggerSample sequence).bays = s.bays ∧ (s.triggerSample
    sequence).packs = s.packs ∧ (s.triggerSample sequence).label = s.label ∧ (s.triggerSample
    sequence).minuteCount = s.minuteCount ∧ (s.triggerSample sequence).backup = s.backup ∧ (s.triggerSample
    sequence).notices = s.notices ∧ (s.triggerSample sequence).link = s.link ∧ (s.triggerSample
    sequence).pending = s.pending := by
  unfold State.triggerSample
  (repeat' split) <;> simp

@[simp] theorem State.meterReading_frame (p : Piece) (reading : Reading) :
    (s.meterReading p reading).power = s.power ∧ (s.meterReading p reading).species = s.species ∧
    (s.meterReading p reading).schedules = s.schedules ∧ (s.meterReading p reading).kilns = s.kilns ∧
    (s.meterReading p reading).ports = s.ports ∧ (s.meterReading p reading).reports = s.reports ∧
    (s.meterReading p reading).assignments = s.assignments ∧ (s.meterReading p reading).presence = s.presence ∧
    (s.meterReading p reading).sweeps = s.sweeps ∧ (s.meterReading p reading).bays = s.bays ∧ (s.meterReading p
    reading).packs = s.packs ∧ (s.meterReading p reading).label = s.label ∧ (s.meterReading p
    reading).minuteCount = s.minuteCount ∧ (s.meterReading p reading).backup = s.backup ∧ (s.meterReading p
    reading).notices = s.notices ∧ (s.meterReading p reading).link = s.link ∧ (s.meterReading p reading).pending
    = s.pending := by
  unfold State.meterReading
  (repeat' split) <;> simp

@[simp] theorem State.meterOutcome_frame (outcome : ExchangeOutcome) (data : List Octet) :
    (s.meterOutcome outcome data).power = s.power ∧ (s.meterOutcome outcome data).species = s.species ∧
    (s.meterOutcome outcome data).schedules = s.schedules ∧ (s.meterOutcome outcome data).kilns = s.kilns ∧
    (s.meterOutcome outcome data).ports = s.ports ∧ (s.meterOutcome outcome data).reports = s.reports ∧
    (s.meterOutcome outcome data).assignments = s.assignments ∧ (s.meterOutcome outcome data).presence =
    s.presence ∧ (s.meterOutcome outcome data).sweeps = s.sweeps ∧ (s.meterOutcome outcome data).packs = s.packs
    ∧ (s.meterOutcome outcome data).label = s.label ∧ (s.meterOutcome outcome data).minuteCount = s.minuteCount
    ∧ (s.meterOutcome outcome data).backup = s.backup ∧ (s.meterOutcome outcome data).notices = s.notices ∧
    (s.meterOutcome outcome data).link = s.link ∧ (s.meterOutcome outcome data).pending = s.pending := by
  unfold State.meterOutcome
  dsimp only
  (repeat' split) <;> simp

@[simp] theorem State.meterPortLost_frame :
    (s.meterPortLost).power = s.power ∧ (s.meterPortLost).species = s.species ∧ (s.meterPortLost).schedules =
    s.schedules ∧ (s.meterPortLost).kilns = s.kilns ∧ (s.meterPortLost).ports = s.ports ∧
    (s.meterPortLost).reports = s.reports ∧ (s.meterPortLost).assignments = s.assignments ∧
    (s.meterPortLost).presence = s.presence ∧ (s.meterPortLost).sweeps = s.sweeps ∧ (s.meterPortLost).packs =
    s.packs ∧ (s.meterPortLost).label = s.label ∧ (s.meterPortLost).minuteCount = s.minuteCount ∧
    (s.meterPortLost).backup = s.backup ∧ (s.meterPortLost).notices = s.notices ∧ (s.meterPortLost).link =
    s.link ∧ (s.meterPortLost).pending = s.pending := by
  unfold State.meterPortLost
  (repeat' split) <;> simp

@[simp] theorem State.countPiece_frame (charge : Option Charge) (intoQueue : Bool) :
    (s.countPiece charge intoQueue).power = s.power ∧ (s.countPiece charge intoQueue).species = s.species ∧
    (s.countPiece charge intoQueue).schedules = s.schedules ∧ (s.countPiece charge intoQueue).kilns = s.kilns ∧
    (s.countPiece charge intoQueue).ports = s.ports ∧ (s.countPiece charge intoQueue).reports = s.reports ∧
    (s.countPiece charge intoQueue).assignments = s.assignments ∧ (s.countPiece charge intoQueue).presence =
    s.presence ∧ (s.countPiece charge intoQueue).sweeps = s.sweeps ∧ (s.countPiece charge intoQueue).bays =
    s.bays ∧ (s.countPiece charge intoQueue).packs = s.packs ∧ (s.countPiece charge intoQueue).label = s.label ∧
    (s.countPiece charge intoQueue).minuteCount = s.minuteCount ∧ (s.countPiece charge intoQueue).backup =
    s.backup ∧ (s.countPiece charge intoQueue).notices = s.notices ∧ (s.countPiece charge intoQueue).link =
    s.link ∧ (s.countPiece charge intoQueue).pending = s.pending := by
  unfold State.countPiece
  (repeat' split) <;> simp

@[simp] theorem State.overflowPiece_frame :
    (s.overflowPiece).power = s.power ∧ (s.overflowPiece).species = s.species ∧ (s.overflowPiece).schedules =
    s.schedules ∧ (s.overflowPiece).kilns = s.kilns ∧ (s.overflowPiece).ports = s.ports ∧
    (s.overflowPiece).reports = s.reports ∧ (s.overflowPiece).assignments = s.assignments ∧
    (s.overflowPiece).presence = s.presence ∧ (s.overflowPiece).sweeps = s.sweeps ∧ (s.overflowPiece).bays =
    s.bays ∧ (s.overflowPiece).packs = s.packs ∧ (s.overflowPiece).label = s.label ∧
    (s.overflowPiece).minuteCount = s.minuteCount ∧ (s.overflowPiece).backup = s.backup ∧ (s.overflowPiece).link
    = s.link ∧ (s.overflowPiece).pending = s.pending := by
  simp [State.overflowPiece]

@[simp] theorem State.appendPiece_frame (lead : Position) :
    (s.appendPiece lead).power = s.power ∧ (s.appendPiece lead).species = s.species ∧ (s.appendPiece
    lead).schedules = s.schedules ∧ (s.appendPiece lead).kilns = s.kilns ∧ (s.appendPiece lead).reports =
    s.reports ∧ (s.appendPiece lead).assignments = s.assignments ∧ (s.appendPiece lead).presence = s.presence ∧
    (s.appendPiece lead).sweeps = s.sweeps ∧ (s.appendPiece lead).bays = s.bays ∧ (s.appendPiece lead).packs =
    s.packs ∧ (s.appendPiece lead).label = s.label ∧ (s.appendPiece lead).minuteCount = s.minuteCount ∧
    (s.appendPiece lead).backup = s.backup ∧ (s.appendPiece lead).link = s.link ∧ (s.appendPiece lead).pending =
    s.pending := by
  unfold State.appendPiece
  dsimp only
  (repeat' split) <;> simp

@[simp] theorem State.takeLead_frame (lead : Position) :
    (s.takeLead lead).power = s.power ∧ (s.takeLead lead).species = s.species ∧ (s.takeLead lead).schedules =
    s.schedules ∧ (s.takeLead lead).kilns = s.kilns ∧ (s.takeLead lead).reports = s.reports ∧ (s.takeLead
    lead).assignments = s.assignments ∧ (s.takeLead lead).presence = s.presence ∧ (s.takeLead lead).sweeps =
    s.sweeps ∧ (s.takeLead lead).bays = s.bays ∧ (s.takeLead lead).packs = s.packs ∧ (s.takeLead lead).label =
    s.label ∧ (s.takeLead lead).minuteCount = s.minuteCount ∧ (s.takeLead lead).backup = s.backup ∧ (s.takeLead
    lead).link = s.link ∧ (s.takeLead lead).pending = s.pending := by
  unfold State.takeLead
  dsimp only
  (repeat' split) <;> simp

@[simp] theorem State.takeTrail_frame (trail : Position) :
    (s.takeTrail trail).power = s.power ∧ (s.takeTrail trail).species = s.species ∧ (s.takeTrail
    trail).schedules = s.schedules ∧ (s.takeTrail trail).kilns = s.kilns ∧ (s.takeTrail trail).ports = s.ports ∧
    (s.takeTrail trail).reports = s.reports ∧ (s.takeTrail trail).assignments = s.assignments ∧ (s.takeTrail
    trail).presence = s.presence ∧ (s.takeTrail trail).sweeps = s.sweeps ∧ (s.takeTrail trail).packs = s.packs ∧
    (s.takeTrail trail).label = s.label ∧ (s.takeTrail trail).minuteCount = s.minuteCount ∧ (s.takeTrail
    trail).backup = s.backup ∧ (s.takeTrail trail).notices = s.notices ∧ (s.takeTrail trail).link = s.link ∧
    (s.takeTrail trail).pending = s.pending := by
  unfold State.takeTrail
  dsimp only
  (repeat' split) <;> simp

@[simp] theorem State.filteredEdge_frame (blocked : Bool) (p : Position) :
    (s.filteredEdge blocked p).power = s.power ∧ (s.filteredEdge blocked p).species = s.species ∧
    (s.filteredEdge blocked p).schedules = s.schedules ∧ (s.filteredEdge blocked p).kilns = s.kilns ∧
    (s.filteredEdge blocked p).reports = s.reports ∧ (s.filteredEdge blocked p).assignments = s.assignments ∧
    (s.filteredEdge blocked p).presence = s.presence ∧ (s.filteredEdge blocked p).sweeps = s.sweeps ∧
    (s.filteredEdge blocked p).packs = s.packs ∧ (s.filteredEdge blocked p).label = s.label ∧ (s.filteredEdge
    blocked p).minuteCount = s.minuteCount ∧ (s.filteredEdge blocked p).backup = s.backup ∧ (s.filteredEdge
    blocked p).link = s.link ∧ (s.filteredEdge blocked p).pending = s.pending := by
  unfold State.filteredEdge
  dsimp only
  (repeat' split) <;> simp

@[simp] theorem State.changeEye_frame (level : Bool) :
    (s.changeEye level).power = s.power ∧ (s.changeEye level).species = s.species ∧ (s.changeEye
    level).schedules = s.schedules ∧ (s.changeEye level).kilns = s.kilns ∧ (s.changeEye level).reports =
    s.reports ∧ (s.changeEye level).assignments = s.assignments ∧ (s.changeEye level).presence = s.presence ∧
    (s.changeEye level).sweeps = s.sweeps ∧ (s.changeEye level).packs = s.packs ∧ (s.changeEye level).label =
    s.label ∧ (s.changeEye level).minuteCount = s.minuteCount ∧ (s.changeEye level).backup = s.backup ∧
    (s.changeEye level).link = s.link ∧ (s.changeEye level).pending = s.pending := by
  unfold State.changeEye
  dsimp only
  (repeat' split) <;> simp

@[simp] theorem State.eyeFilterOver_frame :
    (s.eyeFilterOver).power = s.power ∧ (s.eyeFilterOver).species = s.species ∧ (s.eyeFilterOver).schedules =
    s.schedules ∧ (s.eyeFilterOver).kilns = s.kilns ∧ (s.eyeFilterOver).reports = s.reports ∧
    (s.eyeFilterOver).assignments = s.assignments ∧ (s.eyeFilterOver).presence = s.presence ∧
    (s.eyeFilterOver).sweeps = s.sweeps ∧ (s.eyeFilterOver).packs = s.packs ∧ (s.eyeFilterOver).label = s.label
    ∧ (s.eyeFilterOver).minuteCount = s.minuteCount ∧ (s.eyeFilterOver).backup = s.backup ∧
    (s.eyeFilterOver).link = s.link ∧ (s.eyeFilterOver).pending = s.pending := by
  unfold State.eyeFilterOver
  (repeat' split) <;> simp

@[simp] theorem State.jamPiece_frame (p : Piece) :
    (s.jamPiece p).power = s.power ∧ (s.jamPiece p).species = s.species ∧ (s.jamPiece p).schedules = s.schedules
    ∧ (s.jamPiece p).kilns = s.kilns ∧ (s.jamPiece p).ports = s.ports ∧ (s.jamPiece p).reports = s.reports ∧
    (s.jamPiece p).assignments = s.assignments ∧ (s.jamPiece p).presence = s.presence ∧ (s.jamPiece p).sweeps =
    s.sweeps ∧ (s.jamPiece p).bays = s.bays ∧ (s.jamPiece p).packs = s.packs ∧ (s.jamPiece p).label = s.label ∧
    (s.jamPiece p).minuteCount = s.minuteCount ∧ (s.jamPiece p).backup = s.backup ∧ (s.jamPiece p).link = s.link
    ∧ (s.jamPiece p).pending = s.pending := by
  simp [State.jamPiece]

@[simp] theorem State.pulseDivert_frame :
    (s.pulseDivert).power = s.power ∧ (s.pulseDivert).species = s.species ∧ (s.pulseDivert).schedules =
    s.schedules ∧ (s.pulseDivert).charges = s.charges ∧ (s.pulseDivert).kilns = s.kilns ∧ (s.pulseDivert).ports
    = s.ports ∧ (s.pulseDivert).reports = s.reports ∧ (s.pulseDivert).assignments = s.assignments ∧
    (s.pulseDivert).presence = s.presence ∧ (s.pulseDivert).sweeps = s.sweeps ∧ (s.pulseDivert).bays = s.bays ∧
    (s.pulseDivert).packs = s.packs ∧ (s.pulseDivert).label = s.label ∧ (s.pulseDivert).minuteCount =
    s.minuteCount ∧ (s.pulseDivert).backup = s.backup ∧ (s.pulseDivert).notices = s.notices ∧
    (s.pulseDivert).link = s.link ∧ (s.pulseDivert).pending = s.pending := by
  simp [State.pulseDivert]

@[simp] theorem State.divertPiece_frame (p : Piece) :
    (s.divertPiece p).power = s.power ∧ (s.divertPiece p).species = s.species ∧ (s.divertPiece p).schedules =
    s.schedules ∧ (s.divertPiece p).kilns = s.kilns ∧ (s.divertPiece p).ports = s.ports ∧ (s.divertPiece
    p).reports = s.reports ∧ (s.divertPiece p).assignments = s.assignments ∧ (s.divertPiece p).presence =
    s.presence ∧ (s.divertPiece p).sweeps = s.sweeps ∧ (s.divertPiece p).bays = s.bays ∧ (s.divertPiece p).packs
    = s.packs ∧ (s.divertPiece p).label = s.label ∧ (s.divertPiece p).minuteCount = s.minuteCount ∧
    (s.divertPiece p).backup = s.backup ∧ (s.divertPiece p).notices = s.notices ∧ (s.divertPiece p).link =
    s.link ∧ (s.divertPiece p).pending = s.pending := by
  unfold State.divertPiece
  (repeat' split) <;> simp

@[simp] theorem State.settleAtGate_frame (p : Piece) :
    (s.settleAtGate p).power = s.power ∧ (s.settleAtGate p).species = s.species ∧ (s.settleAtGate p).schedules =
    s.schedules ∧ (s.settleAtGate p).charges = s.charges ∧ (s.settleAtGate p).bays = s.bays ∧ (s.settleAtGate p).kilns = s.kilns ∧ (s.settleAtGate p).ports = s.ports ∧ (s.settleAtGate
    p).reports = s.reports ∧ (s.settleAtGate p).assignments = s.assignments ∧ (s.settleAtGate p).presence =
    s.presence ∧ (s.settleAtGate p).sweeps = s.sweeps ∧ (s.settleAtGate p).packs = s.packs ∧ (s.settleAtGate
    p).label = s.label ∧ (s.settleAtGate p).minuteCount = s.minuteCount ∧ (s.settleAtGate p).backup = s.backup ∧
    (s.settleAtGate p).notices = s.notices ∧ (s.settleAtGate p).link = s.link ∧ (s.settleAtGate p).pending =
    s.pending := by
  unfold State.settleAtGate
  (repeat' split) <;> simp

@[simp] theorem State.atGate_frame (p : Piece) :
    (s.atGate p).power = s.power ∧ (s.atGate p).species = s.species ∧ (s.atGate
    p).schedules = s.schedules ∧ (s.atGate p).kilns = s.kilns ∧ (s.atGate p).ports =
    s.ports ∧ (s.atGate p).reports = s.reports ∧ (s.atGate p).assignments = s.assignments ∧
    (s.atGate p).presence = s.presence ∧ (s.atGate p).sweeps = s.sweeps ∧ (s.atGate
    p).packs = s.packs ∧ (s.atGate p).label = s.label ∧ (s.atGate p).minuteCount =
    s.minuteCount ∧ (s.atGate p).backup = s.backup ∧ (s.atGate p).link = s.link ∧ (s.atGate
    p).pending = s.pending := by
  unfold State.atGate
  (repeat' split) <;> simp

@[simp] theorem State.atStacker_frame (p : Piece) :
    (s.atStacker p).power = s.power ∧ (s.atStacker p).species = s.species ∧ (s.atStacker
    p).schedules = s.schedules ∧ (s.atStacker p).kilns = s.kilns ∧ (s.atStacker p).reports
    = s.reports ∧ (s.atStacker p).assignments = s.assignments ∧ (s.atStacker p).presence =
    s.presence ∧ (s.atStacker p).sweeps = s.sweeps ∧ (s.atStacker p).minuteCount = s.minuteCount ∧
    (s.atStacker p).link = s.link ∧ (s.atStacker p).pending = s.pending := by
  unfold State.atStacker
  (repeat' split) <;> simp

@[simp] theorem State.moveCounter_frame (counter : Position) :
    (s.moveCounter counter).power = s.power ∧ (s.moveCounter counter).species = s.species ∧ (s.moveCounter
    counter).schedules = s.schedules ∧ (s.moveCounter counter).kilns = s.kilns ∧ (s.moveCounter counter).reports
    = s.reports ∧ (s.moveCounter counter).assignments = s.assignments ∧ (s.moveCounter counter).presence =
    s.presence ∧ (s.moveCounter counter).sweeps = s.sweeps ∧ (s.moveCounter counter).minuteCount = s.minuteCount
    ∧ (s.moveCounter counter).link = s.link ∧ (s.moveCounter counter).pending = s.pending := by
  refine ⟨?_, ?_, ?_, ?_, ?_, ?_, ?_, ?_, ?_, ?_, ?_⟩
  · simp [State.moveCounter, foldl_keeps (·.power) State.atStacker, foldl_keeps (·.power) State.atGate]
  · simp [State.moveCounter, foldl_keeps (·.species) State.atStacker, foldl_keeps (·.species) State.atGate]
  · simp [State.moveCounter, foldl_keeps (·.schedules) State.atStacker, foldl_keeps (·.schedules) State.atGate]
  · simp [State.moveCounter, foldl_keeps (·.kilns) State.atStacker, foldl_keeps (·.kilns) State.atGate]
  · simp [State.moveCounter, foldl_keeps (·.reports) State.atStacker, foldl_keeps (·.reports) State.atGate]
  · simp [State.moveCounter, foldl_keeps (·.assignments) State.atStacker, foldl_keeps (·.assignments) State.atGate]
  · simp [State.moveCounter, foldl_keeps (·.presence) State.atStacker, foldl_keeps (·.presence) State.atGate]
  · simp [State.moveCounter, foldl_keeps (·.sweeps) State.atStacker, foldl_keeps (·.sweeps) State.atGate]
  · simp [State.moveCounter, foldl_keeps (·.minuteCount) State.atStacker, foldl_keeps (·.minuteCount) State.atGate]
  · simp [State.moveCounter, foldl_keeps (·.link) State.atStacker, foldl_keeps (·.link) State.atGate]
  · simp [State.moveCounter, foldl_keeps (·.pending) State.atStacker, foldl_keeps (·.pending) State.atGate]

@[simp] theorem State.clearPiece_frame (p : Piece) :
    (s.clearPiece p).power = s.power ∧ (s.clearPiece p).species = s.species ∧ (s.clearPiece p).schedules =
    s.schedules ∧ (s.clearPiece p).kilns = s.kilns ∧ (s.clearPiece p).reports = s.reports ∧ (s.clearPiece
    p).assignments = s.assignments ∧ (s.clearPiece p).presence = s.presence ∧ (s.clearPiece p).sweeps = s.sweeps
    ∧ (s.clearPiece p).minuteCount = s.minuteCount ∧ (s.clearPiece p).link = s.link ∧ (s.clearPiece p).pending =
    s.pending := by
  unfold State.clearPiece
  (repeat' split) <;> simp

@[simp] theorem State.clearLine_frame :
    (s.clearLine).power = s.power ∧ (s.clearLine).species = s.species ∧ (s.clearLine).schedules = s.schedules ∧
    (s.clearLine).kilns = s.kilns ∧ (s.clearLine).reports = s.reports ∧ (s.clearLine).assignments =
    s.assignments ∧ (s.clearLine).presence = s.presence ∧ (s.clearLine).sweeps = s.sweeps ∧
    (s.clearLine).minuteCount = s.minuteCount ∧ (s.clearLine).link = s.link ∧ (s.clearLine).pending = s.pending := by
  refine ⟨?_, ?_, ?_, ?_, ?_, ?_, ?_, ?_, ?_, ?_, ?_⟩
  · simp [State.clearLine, foldl_keeps (·.power) State.clearPiece]
  · simp [State.clearLine, foldl_keeps (·.species) State.clearPiece]
  · simp [State.clearLine, foldl_keeps (·.schedules) State.clearPiece]
  · simp [State.clearLine, foldl_keeps (·.kilns) State.clearPiece]
  · simp [State.clearLine, foldl_keeps (·.reports) State.clearPiece]
  · simp [State.clearLine, foldl_keeps (·.assignments) State.clearPiece]
  · simp [State.clearLine, foldl_keeps (·.presence) State.clearPiece]
  · simp [State.clearLine, foldl_keeps (·.sweeps) State.clearPiece]
  · simp [State.clearLine, foldl_keeps (·.minuteCount) State.clearPiece]
  · simp [State.clearLine, foldl_keeps (·.link) State.clearPiece]
  · simp [State.clearLine, foldl_keeps (·.pending) State.clearPiece]

/-! ### The field ports' events -/

@[simp] theorem State.closeExchange_frame (p : PortNo) (outcome : ExchangeOutcome) :
    (s.closeExchange p outcome).power = s.power ∧ (s.closeExchange p outcome).species = s.species ∧
    (s.closeExchange p outcome).schedules = s.schedules ∧ (s.closeExchange p outcome).charges = s.charges ∧
    (s.closeExchange p outcome).kilns = s.kilns ∧ (s.closeExchange p outcome).reports = s.reports ∧
    (s.closeExchange p outcome).assignments = s.assignments ∧ (s.closeExchange p outcome).presence = s.presence
    ∧ (s.closeExchange p outcome).sweeps = s.sweeps ∧ (s.closeExchange p outcome).line = s.line ∧
    (s.closeExchange p outcome).bays = s.bays ∧ (s.closeExchange p outcome).packs = s.packs ∧ (s.closeExchange p
    outcome).label = s.label ∧ (s.closeExchange p outcome).minuteCount = s.minuteCount ∧ (s.closeExchange p
    outcome).backup = s.backup ∧ (s.closeExchange p outcome).notices = s.notices ∧ (s.closeExchange p
    outcome).link = s.link ∧ (s.closeExchange p outcome).pending = s.pending := by
  simp [State.closeExchange]

@[simp] theorem State.handOutcome_frame (p : PortNo) (e : Exchange) (outcome : ExchangeOutcome) (reply : StationReply) :
    (s.handOutcome p e outcome reply).power = s.power ∧ (s.handOutcome p e outcome reply).species = s.species ∧
    (s.handOutcome p e outcome reply).schedules = s.schedules ∧ (s.handOutcome p e outcome reply).reports =
    s.reports ∧ (s.handOutcome p e outcome reply).assignments = s.assignments ∧ (s.handOutcome p e outcome
    reply).minuteCount = s.minuteCount ∧ (s.handOutcome p e outcome reply).link = s.link ∧ (s.handOutcome p e
    outcome reply).pending = s.pending := by
  unfold State.handOutcome
  (repeat' split) <;> simp

@[simp] theorem State.failureLimitReached_frame (p : PortNo) :
    (s.failureLimitReached p).power = s.power ∧ (s.failureLimitReached p).species = s.species ∧
    (s.failureLimitReached p).schedules = s.schedules ∧ (s.failureLimitReached p).charges = s.charges ∧
    (s.failureLimitReached p).assignments = s.assignments ∧ (s.failureLimitReached p).presence = s.presence ∧
    (s.failureLimitReached p).sweeps = s.sweeps ∧ (s.failureLimitReached p).line = s.line ∧
    (s.failureLimitReached p).bays = s.bays ∧ (s.failureLimitReached p).packs = s.packs ∧ (s.failureLimitReached
    p).label = s.label ∧ (s.failureLimitReached p).minuteCount = s.minuteCount ∧ (s.failureLimitReached
    p).backup = s.backup ∧ (s.failureLimitReached p).notices = s.notices ∧ (s.failureLimitReached p).link =
    s.link ∧ (s.failureLimitReached p).pending = s.pending := by
  simp [State.failureLimitReached]

@[simp] theorem State.stationFailed_frame (p : PortNo) :
    (s.stationFailed p).power = s.power ∧ (s.stationFailed p).species = s.species ∧ (s.stationFailed
    p).schedules = s.schedules ∧ (s.stationFailed p).charges = s.charges ∧ (s.stationFailed p).assignments =
    s.assignments ∧ (s.stationFailed p).presence = s.presence ∧ (s.stationFailed p).sweeps = s.sweeps ∧
    (s.stationFailed p).line = s.line ∧ (s.stationFailed p).bays = s.bays ∧ (s.stationFailed p).packs = s.packs
    ∧ (s.stationFailed p).label = s.label ∧ (s.stationFailed p).minuteCount = s.minuteCount ∧ (s.stationFailed
    p).backup = s.backup ∧ (s.stationFailed p).notices = s.notices ∧ (s.stationFailed p).link = s.link ∧
    (s.stationFailed p).pending = s.pending := by
  unfold State.stationFailed
  dsimp only
  (repeat' split) <;> simp

@[simp] theorem State.applyInUp_frame (p : PortNo) (e : Exchange) (outcome : ExchangeOutcome) (reply : StationReply) :
    (s.applyInUp p e outcome reply).power = s.power ∧ (s.applyInUp p e outcome reply).species = s.species ∧
    (s.applyInUp p e outcome reply).schedules = s.schedules ∧ (s.applyInUp p e outcome reply).charges =
    s.charges ∧ (s.applyInUp p e outcome reply).assignments = s.assignments ∧ (s.applyInUp p e outcome
    reply).presence = s.presence ∧ (s.applyInUp p e outcome reply).sweeps = s.sweeps ∧ (s.applyInUp p e outcome
    reply).line = s.line ∧ (s.applyInUp p e outcome reply).bays = s.bays ∧ (s.applyInUp p e outcome reply).packs
    = s.packs ∧ (s.applyInUp p e outcome reply).label = s.label ∧ (s.applyInUp p e outcome reply).minuteCount =
    s.minuteCount ∧ (s.applyInUp p e outcome reply).backup = s.backup ∧ (s.applyInUp p e outcome reply).notices
    = s.notices ∧ (s.applyInUp p e outcome reply).link = s.link ∧ (s.applyInUp p e outcome reply).pending =
    s.pending := by
  unfold State.applyInUp
  (repeat' split) <;> simp

@[simp] theorem State.identifyFailed_frame (p : PortNo) :
    (s.identifyFailed p).power = s.power ∧ (s.identifyFailed p).species = s.species ∧ (s.identifyFailed
    p).schedules = s.schedules ∧ (s.identifyFailed p).charges = s.charges ∧ (s.identifyFailed p).kilns = s.kilns
    ∧ (s.identifyFailed p).reports = s.reports ∧ (s.identifyFailed p).assignments = s.assignments ∧
    (s.identifyFailed p).presence = s.presence ∧ (s.identifyFailed p).sweeps = s.sweeps ∧ (s.identifyFailed
    p).line = s.line ∧ (s.identifyFailed p).bays = s.bays ∧ (s.identifyFailed p).packs = s.packs ∧
    (s.identifyFailed p).label = s.label ∧ (s.identifyFailed p).minuteCount = s.minuteCount ∧ (s.identifyFailed
    p).backup = s.backup ∧ (s.identifyFailed p).link = s.link ∧ (s.identifyFailed p).pending = s.pending := by
  unfold State.identifyFailed
  (repeat' split) <;> simp

@[simp] theorem State.applyInEstablishing_frame (p : PortNo) (outcome : ExchangeOutcome) (reply : StationReply) :
    (s.applyInEstablishing p outcome reply).power = s.power ∧ (s.applyInEstablishing p outcome reply).species =
    s.species ∧ (s.applyInEstablishing p outcome reply).schedules = s.schedules ∧ (s.applyInEstablishing p
    outcome reply).charges = s.charges ∧ (s.applyInEstablishing p outcome reply).kilns = s.kilns ∧
    (s.applyInEstablishing p outcome reply).assignments = s.assignments ∧ (s.applyInEstablishing p outcome
    reply).presence = s.presence ∧ (s.applyInEstablishing p outcome reply).sweeps = s.sweeps ∧
    (s.applyInEstablishing p outcome reply).line = s.line ∧ (s.applyInEstablishing p outcome reply).bays =
    s.bays ∧ (s.applyInEstablishing p outcome reply).packs = s.packs ∧ (s.applyInEstablishing p outcome
    reply).label = s.label ∧ (s.applyInEstablishing p outcome reply).minuteCount = s.minuteCount ∧
    (s.applyInEstablishing p outcome reply).backup = s.backup ∧ (s.applyInEstablishing p outcome reply).link =
    s.link ∧ (s.applyInEstablishing p outcome reply).pending = s.pending := by
  unfold State.applyInEstablishing
  (repeat' split) <;> simp

@[simp] theorem State.applyOutcome_frame (p : PortNo) (e : Exchange) (outcome : ExchangeOutcome) (reply : StationReply) :
    (s.applyOutcome p e outcome reply).power = s.power ∧ (s.applyOutcome p e outcome reply).species = s.species
    ∧ (s.applyOutcome p e outcome reply).schedules = s.schedules ∧ (s.applyOutcome p e outcome reply).charges =
    s.charges ∧ (s.applyOutcome p e outcome reply).assignments = s.assignments ∧ (s.applyOutcome p e outcome
    reply).presence = s.presence ∧ (s.applyOutcome p e outcome reply).sweeps = s.sweeps ∧ (s.applyOutcome p e
    outcome reply).line = s.line ∧ (s.applyOutcome p e outcome reply).bays = s.bays ∧ (s.applyOutcome p e
    outcome reply).packs = s.packs ∧ (s.applyOutcome p e outcome reply).label = s.label ∧ (s.applyOutcome p e
    outcome reply).minuteCount = s.minuteCount ∧ (s.applyOutcome p e outcome reply).backup = s.backup ∧
    (s.applyOutcome p e outcome reply).link = s.link ∧ (s.applyOutcome p e outcome reply).pending = s.pending := by
  unfold State.applyOutcome
  (repeat' split) <;> simp

@[simp] theorem State.endExchange_frame (p : PortNo) (outcome : ExchangeOutcome) (reply : StationReply) :
    (s.endExchange p outcome reply).power = s.power ∧ (s.endExchange p outcome reply).species = s.species ∧
    (s.endExchange p outcome reply).schedules = s.schedules ∧ (s.endExchange p outcome reply).assignments =
    s.assignments ∧ (s.endExchange p outcome reply).minuteCount = s.minuteCount ∧ (s.endExchange p outcome
    reply).link = s.link ∧ (s.endExchange p outcome reply).pending = s.pending := by
  unfold State.endExchange
  (repeat' split) <;> simp

@[simp] theorem State.requestSent_frame (p : PortNo) :
    (s.requestSent p).power = s.power ∧ (s.requestSent p).species = s.species ∧ (s.requestSent p).schedules =
    s.schedules ∧ (s.requestSent p).charges = s.charges ∧ (s.requestSent p).kilns = s.kilns ∧ (s.requestSent
    p).reports = s.reports ∧ (s.requestSent p).assignments = s.assignments ∧ (s.requestSent p).presence =
    s.presence ∧ (s.requestSent p).sweeps = s.sweeps ∧ (s.requestSent p).line = s.line ∧ (s.requestSent p).bays
    = s.bays ∧ (s.requestSent p).packs = s.packs ∧ (s.requestSent p).label = s.label ∧ (s.requestSent
    p).minuteCount = s.minuteCount ∧ (s.requestSent p).backup = s.backup ∧ (s.requestSent p).notices = s.notices
    ∧ (s.requestSent p).link = s.link ∧ (s.requestSent p).pending = s.pending := by
  unfold State.requestSent
  (repeat' split) <;> simp

@[simp] theorem State.windowOver_frame (p : PortNo) :
    (s.windowOver p).power = s.power ∧ (s.windowOver p).species = s.species ∧ (s.windowOver p).schedules =
    s.schedules ∧ (s.windowOver p).assignments = s.assignments ∧ (s.windowOver p).minuteCount = s.minuteCount ∧
    (s.windowOver p).link = s.link ∧ (s.windowOver p).pending = s.pending := by
  unfold State.windowOver
  (repeat' split) <;> simp

@[simp] theorem State.octetSilence_frame (p : PortNo) :
    (s.octetSilence p).power = s.power ∧ (s.octetSilence p).species = s.species ∧ (s.octetSilence p).schedules =
    s.schedules ∧ (s.octetSilence p).assignments = s.assignments ∧ (s.octetSilence p).minuteCount =
    s.minuteCount ∧ (s.octetSilence p).link = s.link ∧ (s.octetSilence p).pending = s.pending := by
  unfold State.octetSilence
  (repeat' split) <;> simp

@[simp] theorem State.receiveReplyOctet_frame (p : PortNo) (e : Exchange) (octets : List Octet) (octet : Octet) (error : Bool) :
    (s.receiveReplyOctet p e octets octet error).power = s.power ∧ (s.receiveReplyOctet p e octets octet
    error).species = s.species ∧ (s.receiveReplyOctet p e octets octet error).schedules = s.schedules ∧
    (s.receiveReplyOctet p e octets octet error).assignments = s.assignments ∧ (s.receiveReplyOctet p e octets
    octet error).minuteCount = s.minuteCount ∧ (s.receiveReplyOctet p e octets octet error).link = s.link ∧
    (s.receiveReplyOctet p e octets octet error).pending = s.pending := by
  unfold State.receiveReplyOctet
  dsimp only
  (repeat' split) <;> simp

@[simp] theorem State.receiveFieldOctet_frame (p : PortNo) (octet : Octet) (error : Bool) :
    (s.receiveFieldOctet p octet error).power = s.power ∧ (s.receiveFieldOctet p octet error).species =
    s.species ∧ (s.receiveFieldOctet p octet error).schedules = s.schedules ∧ (s.receiveFieldOctet p octet
    error).assignments = s.assignments ∧ (s.receiveFieldOctet p octet error).minuteCount = s.minuteCount ∧
    (s.receiveFieldOctet p octet error).link = s.link ∧ (s.receiveFieldOctet p octet error).pending = s.pending := by
  unfold State.receiveFieldOctet
  (repeat' split) <;> simp

@[simp] theorem State.faultExchange_frame (p : PortNo) :
    (s.faultExchange p).power = s.power ∧ (s.faultExchange p).species = s.species ∧ (s.faultExchange
    p).schedules = s.schedules ∧ (s.faultExchange p).reports = s.reports ∧ (s.faultExchange p).assignments =
    s.assignments ∧ (s.faultExchange p).minuteCount = s.minuteCount ∧ (s.faultExchange p).link = s.link ∧
    (s.faultExchange p).pending = s.pending := by
  unfold State.faultExchange
  (repeat' split) <;> simp

@[simp] theorem State.enterFaulted_frame (p : PortNo) :
    (s.enterFaulted p).power = s.power ∧ (s.enterFaulted p).species = s.species ∧ (s.enterFaulted p).schedules =
    s.schedules ∧ (s.enterFaulted p).charges = s.charges ∧ (s.enterFaulted p).kilns = s.kilns ∧ (s.enterFaulted
    p).reports = s.reports ∧ (s.enterFaulted p).assignments = s.assignments ∧ (s.enterFaulted p).presence =
    s.presence ∧ (s.enterFaulted p).sweeps = s.sweeps ∧ (s.enterFaulted p).line = s.line ∧ (s.enterFaulted
    p).bays = s.bays ∧ (s.enterFaulted p).packs = s.packs ∧ (s.enterFaulted p).label = s.label ∧ (s.enterFaulted
    p).minuteCount = s.minuteCount ∧ (s.enterFaulted p).backup = s.backup ∧ (s.enterFaulted p).link = s.link ∧
    (s.enterFaulted p).pending = s.pending := by
  unfold State.enterFaulted
  dsimp only
  (repeat' split) <;> simp

@[simp] theorem State.takeLineFault_frame (p : PortNo) :
    (s.takeLineFault p).power = s.power ∧ (s.takeLineFault p).species = s.species ∧ (s.takeLineFault
    p).schedules = s.schedules ∧ (s.takeLineFault p).assignments = s.assignments ∧ (s.takeLineFault
    p).minuteCount = s.minuteCount ∧ (s.takeLineFault p).link = s.link ∧ (s.takeLineFault p).pending = s.pending := by
  unfold State.takeLineFault
  dsimp only
  (repeat' split) <;> simp

@[simp] theorem State.disable_frame (p : PortNo) :
    (s.disable p).power = s.power ∧ (s.disable p).species = s.species ∧ (s.disable p).schedules = s.schedules ∧
    (s.disable p).charges = s.charges ∧ (s.disable p).assignments = s.assignments ∧ (s.disable p).presence =
    s.presence ∧ (s.disable p).sweeps = s.sweeps ∧ (s.disable p).line = s.line ∧ (s.disable p).bays = s.bays ∧
    (s.disable p).packs = s.packs ∧ (s.disable p).label = s.label ∧ (s.disable p).minuteCount = s.minuteCount ∧
    (s.disable p).backup = s.backup ∧ (s.disable p).notices = s.notices ∧ (s.disable p).link = s.link ∧
    (s.disable p).pending = s.pending := by
  unfold State.disable
  dsimp only
  (repeat' split) <;> simp

@[simp] theorem State.silentWaitOver_frame (p : PortNo) :
    (s.silentWaitOver p).power = s.power ∧ (s.silentWaitOver p).species = s.species ∧ (s.silentWaitOver
    p).schedules = s.schedules ∧ (s.silentWaitOver p).charges = s.charges ∧ (s.silentWaitOver p).kilns = s.kilns
    ∧ (s.silentWaitOver p).reports = s.reports ∧ (s.silentWaitOver p).assignments = s.assignments ∧
    (s.silentWaitOver p).presence = s.presence ∧ (s.silentWaitOver p).sweeps = s.sweeps ∧ (s.silentWaitOver
    p).line = s.line ∧ (s.silentWaitOver p).bays = s.bays ∧ (s.silentWaitOver p).packs = s.packs ∧
    (s.silentWaitOver p).label = s.label ∧ (s.silentWaitOver p).minuteCount = s.minuteCount ∧ (s.silentWaitOver
    p).backup = s.backup ∧ (s.silentWaitOver p).notices = s.notices ∧ (s.silentWaitOver p).link = s.link ∧
    (s.silentWaitOver p).pending = s.pending := by
  unfold State.silentWaitOver
  (repeat' split) <;> simp

@[simp] theorem State.controllerIntervalOver_frame (k : KilnNo) :
    (s.controllerIntervalOver k).power = s.power ∧ (s.controllerIntervalOver k).species = s.species ∧
    (s.controllerIntervalOver k).schedules = s.schedules ∧ (s.controllerIntervalOver k).charges = s.charges ∧
    (s.controllerIntervalOver k).kilns = s.kilns ∧ (s.controllerIntervalOver k).reports = s.reports ∧
    (s.controllerIntervalOver k).assignments = s.assignments ∧ (s.controllerIntervalOver k).presence =
    s.presence ∧ (s.controllerIntervalOver k).sweeps = s.sweeps ∧ (s.controllerIntervalOver k).line = s.line ∧
    (s.controllerIntervalOver k).bays = s.bays ∧ (s.controllerIntervalOver k).packs = s.packs ∧
    (s.controllerIntervalOver k).label = s.label ∧ (s.controllerIntervalOver k).minuteCount = s.minuteCount ∧
    (s.controllerIntervalOver k).backup = s.backup ∧ (s.controllerIntervalOver k).notices = s.notices ∧
    (s.controllerIntervalOver k).link = s.link ∧ (s.controllerIntervalOver k).pending = s.pending := by
  unfold State.controllerIntervalOver
  (repeat' split) <;> simp

@[simp] theorem State.idleWaitOver_frame (p : PortNo) :
    (s.idleWaitOver p).power = s.power ∧ (s.idleWaitOver p).species = s.species ∧ (s.idleWaitOver p).schedules =
    s.schedules ∧ (s.idleWaitOver p).charges = s.charges ∧ (s.idleWaitOver p).kilns = s.kilns ∧ (s.idleWaitOver
    p).reports = s.reports ∧ (s.idleWaitOver p).assignments = s.assignments ∧ (s.idleWaitOver p).presence =
    s.presence ∧ (s.idleWaitOver p).sweeps = s.sweeps ∧ (s.idleWaitOver p).line = s.line ∧ (s.idleWaitOver
    p).bays = s.bays ∧ (s.idleWaitOver p).packs = s.packs ∧ (s.idleWaitOver p).label = s.label ∧ (s.idleWaitOver
    p).minuteCount = s.minuteCount ∧ (s.idleWaitOver p).backup = s.backup ∧ (s.idleWaitOver p).notices =
    s.notices ∧ (s.idleWaitOver p).link = s.link ∧ (s.idleWaitOver p).pending = s.pending := by
  unfold State.idleWaitOver
  dsimp only
  (repeat' split) <;> simp

/-! ### Resets and the clock -/

@[simp] theorem State.resetKept_frame (straps : Straps) :
    (s.resetKept straps).backup = s.backup ∧ (s.resetKept straps).pending = s.pending := by
  refine ⟨?_, ?_⟩
  · rw [State.resetKept]; simp; rfl
  · rw [State.resetKept]; simp; rfl

@[simp] theorem State.powerOnReset_frame (straps : Straps) :
    (s.powerOnReset straps).pending = s.pending := by
  unfold State.powerOnReset; split <;> simp [State.volatileReset]

@[simp] theorem State.stilled_frame (power : Power) :
    (s.stilled power).backup = s.backup ∧ (s.stilled power).pending = s.pending := by
  exact ⟨rfl, rfl⟩

@[simp] theorem State.moveResetPin_frame (edge : ResetEdge) (straps : Straps) :
    (s.moveResetPin edge straps).backup = s.backup ∧ (s.moveResetPin edge straps).pending = s.pending := by
  unfold State.moveResetPin; split <;> simp

@[simp] theorem State.setClock_frame (t : DateTime) (valid : Bool) :
    (s.setClock t valid).power = s.power ∧ (s.setClock t valid).species = s.species ∧ (s.setClock t
    valid).schedules = s.schedules ∧ (s.setClock t valid).charges = s.charges ∧ (s.setClock t valid).kilns =
    s.kilns ∧ (s.setClock t valid).ports = s.ports ∧ (s.setClock t valid).reports = s.reports ∧ (s.setClock t
    valid).assignments = s.assignments ∧ (s.setClock t valid).presence = s.presence ∧ (s.setClock t
    valid).sweeps = s.sweeps ∧ (s.setClock t valid).line = s.line ∧ (s.setClock t valid).bays = s.bays ∧
    (s.setClock t valid).packs = s.packs ∧ (s.setClock t valid).label = s.label ∧ (s.setClock t
    valid).minuteCount = s.minuteCount ∧ (s.setClock t valid).notices = s.notices ∧ (s.setClock t valid).link =
    s.link ∧ (s.setClock t valid).pending = s.pending := by
  simp [State.setClock]

@[simp] theorem State.advanceClock_frame :
    (s.advanceClock).power = s.power ∧ (s.advanceClock).species = s.species ∧ (s.advanceClock).schedules =
    s.schedules ∧ (s.advanceClock).charges = s.charges ∧ (s.advanceClock).kilns = s.kilns ∧
    (s.advanceClock).ports = s.ports ∧ (s.advanceClock).reports = s.reports ∧ (s.advanceClock).assignments =
    s.assignments ∧ (s.advanceClock).presence = s.presence ∧ (s.advanceClock).sweeps = s.sweeps ∧
    (s.advanceClock).line = s.line ∧ (s.advanceClock).bays = s.bays ∧ (s.advanceClock).packs = s.packs ∧
    (s.advanceClock).label = s.label ∧ (s.advanceClock).minuteCount = s.minuteCount ∧ (s.advanceClock).link =
    s.link ∧ (s.advanceClock).pending = s.pending := by
  unfold State.advanceClock State.whenOn; (repeat' split) <;> simp

/-! ### The link's requests -/

@[simp] theorem State.takeContinue_frame :
    (s.takeContinue).power = s.power ∧ (s.takeContinue).species = s.species ∧ (s.takeContinue).schedules =
    s.schedules ∧ (s.takeContinue).charges = s.charges ∧ (s.takeContinue).kilns = s.kilns ∧
    (s.takeContinue).ports = s.ports ∧ (s.takeContinue).reports = s.reports ∧ (s.takeContinue).assignments =
    s.assignments ∧ (s.takeContinue).presence = s.presence ∧ (s.takeContinue).sweeps = s.sweeps ∧
    (s.takeContinue).line = s.line ∧ (s.takeContinue).bays = s.bays ∧ (s.takeContinue).packs = s.packs ∧
    (s.takeContinue).label = s.label ∧ (s.takeContinue).minuteCount = s.minuteCount ∧ (s.takeContinue).backup =
    s.backup ∧ (s.takeContinue).notices = s.notices ∧ (s.takeContinue).pending = s.pending := by
  unfold State.takeContinue
  dsimp only
  (repeat' split) <;> simp

@[simp] theorem State.popFrame_frame :
    (s.popFrame).power = s.power ∧ (s.popFrame).species = s.species ∧ (s.popFrame).schedules = s.schedules ∧
    (s.popFrame).charges = s.charges ∧ (s.popFrame).kilns = s.kilns ∧ (s.popFrame).ports = s.ports ∧
    (s.popFrame).reports = s.reports ∧ (s.popFrame).assignments = s.assignments ∧ (s.popFrame).presence =
    s.presence ∧ (s.popFrame).sweeps = s.sweeps ∧ (s.popFrame).line = s.line ∧ (s.popFrame).bays = s.bays ∧
    (s.popFrame).packs = s.packs ∧ (s.popFrame).label = s.label ∧ (s.popFrame).minuteCount = s.minuteCount ∧
    (s.popFrame).backup = s.backup ∧ (s.popFrame).notices = s.notices ∧ (s.popFrame).pending = s.pending := by
  simp [State.popFrame]

@[simp] theorem State.replyDone_frame (straps : Straps) :
    (s.replyDone straps).backup = s.backup ∧ (s.replyDone straps).pending = s.pending := by
  unfold State.replyDone; (repeat' split) <;> simp

@[simp] theorem State.busyDone_frame :
    (s.busyDone).power = s.power ∧ (s.busyDone).species = s.species ∧ (s.busyDone).schedules = s.schedules ∧
    (s.busyDone).charges = s.charges ∧ (s.busyDone).kilns = s.kilns ∧ (s.busyDone).ports = s.ports ∧
    (s.busyDone).reports = s.reports ∧ (s.busyDone).assignments = s.assignments ∧ (s.busyDone).presence =
    s.presence ∧ (s.busyDone).sweeps = s.sweeps ∧ (s.busyDone).line = s.line ∧ (s.busyDone).bays = s.bays ∧
    (s.busyDone).packs = s.packs ∧ (s.busyDone).label = s.label ∧ (s.busyDone).minuteCount = s.minuteCount ∧
    (s.busyDone).backup = s.backup ∧ (s.busyDone).notices = s.notices ∧ (s.busyDone).pending = s.pending := by
  unfold State.busyDone
  (repeat' split) <;> simp

/-! ### The table store's requests -/

@[simp] theorem State.putSpecies_frame (e : SpeciesEntry) :
    (s.putSpecies e).power = s.power ∧ (s.putSpecies e).schedules = s.schedules ∧ (s.putSpecies e).charges =
    s.charges ∧ (s.putSpecies e).kilns = s.kilns ∧ (s.putSpecies e).ports = s.ports ∧ (s.putSpecies e).reports =
    s.reports ∧ (s.putSpecies e).assignments = s.assignments ∧ (s.putSpecies e).presence = s.presence ∧
    (s.putSpecies e).sweeps = s.sweeps ∧ (s.putSpecies e).line = s.line ∧ (s.putSpecies e).bays = s.bays ∧
    (s.putSpecies e).packs = s.packs ∧ (s.putSpecies e).label = s.label ∧ (s.putSpecies e).minuteCount =
    s.minuteCount ∧ (s.putSpecies e).backup = s.backup ∧ (s.putSpecies e).notices = s.notices ∧ (s.putSpecies
    e).link = s.link ∧ (s.putSpecies e).pending = s.pending := by
  simp [State.putSpecies]

@[simp] theorem State.setSchedule_frame (i : Fin 8) (x : Option Schedule) :
    (s.setSchedule i x).power = s.power ∧ (s.setSchedule i x).species = s.species ∧ (s.setSchedule i x).charges
    = s.charges ∧ (s.setSchedule i x).kilns = s.kilns ∧ (s.setSchedule i x).ports = s.ports ∧ (s.setSchedule i
    x).reports = s.reports ∧ (s.setSchedule i x).assignments = s.assignments ∧ (s.setSchedule i x).presence =
    s.presence ∧ (s.setSchedule i x).sweeps = s.sweeps ∧ (s.setSchedule i x).line = s.line ∧ (s.setSchedule i
    x).bays = s.bays ∧ (s.setSchedule i x).packs = s.packs ∧ (s.setSchedule i x).label = s.label ∧
    (s.setSchedule i x).minuteCount = s.minuteCount ∧ (s.setSchedule i x).backup = s.backup ∧ (s.setSchedule i
    x).notices = s.notices ∧ (s.setSchedule i x).link = s.link ∧ (s.setSchedule i x).pending = s.pending := by
  simp [State.setSchedule]

/-! ### The charge table's requests -/

@[simp] theorem State.clearInfeed_frame :
    (s.clearInfeed).power = s.power ∧ (s.clearInfeed).species = s.species ∧ (s.clearInfeed).schedules =
    s.schedules ∧ (s.clearInfeed).kilns = s.kilns ∧ (s.clearInfeed).ports = s.ports ∧ (s.clearInfeed).reports =
    s.reports ∧ (s.clearInfeed).assignments = s.assignments ∧ (s.clearInfeed).presence = s.presence ∧
    (s.clearInfeed).sweeps = s.sweeps ∧ (s.clearInfeed).line = s.line ∧ (s.clearInfeed).bays = s.bays ∧
    (s.clearInfeed).packs = s.packs ∧ (s.clearInfeed).label = s.label ∧ (s.clearInfeed).minuteCount =
    s.minuteCount ∧ (s.clearInfeed).backup = s.backup ∧ (s.clearInfeed).notices = s.notices ∧
    (s.clearInfeed).link = s.link ∧ (s.clearInfeed).pending = s.pending := by
  simp [State.clearInfeed]

/-! ### The kiln supervisor's requests -/

@[simp] theorem State.loadKiln_frame (k : KilnNo) (e : SpeciesEntry) (id : Nat) (x : Schedule) :
    (s.loadKiln k e id x).power = s.power ∧ (s.loadKiln k e id x).species = s.species ∧ (s.loadKiln k e id
    x).schedules = s.schedules ∧ (s.loadKiln k e id x).ports = s.ports ∧ (s.loadKiln k e id x).reports =
    s.reports ∧ (s.loadKiln k e id x).assignments = s.assignments ∧ (s.loadKiln k e id x).line = s.line ∧
    (s.loadKiln k e id x).bays = s.bays ∧ (s.loadKiln k e id x).packs = s.packs ∧ (s.loadKiln k e id x).label =
    s.label ∧ (s.loadKiln k e id x).minuteCount = s.minuteCount ∧ (s.loadKiln k e id x).notices = s.notices ∧
    (s.loadKiln k e id x).link = s.link ∧ (s.loadKiln k e id x).pending = s.pending := by
  simp [State.loadKiln]

@[simp] theorem State.releaseHost_frame (k : KilnNo) :
    (s.releaseHost k).power = s.power ∧ (s.releaseHost k).species = s.species ∧ (s.releaseHost k).schedules =
    s.schedules ∧ (s.releaseHost k).charges = s.charges ∧ (s.releaseHost k).ports = s.ports ∧ (s.releaseHost
    k).reports = s.reports ∧ (s.releaseHost k).assignments = s.assignments ∧ (s.releaseHost k).presence =
    s.presence ∧ (s.releaseHost k).sweeps = s.sweeps ∧ (s.releaseHost k).line = s.line ∧ (s.releaseHost k).bays
    = s.bays ∧ (s.releaseHost k).packs = s.packs ∧ (s.releaseHost k).label = s.label ∧ (s.releaseHost
    k).minuteCount = s.minuteCount ∧ (s.releaseHost k).notices = s.notices ∧ (s.releaseHost k).link = s.link ∧
    (s.releaseHost k).pending = s.pending := by
  simp [State.releaseHost]

@[simp] theorem State.releaseOvertime_frame (k : KilnNo) :
    (s.releaseOvertime k).power = s.power ∧ (s.releaseOvertime k).species = s.species ∧ (s.releaseOvertime
    k).schedules = s.schedules ∧ (s.releaseOvertime k).charges = s.charges ∧ (s.releaseOvertime k).ports =
    s.ports ∧ (s.releaseOvertime k).reports = s.reports ∧ (s.releaseOvertime k).assignments = s.assignments ∧
    (s.releaseOvertime k).presence = s.presence ∧ (s.releaseOvertime k).sweeps = s.sweeps ∧ (s.releaseOvertime
    k).line = s.line ∧ (s.releaseOvertime k).bays = s.bays ∧ (s.releaseOvertime k).packs = s.packs ∧
    (s.releaseOvertime k).label = s.label ∧ (s.releaseOvertime k).minuteCount = s.minuteCount ∧
    (s.releaseOvertime k).notices = s.notices ∧ (s.releaseOvertime k).link = s.link ∧ (s.releaseOvertime
    k).pending = s.pending := by
  simp [State.releaseOvertime]

@[simp] theorem State.unloadKiln_frame (k : KilnNo) :
    (s.unloadKiln k).power = s.power ∧ (s.unloadKiln k).species = s.species ∧ (s.unloadKiln k).schedules =
    s.schedules ∧ (s.unloadKiln k).reports = s.reports ∧ (s.unloadKiln k).assignments = s.assignments ∧
    (s.unloadKiln k).line = s.line ∧ (s.unloadKiln k).bays = s.bays ∧ (s.unloadKiln k).packs = s.packs ∧
    (s.unloadKiln k).label = s.label ∧ (s.unloadKiln k).minuteCount = s.minuteCount ∧ (s.unloadKiln k).notices =
    s.notices ∧ (s.unloadKiln k).link = s.link ∧ (s.unloadKiln k).pending = s.pending := by
  simp [State.unloadKiln]

/-! ### The probe unit's requests -/

@[simp] theorem State.chooseFullScan_frame (k : KilnNo) (full : Bool) :
    (s.chooseFullScan k full).power = s.power ∧ (s.chooseFullScan k full).species = s.species ∧
    (s.chooseFullScan k full).schedules = s.schedules ∧ (s.chooseFullScan k full).charges = s.charges ∧
    (s.chooseFullScan k full).kilns = s.kilns ∧ (s.chooseFullScan k full).ports = s.ports ∧ (s.chooseFullScan k
    full).reports = s.reports ∧ (s.chooseFullScan k full).assignments = s.assignments ∧ (s.chooseFullScan k
    full).presence = s.presence ∧ (s.chooseFullScan k full).line = s.line ∧ (s.chooseFullScan k full).bays =
    s.bays ∧ (s.chooseFullScan k full).packs = s.packs ∧ (s.chooseFullScan k full).label = s.label ∧
    (s.chooseFullScan k full).minuteCount = s.minuteCount ∧ (s.chooseFullScan k full).backup = s.backup ∧
    (s.chooseFullScan k full).notices = s.notices ∧ (s.chooseFullScan k full).link = s.link ∧ (s.chooseFullScan
    k full).pending = s.pending := by
  unfold State.chooseFullScan
  (repeat' split) <;> simp

@[simp] theorem State.forgetEntry_frame (e : PresenceEntry) :
    (s.forgetEntry e).power = s.power ∧ (s.forgetEntry e).species = s.species ∧ (s.forgetEntry e).schedules =
    s.schedules ∧ (s.forgetEntry e).reports = s.reports ∧ (s.forgetEntry e).assignments = s.assignments ∧
    (s.forgetEntry e).line = s.line ∧ (s.forgetEntry e).bays = s.bays ∧ (s.forgetEntry e).packs = s.packs ∧
    (s.forgetEntry e).label = s.label ∧ (s.forgetEntry e).minuteCount = s.minuteCount ∧ (s.forgetEntry e).link =
    s.link ∧ (s.forgetEntry e).pending = s.pending := by
  simp [State.forgetEntry]

@[simp] theorem State.probePortUp_frame (k : KilnNo) :
    (s.probePortUp k).power = s.power ∧ (s.probePortUp k).species = s.species ∧ (s.probePortUp k).schedules =
    s.schedules ∧ (s.probePortUp k).charges = s.charges ∧ (s.probePortUp k).kilns = s.kilns ∧ (s.probePortUp
    k).ports = s.ports ∧ (s.probePortUp k).reports = s.reports ∧ (s.probePortUp k).assignments = s.assignments ∧
    (s.probePortUp k).presence = s.presence ∧ (s.probePortUp k).line = s.line ∧ (s.probePortUp k).bays = s.bays
    ∧ (s.probePortUp k).packs = s.packs ∧ (s.probePortUp k).label = s.label ∧ (s.probePortUp k).minuteCount =
    s.minuteCount ∧ (s.probePortUp k).backup = s.backup ∧ (s.probePortUp k).notices = s.notices ∧ (s.probePortUp
    k).link = s.link ∧ (s.probePortUp k).pending = s.pending := by
  simp [State.probePortUp]

@[simp] theorem State.probePortLeftUp_frame (k : KilnNo) :
    (s.probePortLeftUp k).power = s.power ∧ (s.probePortLeftUp k).species = s.species ∧ (s.probePortLeftUp
    k).schedules = s.schedules ∧ (s.probePortLeftUp k).charges = s.charges ∧ (s.probePortLeftUp k).kilns =
    s.kilns ∧ (s.probePortLeftUp k).ports = s.ports ∧ (s.probePortLeftUp k).reports = s.reports ∧
    (s.probePortLeftUp k).assignments = s.assignments ∧ (s.probePortLeftUp k).presence = s.presence ∧
    (s.probePortLeftUp k).line = s.line ∧ (s.probePortLeftUp k).bays = s.bays ∧ (s.probePortLeftUp k).packs =
    s.packs ∧ (s.probePortLeftUp k).label = s.label ∧ (s.probePortLeftUp k).minuteCount = s.minuteCount ∧
    (s.probePortLeftUp k).backup = s.backup ∧ (s.probePortLeftUp k).notices = s.notices ∧ (s.probePortLeftUp
    k).link = s.link ∧ (s.probePortLeftUp k).pending = s.pending := by
  unfold State.probePortLeftUp
  (repeat' split) <;> simp

@[simp] theorem State.sweepIntervalOver_frame (k : KilnNo) :
    (s.sweepIntervalOver k).power = s.power ∧ (s.sweepIntervalOver k).species = s.species ∧ (s.sweepIntervalOver
    k).schedules = s.schedules ∧ (s.sweepIntervalOver k).reports = s.reports ∧ (s.sweepIntervalOver
    k).assignments = s.assignments ∧ (s.sweepIntervalOver k).presence = s.presence ∧ (s.sweepIntervalOver
    k).line = s.line ∧ (s.sweepIntervalOver k).bays = s.bays ∧ (s.sweepIntervalOver k).packs = s.packs ∧
    (s.sweepIntervalOver k).label = s.label ∧ (s.sweepIntervalOver k).minuteCount = s.minuteCount ∧
    (s.sweepIntervalOver k).link = s.link ∧ (s.sweepIntervalOver k).pending = s.pending := by
  unfold State.sweepIntervalOver
  dsimp only
  (repeat' split) <;> simp

/-! ### The planer line's events -/

@[simp] theorem State.encoderMoves_frame (move : EncoderMove) :
    (s.encoderMoves move).power = s.power ∧ (s.encoderMoves move).species = s.species ∧ (s.encoderMoves
    move).schedules = s.schedules ∧ (s.encoderMoves move).kilns = s.kilns ∧ (s.encoderMoves move).reports =
    s.reports ∧ (s.encoderMoves move).assignments = s.assignments ∧ (s.encoderMoves move).presence = s.presence
    ∧ (s.encoderMoves move).sweeps = s.sweeps ∧ (s.encoderMoves move).minuteCount = s.minuteCount ∧
    (s.encoderMoves move).link = s.link ∧ (s.encoderMoves move).pending = s.pending := by
  unfold State.encoderMoves
  (repeat' split) <;> simp

/-! ### The pack builder's requests -/

@[simp] theorem State.beginClosing_frame (b : BayNo) :
    (s.beginClosing b).power = s.power ∧ (s.beginClosing b).species = s.species ∧ (s.beginClosing b).schedules =
    s.schedules ∧ (s.beginClosing b).charges = s.charges ∧ (s.beginClosing b).kilns = s.kilns ∧ (s.beginClosing
    b).reports = s.reports ∧ (s.beginClosing b).assignments = s.assignments ∧ (s.beginClosing b).presence =
    s.presence ∧ (s.beginClosing b).sweeps = s.sweeps ∧ (s.beginClosing b).minuteCount = s.minuteCount ∧
    (s.beginClosing b).link = s.link ∧ (s.beginClosing b).pending = s.pending := by
  unfold State.beginClosing
  dsimp only
  (repeat' split) <;> simp

@[simp] theorem State.reprintLabel_frame (r : PackRecord) :
    (s.reprintLabel r).power = s.power ∧ (s.reprintLabel r).species = s.species ∧ (s.reprintLabel r).schedules =
    s.schedules ∧ (s.reprintLabel r).charges = s.charges ∧ (s.reprintLabel r).kilns = s.kilns ∧ (s.reprintLabel
    r).reports = s.reports ∧ (s.reprintLabel r).assignments = s.assignments ∧ (s.reprintLabel r).presence =
    s.presence ∧ (s.reprintLabel r).sweeps = s.sweeps ∧ (s.reprintLabel r).line = s.line ∧ (s.reprintLabel
    r).minuteCount = s.minuteCount ∧ (s.reprintLabel r).backup = s.backup ∧ (s.reprintLabel r).notices =
    s.notices ∧ (s.reprintLabel r).link = s.link ∧ (s.reprintLabel r).pending = s.pending := by
  simp [State.reprintLabel]

/-! ### Power -/

@[simp] theorem State.loseKeepLevel_frame :
    (s.loseKeepLevel).power = s.power ∧ (s.loseKeepLevel).species = s.species ∧ (s.loseKeepLevel).schedules =
    s.schedules ∧ (s.loseKeepLevel).charges = s.charges ∧ (s.loseKeepLevel).kilns = s.kilns ∧
    (s.loseKeepLevel).ports = s.ports ∧ (s.loseKeepLevel).reports = s.reports ∧ (s.loseKeepLevel).assignments =
    s.assignments ∧ (s.loseKeepLevel).presence = s.presence ∧ (s.loseKeepLevel).sweeps = s.sweeps ∧
    (s.loseKeepLevel).line = s.line ∧ (s.loseKeepLevel).bays = s.bays ∧ (s.loseKeepLevel).packs = s.packs ∧
    (s.loseKeepLevel).label = s.label ∧ (s.loseKeepLevel).minuteCount = s.minuteCount ∧
    (s.loseKeepLevel).notices = s.notices ∧ (s.loseKeepLevel).link = s.link ∧ (s.loseKeepLevel).pending =
    s.pending := by
  unfold State.loseKeepLevel
  (repeat' split) <;> simp

end Sys2Proof.Machine
end

