-- ==== Sys2Proof/Laws/PerInstr.lean ====
section
/-!
SUPPORT. One lemma per command about its frame: a request's payload begins with the kind octet of R197 and, when the
request is well formed, is no longer than the 240 octets a frame carries (R182); an event has no frame.
-/
namespace Sys2Proof.Laws

/-- The length of the breakpoints of a WRITE-SPECIES. -/
theorem breakpoints_length (curve : List (Nat × Nat)) :
    (curve.flatMap breakpointOctets).length = 4 * curve.length := by
  induction curve with
  | nil => rfl
  | cons p rest ih =>
    simp only [List.flatMap_cons, List.length_append, ih, List.length_cons, breakpointOctets, u16, List.length_nil]
    omega

/-- The length of the steps of a WRITE-SCHEDULE. -/
theorem steps_length (steps : List StepFields) : (steps.flatMap StepFields.octets).length = 11 * steps.length := by
  induction steps with
  | nil => rfl
  | cons f rest ih =>
    simp only [List.flatMap_cons, List.length_append, ih, List.length_cons, StepFields.octets, i16, u16, u8,
      List.length_nil]
    omega

/-- The length of the choices of a SET-MASKS. -/
theorem choices_length (choices : List Nat) : (choices.flatMap u8).length = choices.length := by
  induction choices with
  | nil => rfl
  | cons n rest ih =>
    simp only [List.flatMap_cons, List.length_append, ih, List.length_cons, u8, List.length_nil]
    omega

/-- The frame of a command. -/
def RequestKind.Statement (i : Instr) : Prop :=
  match encodeRequest i with
  | some payload => i.wf = true → payload.head? = kindCode i ∧ payload.length ≤ 240
  | none => kindCode i = none

theorem RequestKind.identify : RequestKind.Statement .identify := fun _ => ⟨rfl, Nat.le_of_ble_eq_true rfl⟩

theorem RequestKind.readCounters (subject choice : Nat) : RequestKind.Statement (.readCounters subject choice) :=
  fun _ => ⟨rfl, Nat.le_of_ble_eq_true rfl⟩

theorem RequestKind.restart : RequestKind.Statement .restart := fun _ => ⟨rfl, Nat.le_of_ble_eq_true rfl⟩

theorem RequestKind.continueReply : RequestKind.Statement .continueReply := fun _ => ⟨rfl, Nat.le_of_ble_eq_true rfl⟩

theorem RequestKind.writeSpecies (code kT packLimit : Nat) (curve : List (Nat × Nat)) :
    RequestKind.Statement (.writeSpecies code kT packLimit curve) := by
  intro h
  refine ⟨rfl, ?_⟩
  simp only [Instr.wf, Bool.and_eq_true, beq_iff_eq] at h
  simp only [requestFields, List.length_cons, List.length_append, breakpoints_length, u8, u16, List.length_nil, h.1.2]
  omega

theorem RequestKind.deleteSpecies (code : Nat) : RequestKind.Statement (.deleteSpecies code) :=
  fun _ => ⟨rfl, Nat.le_of_ble_eq_true rfl⟩

theorem RequestKind.readSpecies (code : Nat) : RequestKind.Statement (.readSpecies code) :=
  fun _ => ⟨rfl, Nat.le_of_ble_eq_true rfl⟩

theorem RequestKind.writeSchedule (id count : Nat) (steps : List StepFields) :
    RequestKind.Statement (.writeSchedule id count steps) := by
  intro h
  refine ⟨rfl, ?_⟩
  simp only [Instr.wf, Bool.and_eq_true, beq_iff_eq, decide_eq_true_eq] at h
  simp only [requestFields, List.length_cons, List.length_append, steps_length, u8, List.length_nil]
  omega

theorem RequestKind.deleteSchedule (id : Nat) : RequestKind.Statement (.deleteSchedule id) :=
  fun _ => ⟨rfl, Nat.le_of_ble_eq_true rfl⟩

theorem RequestKind.readSchedule (id : Nat) : RequestKind.Statement (.readSchedule id) :=
  fun _ => ⟨rfl, Nat.le_of_ble_eq_true rfl⟩

theorem RequestKind.listTables : RequestKind.Statement .listTables := fun _ => ⟨rfl, Nat.le_of_ble_eq_true rfl⟩

theorem RequestKind.setInfeed (number : Nat) : RequestKind.Statement (.setInfeed number) :=
  fun _ => ⟨rfl, Nat.le_of_ble_eq_true rfl⟩

theorem RequestKind.closeCharge (number : Nat) : RequestKind.Statement (.closeCharge number) :=
  fun _ => ⟨rfl, Nat.le_of_ble_eq_true rfl⟩

theorem RequestKind.readCharge (number : Nat) : RequestKind.Statement (.readCharge number) :=
  fun _ => ⟨rfl, Nat.le_of_ble_eq_true rfl⟩

theorem RequestKind.listCharges : RequestKind.Statement .listCharges := fun _ => ⟨rfl, Nat.le_of_ble_eq_true rfl⟩

theorem RequestKind.load (kiln species schedule : Nat) : RequestKind.Statement (.load kiln species schedule) :=
  fun _ => ⟨rfl, Nat.le_of_ble_eq_true rfl⟩

theorem RequestKind.start (kiln : Nat) : RequestKind.Statement (.start kiln) :=
  fun _ => ⟨rfl, Nat.le_of_ble_eq_true rfl⟩

theorem RequestKind.hold (kiln : Nat) : RequestKind.Statement (.hold kiln) :=
  fun _ => ⟨rfl, Nat.le_of_ble_eq_true rfl⟩

theorem RequestKind.release (kiln reason : Nat) : RequestKind.Statement (.release kiln reason) :=
  fun _ => ⟨rfl, Nat.le_of_ble_eq_true rfl⟩

theorem RequestKind.skip (kiln : Nat) : RequestKind.Statement (.skip kiln) :=
  fun _ => ⟨rfl, Nat.le_of_ble_eq_true rfl⟩

theorem RequestKind.unload (kiln : Nat) : RequestKind.Statement (.unload kiln) :=
  fun _ => ⟨rfl, Nat.le_of_ble_eq_true rfl⟩

theorem RequestKind.resume (kiln : Nat) : RequestKind.Statement (.resume kiln) :=
  fun _ => ⟨rfl, Nat.le_of_ble_eq_true rfl⟩

theorem RequestKind.abandon (kiln : Nat) : RequestKind.Statement (.abandon kiln) :=
  fun _ => ⟨rfl, Nat.le_of_ble_eq_true rfl⟩

theorem RequestKind.kilnConfig (kiln sweepInterval controllerInterval wetCount minimumProbes learning learnRole lossLimit jumpLimit smoothingShift : Nat) :
    RequestKind.Statement (.kilnConfig kiln sweepInterval controllerInterval wetCount minimumProbes learning learnRole lossLimit jumpLimit smoothingShift) :=
  fun _ => ⟨rfl, Nat.le_of_ble_eq_true rfl⟩

theorem RequestKind.readKiln (kiln : Nat) : RequestKind.Statement (.readKiln kiln) :=
  fun _ => ⟨rfl, Nat.le_of_ble_eq_true rfl⟩

theorem RequestKind.enablePort (port replyWindow failureLimit autoReestablish autoretry : Nat) :
    RequestKind.Statement (.enablePort port replyWindow failureLimit autoReestablish autoretry) :=
  fun _ => ⟨rfl, Nat.le_of_ble_eq_true rfl⟩

theorem RequestKind.disablePort (port : Nat) : RequestKind.Statement (.disablePort port) :=
  fun _ => ⟨rfl, Nat.le_of_ble_eq_true rfl⟩

theorem RequestKind.readPort (port : Nat) : RequestKind.Statement (.readPort port) :=
  fun _ => ⟨rfl, Nat.le_of_ble_eq_true rfl⟩

theorem RequestKind.assignProbe (serial kiln role tag : Nat) :
    RequestKind.Statement (.assignProbe serial kiln role tag) :=
  fun _ => ⟨rfl, Nat.le_of_ble_eq_true rfl⟩

theorem RequestKind.unassignProbe (serial : Nat) : RequestKind.Statement (.unassignProbe serial) :=
  fun _ => ⟨rfl, Nat.le_of_ble_eq_true rfl⟩

theorem RequestKind.listAssignments : RequestKind.Statement .listAssignments := fun _ => ⟨rfl, Nat.le_of_ble_eq_true rfl⟩

theorem RequestKind.sweepNow (kiln choice : Nat) : RequestKind.Statement (.sweepNow kiln choice) :=
  fun _ => ⟨rfl, Nat.le_of_ble_eq_true rfl⟩

theorem RequestKind.readProbes (kiln : Nat) : RequestKind.Statement (.readProbes kiln) :=
  fun _ => ⟨rfl, Nat.le_of_ble_eq_true rfl⟩

theorem RequestKind.forgetProbe (serial : Nat) : RequestKind.Statement (.forgetProbe serial) :=
  fun _ => ⟨rfl, Nat.le_of_ble_eq_true rfl⟩

theorem RequestKind.lineConfig (countsPerMetre divertDistance stackDistance shortLimit polarity glitchFilter : Nat) :
    RequestKind.Statement (.lineConfig countsPerMetre divertDistance stackDistance shortLimit polarity glitchFilter) :=
  fun _ => ⟨rfl, Nat.le_of_ble_eq_true rfl⟩

theorem RequestKind.lineClear : RequestKind.Statement .lineClear := fun _ => ⟨rfl, Nat.le_of_ble_eq_true rfl⟩

theorem RequestKind.readLine : RequestKind.Statement .readLine := fun _ => ⟨rfl, Nat.le_of_ble_eq_true rfl⟩

theorem RequestKind.bayConfig (bay enabled minimum maximum nominal target : Nat) :
    RequestKind.Statement (.bayConfig bay enabled minimum maximum nominal target) :=
  fun _ => ⟨rfl, Nat.le_of_ble_eq_true rfl⟩

theorem RequestKind.closePack (bay : Nat) : RequestKind.Statement (.closePack bay) :=
  fun _ => ⟨rfl, Nat.le_of_ble_eq_true rfl⟩

theorem RequestKind.reprint (serial : Nat) : RequestKind.Statement (.reprint serial) :=
  fun _ => ⟨rfl, Nat.le_of_ble_eq_true rfl⟩

theorem RequestKind.voidLabel (serial : Nat) : RequestKind.Statement (.voidLabel serial) :=
  fun _ => ⟨rfl, Nat.le_of_ble_eq_true rfl⟩

theorem RequestKind.readPack (serial : Nat) : RequestKind.Statement (.readPack serial) :=
  fun _ => ⟨rfl, Nat.le_of_ble_eq_true rfl⟩

theorem RequestKind.listPacks : RequestKind.Statement .listPacks := fun _ => ⟨rfl, Nat.le_of_ble_eq_true rfl⟩

theorem RequestKind.collectPack (serial : Nat) : RequestKind.Statement (.collectPack serial) :=
  fun _ => ⟨rfl, Nat.le_of_ble_eq_true rfl⟩

theorem RequestKind.readBay (bay : Nat) : RequestKind.Statement (.readBay bay) :=
  fun _ => ⟨rfl, Nat.le_of_ble_eq_true rfl⟩

theorem RequestKind.labelConfig (timeout : Nat) : RequestKind.Statement (.labelConfig timeout) :=
  fun _ => ⟨rfl, Nat.le_of_ble_eq_true rfl⟩

theorem RequestKind.setClock (year month day hour minute second : Nat) :
    RequestKind.Statement (.setClock year month day hour minute second) :=
  fun _ => ⟨rfl, Nat.le_of_ble_eq_true rfl⟩

theorem RequestKind.readClock : RequestKind.Statement .readClock := fun _ => ⟨rfl, Nat.le_of_ble_eq_true rfl⟩

theorem RequestKind.readRetained : RequestKind.Statement .readRetained := fun _ => ⟨rfl, Nat.le_of_ble_eq_true rfl⟩

theorem RequestKind.takeNotice : RequestKind.Statement .takeNotice := fun _ => ⟨rfl, Nat.le_of_ble_eq_true rfl⟩

theorem RequestKind.peekNotices : RequestKind.Statement .peekNotices := fun _ => ⟨rfl, Nat.le_of_ble_eq_true rfl⟩

theorem RequestKind.setMasks (choices : List Nat) : RequestKind.Statement (.setMasks choices) := by
  intro h
  refine ⟨rfl, ?_⟩
  simp only [Instr.wf, Bool.and_eq_true, beq_iff_eq] at h
  simp only [requestFields, List.length_cons, choices_length, h.1]
  omega

theorem RequestKind.linkOctetReceived (octet : Octet) (framingError : Bool) :
    RequestKind.Statement (.linkOctetReceived octet framingError) :=
  rfl

theorem RequestKind.linkSilenceExpiry : RequestKind.Statement .linkSilenceExpiry := rfl

theorem RequestKind.replySent (straps : Straps) : RequestKind.Statement (.replySent straps) := rfl

theorem RequestKind.busyReplySent : RequestKind.Statement .busyReplySent := rfl

theorem RequestKind.powerOn (straps : Straps) : RequestKind.Statement (.powerOn straps) := rfl

theorem RequestKind.resetPin (edge : ResetEdge) (straps : Straps) : RequestKind.Statement (.resetPin edge straps) :=
  rfl

theorem RequestKind.powerFail : RequestKind.Statement .powerFail := rfl

theorem RequestKind.keepLevelLoss : RequestKind.Statement .keepLevelLoss := rfl

theorem RequestKind.minuteEvent (kiln : KilnNo) : RequestKind.Statement (.minuteEvent kiln) := rfl

theorem RequestKind.clockSecond : RequestKind.Statement .clockSecond := rfl

theorem RequestKind.fieldRequestSent (port : PortNo) : RequestKind.Statement (.fieldRequestSent port) := rfl

theorem RequestKind.replyWindowExpiry (port : PortNo) : RequestKind.Statement (.replyWindowExpiry port) := rfl

theorem RequestKind.fieldOctetReceived (port : PortNo) (octet : Octet) (error : Bool) :
    RequestKind.Statement (.fieldOctetReceived port octet error) :=
  rfl

theorem RequestKind.fieldOctetSilence (port : PortNo) : RequestKind.Statement (.fieldOctetSilence port) := rfl

theorem RequestKind.fieldSilentWaitExpiry (port : PortNo) : RequestKind.Statement (.fieldSilentWaitExpiry port) := rfl

theorem RequestKind.lineFault (port : PortNo) : RequestKind.Statement (.lineFault port) := rfl

theorem RequestKind.wakePulseEnd (port : PortNo) : RequestKind.Statement (.wakePulseEnd port) := rfl

theorem RequestKind.wakeWaitExpiry (port : PortNo) : RequestKind.Statement (.wakeWaitExpiry port) := rfl

theorem RequestKind.attemptGapExpiry (port : PortNo) : RequestKind.Statement (.attemptGapExpiry port) := rfl

theorem RequestKind.autoretryExpiry (port : PortNo) : RequestKind.Statement (.autoretryExpiry port) := rfl

theorem RequestKind.reestablishExpiry (port : PortNo) : RequestKind.Statement (.reestablishExpiry port) := rfl

theorem RequestKind.controllerIntervalExpiry (kiln : KilnNo) :
    RequestKind.Statement (.controllerIntervalExpiry kiln) :=
  rfl

theorem RequestKind.idleWaitExpiry (port : PortNo) : RequestKind.Statement (.idleWaitExpiry port) := rfl

theorem RequestKind.controllerLost (kiln : KilnNo) : RequestKind.Statement (.controllerLost kiln) := rfl

theorem RequestKind.kilnPortUp (kiln : KilnNo) : RequestKind.Statement (.kilnPortUp kiln) := rfl

theorem RequestKind.probePortUp (kiln : KilnNo) : RequestKind.Statement (.probePortUp kiln) := rfl

theorem RequestKind.probePortLeftUp (kiln : KilnNo) : RequestKind.Statement (.probePortLeftUp kiln) := rfl

theorem RequestKind.sweepIntervalExpiry (kiln : KilnNo) : RequestKind.Statement (.sweepIntervalExpiry kiln) := rfl

theorem RequestKind.encoderStep (move : EncoderMove) : RequestKind.Statement (.encoderStep move) := rfl

theorem RequestKind.eyeChange (level : Bool) : RequestKind.Statement (.eyeChange level) := rfl

theorem RequestKind.eyeFilterExpiry : RequestKind.Statement .eyeFilterExpiry := rfl

theorem RequestKind.meterPortLeftUp : RequestKind.Statement .meterPortLeftUp := rfl

theorem RequestKind.divertPulseExpiry : RequestKind.Statement .divertPulseExpiry := rfl

theorem RequestKind.labelPauseExpiry : RequestKind.Statement .labelPauseExpiry := rfl

theorem RequestKind.labelTimeoutExpiry : RequestKind.Statement .labelTimeoutExpiry := rfl

theorem RequestKind.labelPortUp : RequestKind.Statement .labelPortUp := rfl

theorem RequestKind.labelPortLeftUp : RequestKind.Statement .labelPortLeftUp := rfl

end Sys2Proof.Laws
end

