-- ==== Sys2Proof/Laws/Requests.lean ====
section
/-!
SUPPORT. What a request command can do, said once: taken by its owner (an OK reply or a refusal), refused BUSY, or without
effect while the part does not run; and the same for the events.
-/
namespace Sys2Proof.Machine

variable (s : State) (i : Instr)

/-! ### Segments (R189) -/

theorem cutSegments_ne_nil (fuel : Nat) (content : List Octet) : cutSegments fuel content ≠ [] := by
  cases fuel with
  | zero => simp [cutSegments]
  | succ n => simp only [cutSegments]; split <;> simp

theorem segmentsOf_ne_nil (content : List Octet) : segmentsOf content ≠ [] := cutSegments_ne_nil _ _

/-- A content of 235 octets or fewer is one segment. -/
theorem segmentsOf_short {content : List Octet} (h : content.length ≤ 235) : segmentsOf content = [content] := by
  unfold segmentsOf
  cases hl : content.length with
  | zero => simp [cutSegments]
  | succ n => simp only [cutSegments]; exact if_pos h

/-! ### The request in the buffer -/

theorem State.takes_iff : s.takes i = true ↔ s.power = .on ∧ (s.link.buffer = none ∨ s.link.awaits i = true) := by
  simp [State.takes]

/-- The state that an owner answers on: the buffer HELD by the request, all else as it was. -/
theorem State.holdRequest_eq (kind : Octet) (request : Option Instr) (answered : Bool) :
    s.holdRequest kind request answered =
      { s with link := { s.link with buffer := some { kind := kind, request := request, answered := answered } } } := rfl

/-! ### Replies -/

/-- An OK reply composed after the owner's work is `okReply` of that work. -/
theorem State.answerOk_eq (t : State) (content : List Octet)
    (h : t.link.buffer = some { kind := requestKind i, request := some i, answered := true }) :
    t.answerOk (requestKind i) content = t.okReply i content := by
  unfold State.answerOk State.okReply
  have hne := segmentsOf_ne_nil content
  split
  · contradiction
  · rename_i first rest hs
    simp [hs, State.compose, State.modifyLink, okPayload, statusCode, ReplyStore.ofSegments, h, List.isEmpty_iff]

theorem State.answerRefused_eq (status : Status) :
    (s.holdRequest (requestKind i) (some i) true).answerRefused (requestKind i) status = s.refusal i status := rfl

/-- The owner's answer OK to a request that is taken. -/
theorem performRequest_ok {owner : State → Answer} {content : List Octet} {after : State}
    (h : owner (s.holdRequest (requestKind i) (some i) true) = .ok content after)
    (hl : after.link.buffer = some { kind := requestKind i, request := some i, answered := true }) :
    performRequest (requestKind i) i owner s = after.okReply i content := by
  simp only [performRequest, h]
  exact State.answerOk_eq i after content hl

/-- The owner's refusal of a request that is taken. -/
theorem performRequest_refuse {owner : State → Answer} {status : Status}
    (h : owner (s.holdRequest (requestKind i) (some i) true) = .refuse status) :
    performRequest (requestKind i) i owner s = s.refusal i status := by
  simp only [performRequest, h]
  rfl

/-! ### A request command -/

theorem hostRequest_taken {owner : State → Answer} (h : s.takes i = true) :
    hostRequest i owner s = performRequest (requestKind i) i owner s := by
  obtain ⟨hp, hb⟩ := (State.takes_iff s i).mp h
  simp only [hostRequest, hp, requestKind]
  rw [if_pos]
  simpa using hb

theorem hostRequest_busy {owner : State → Answer} (h : s.busyFor i = true) :
    hostRequest i owner s = s.refuseBusy (requestKind i) := by
  simp only [State.busyFor, Bool.and_eq_true, beq_iff_eq, Bool.not_eq_true', Option.isSome_iff_ne_none] at h
  obtain ⟨⟨hp, hb⟩, ha⟩ := h
  simp only [hostRequest, hp, requestKind]
  rw [if_neg]
  simp [hb, ha]

theorem State.refuseBusy_eq (kind : Octet) : s.refuseBusy kind = s.busyReply kind := rfl

theorem hostRequest_still {owner : State → Answer} (h : s.power ≠ .on) : hostRequest i owner s = s := by
  unfold hostRequest
  cases hp : s.power <;> simp_all

/-- All that a request command can do. -/
theorem hostRequest_cases (owner : State → Answer) :
    (s.power ≠ .on ∧ hostRequest i owner s = s) ∨
    (s.takes i = true ∧ ∃ status, owner (s.holdRequest (requestKind i) (some i) true) = .refuse status ∧
      hostRequest i owner s = s.refusal i status) ∨
    (s.takes i = true ∧ ∃ content after, owner (s.holdRequest (requestKind i) (some i) true) = .ok content after ∧
      hostRequest i owner s = after.answerOk (requestKind i) content) ∨
    (s.busyFor i = true ∧ hostRequest i owner s = s.busyReply (requestKind i)) := by
  by_cases hp : s.power = .on
  · by_cases ht : s.takes i = true
    · right
      rw [hostRequest_taken s i ht]
      cases ho : owner (s.holdRequest (requestKind i) (some i) true) with
      | refuse status => exact .inl ⟨ht, status, rfl, performRequest_refuse s i ho⟩
      | ok content after =>
        refine .inr (.inl ⟨ht, content, after, rfl, ?_⟩)
        simp only [performRequest, ho]
    · have hb : s.busyFor i = true := by
        simp only [State.takes, State.busyFor, hp] at ht ⊢
        cases hbuf : s.link.buffer <;> simp_all
      exact .inr (.inr (.inr ⟨hb, by rw [hostRequest_busy s i hb]; rfl⟩))
  · exact .inl ⟨hp, hostRequest_still s i hp⟩

/-- What the owner keeps and the link's own work keeps, a request command keeps. -/
theorem hostRequest_keeps {β : Type} (f : State → β) (owner : State → Answer)
    (hl : ∀ (t : State) (g : Link → Link), f (t.modifyLink g) = f t)
    (ho : ∀ t content after, owner t = .ok content after → f after = f t) :
    f (hostRequest i owner s) = f s := by
  obtain ⟨_, h⟩ | ⟨_, status, _, h⟩ | ⟨_, content, after, h, h'⟩ | ⟨_, h⟩ := hostRequest_cases s i owner
  · rw [h]
  · rw [h]
    exact hl s fun l =>
      { l with
        buffer := some { kind := requestKind i, request := some i, answered := true },
        sending := l.sending ++
          [{ busy := false, octets := hostFrame (requestKind i :: statusCode status :: u16 s.notices.summary) }] }
  · rw [h']
    have : f (after.answerOk (requestKind i) content) = f after := by
      unfold State.answerOk
      split
      · rfl
      · simp only [State.compose, hl]
    rw [this, ho _ _ _ h]
    exact hl s _
  · rw [h]
    unfold State.busyReply
    split
    · exact hl s fun l => { l with discarded := bump l.discarded }
    · exact hl s fun l =>
        { l with sending := l.sending ++
            [{ busy := true, octets := hostFrame (requestKind i :: 0x09 :: u16 s.notices.summary) }] }

/-! ### Events -/

theorem State.whenOn_on {f : State → State} (h : s.power = .on) : s.whenOn f = f s := by simp [State.whenOn, h]

theorem State.whenOn_still {f : State → State} (h : s.power ≠ .on) : s.whenOn f = s := by
  unfold State.whenOn
  cases hp : s.power <;> simp_all

/-- What the running part keeps at an event, the event keeps. -/
theorem State.whenOn_keeps {β : Type} (g : State → β) (f : State → State) (h : g (f s) = g s) : g (s.whenOn f) = g s := by
  unfold State.whenOn
  cases s.power <;> simp [h]

/-! ### What the owner reads through the held request -/

variable (kind : Octet) (request : Option Instr) (answered : Bool)

@[simp] theorem State.holdRequest_kiln (k : KilnNo) : (s.holdRequest kind request answered).kiln k = s.kiln k := rfl
@[simp] theorem State.holdRequest_port (p : PortNo) : (s.holdRequest kind request answered).port p = s.port p := rfl
@[simp] theorem State.holdRequest_sweep (k : KilnNo) : (s.holdRequest kind request answered).sweep k = s.sweep k := rfl
@[simp] theorem State.holdRequest_bay (b : BayNo) : (s.holdRequest kind request answered).bay b = s.bay b := rfl
@[simp] theorem State.holdRequest_snapshot (k : KilnNo) :
    (s.holdRequest kind request answered).snapshot k = s.snapshot k := rfl
@[simp] theorem State.holdRequest_charge (n : Nat) :
    (s.holdRequest kind request answered).charge n = s.charge n := rfl
@[simp] theorem State.holdRequest_infeed : (s.holdRequest kind request answered).infeed = s.infeed := rfl
@[simp] theorem State.holdRequest_speciesEntry (n : Nat) :
    (s.holdRequest kind request answered).speciesEntry n = s.speciesEntry n := rfl
@[simp] theorem State.holdRequest_schedule (n : Nat) :
    (s.holdRequest kind request answered).schedule n = s.schedule n := rfl
@[simp] theorem State.holdRequest_speciesReferences (n : Nat) :
    (s.holdRequest kind request answered).speciesReferences n = s.speciesReferences n := rfl
@[simp] theorem State.holdRequest_scheduleReferences (n : Nat) :
    (s.holdRequest kind request answered).scheduleReferences n = s.scheduleReferences n := rfl
@[simp] theorem State.holdRequest_assignment (n : Nat) :
    (s.holdRequest kind request answered).assignment n = s.assignment n := rfl
@[simp] theorem State.holdRequest_presenceOf (n : Nat) :
    (s.holdRequest kind request answered).presenceOf n = s.presenceOf n := rfl
@[simp] theorem State.holdRequest_pack (n : Nat) : (s.holdRequest kind request answered).pack n = s.pack n := rfl
@[simp] theorem State.holdRequest_stamp : (s.holdRequest kind request answered).stamp = s.stamp := rfl
@[simp] theorem State.holdRequest_kilnPortIsUp (k : KilnNo) :
    (s.holdRequest kind request answered).kilnPortIsUp k = s.kilnPortIsUp k := rfl
@[simp] theorem State.holdRequest_issuedChargeNumber :
    (s.holdRequest kind request answered).issuedChargeNumber = s.issuedChargeNumber := rfl

/-- A request that is taken, by its owner's answer. -/
theorem hostRequest_answer {owner : State → Answer} (h : s.takes i = true) :
    hostRequest i owner s =
      match owner (s.holdRequest (requestKind i) (some i) true) with
      | .refuse status => s.refusal i status
      | .ok content after => after.answerOk (requestKind i) content := by
  rw [hostRequest_taken s i h]
  simp only [performRequest]
  generalize owner (s.holdRequest (requestKind i) (some i) true) = answer
  cases answer <;> rfl

end Sys2Proof.Machine
end

