-- ==== Sys2Proof/Laws/Tables.lean ====
section
/-!
SUPPORT. The keyed tables: insertion, removal and change keep the canonical form, and what is found afterwards.
-/
namespace Sys2Proof.Machine

variable {α : Type} (key : α → Nat)

/-- The canonical form is: keys strictly rising. -/
theorem sortedBy_iff (table : List α) : sortedBy key table = true ↔ table.Pairwise fun x y => key x < key y := by
  induction table with
  | nil => simp [sortedBy]
  | cons x rest ih =>
    cases rest with
    | nil => simp [sortedBy]
    | cons y rest =>
      simp only [sortedBy, Bool.and_eq_true, decide_eq_true_eq, ih, List.pairwise_cons]
      constructor
      · rintro ⟨h, hy, hr⟩
        refine ⟨fun z hz => ?_, hy, hr⟩
        rcases List.mem_cons.mp hz with rfl | hz
        · exact h
        · exact lt_trans h (hy z hz)
      · rintro ⟨h, hy, hr⟩
        exact ⟨h y (List.mem_cons_self ..), hy, hr⟩

/-- What an insertion puts in the table. -/
theorem mem_insertBy {x z : α} {table : List α} (h : z ∈ insertBy key x table) : z = x ∨ z ∈ table := by
  induction table with
  | nil => simpa [insertBy] using h
  | cons y rest ih =>
    simp only [insertBy] at h
    split at h
    · simpa using h
    · split at h
      · rcases List.mem_cons.mp h with h | h
        · exact .inl h
        · exact .inr (List.mem_cons_of_mem _ h)
      · rcases List.mem_cons.mp h with h | h
        · exact .inr (h ▸ List.mem_cons_self ..)
        · rcases ih h with h | h
          · exact .inl h
          · exact .inr (List.mem_cons_of_mem _ h)

/-- An insertion keeps the canonical form. -/
theorem insertBy_sorted (x : α) {table : List α} (h : sortedBy key table = true) :
    sortedBy key (insertBy key x table) = true := by
  rw [sortedBy_iff] at *
  induction table with
  | nil => simp [insertBy]
  | cons y rest ih =>
    have hy := (List.pairwise_cons.mp h).1
    have hr := (List.pairwise_cons.mp h).2
    simp only [insertBy]
    split
    · rename_i hlt
      refine List.pairwise_cons.mpr ⟨fun z hz => ?_, h⟩
      rcases List.mem_cons.mp hz with rfl | hz
      · exact hlt
      · exact lt_trans hlt (hy z hz)
    · split
      · rename_i heq
        exact List.pairwise_cons.mpr ⟨fun z hz => heq ▸ hy z hz, hr⟩
      · rename_i h1 h2
        refine List.pairwise_cons.mpr ⟨fun z hz => ?_, ih hr⟩
        rcases mem_insertBy key hz with rfl | hz
        · omega
        · exact hy z hz

/-- An insertion adds at most one entry. -/
theorem insertBy_length_le (x : α) (table : List α) : (insertBy key x table).length ≤ table.length + 1 := by
  induction table with
  | nil => simp [insertBy]
  | cons y rest ih =>
    simp only [insertBy]
    split
    · simp
    · split
      · simp
      · simp only [List.length_cons]; omega

/-- What is found in a table has its key, and is in the table. -/
theorem findBy_some {k : Nat} {table : List α} {x : α} (h : findBy key k table = some x) : key x = k ∧ x ∈ table := by
  unfold findBy at h
  have h1 := List.find?_some h
  exact ⟨by simpa using h1, List.mem_of_find?_eq_some h⟩

/-- An insertion over a key that is present adds no entry. -/
theorem insertBy_length_of_mem {x z : α} {table : List α} (h : sortedBy key table = true) (hz : z ∈ table)
    (hk : key z = key x) : (insertBy key x table).length = table.length := by
  rw [sortedBy_iff] at h
  induction table with
  | nil => simp at hz
  | cons y rest ih =>
    have hy := (List.pairwise_cons.mp h).1
    have hr := (List.pairwise_cons.mp h).2
    simp only [insertBy]
    rcases List.mem_cons.mp hz with rfl | hz
    · have h1 : ¬ key x < key z := by omega
      simp [hk]
    · have h1 := hy z hz
      have h2 : ¬ key x < key y := by omega
      have h3 : key x ≠ key y := by omega
      simp [h2, h3, ih hr hz]

/-- A removal keeps the canonical form. -/
theorem eraseBy_sorted (k : Nat) {table : List α} (h : sortedBy key table = true) :
    sortedBy key (eraseBy key k table) = true := by
  rw [sortedBy_iff] at *
  exact h.sublist (by unfold eraseBy; exact List.filter_sublist)

/-- A selection of a table is in canonical form. -/
theorem filter_sorted (p : α → Bool) {table : List α} (h : sortedBy key table = true) :
    sortedBy key (table.filter p) = true := by
  rw [sortedBy_iff] at *
  exact h.sublist List.filter_sublist

/-- A removal adds no entry. -/
theorem eraseBy_length_le (k : Nat) (table : List α) : (eraseBy key k table).length ≤ table.length := by
  unfold eraseBy; exact List.length_filter_le ..

/-- A change of entries that keeps their keys keeps the canonical form. -/
theorem map_sorted (f : α → α) (hf : ∀ x, key (f x) = key x) {table : List α} (h : sortedBy key table = true) :
    sortedBy key (table.map f) = true := by
  rw [sortedBy_iff] at *
  exact List.pairwise_map.mpr (h.imp fun hxy => by simpa [hf] using hxy)

/-- A change of one entry that keeps its key keeps the canonical form. -/
theorem updateBy_sorted (k : Nat) (f : α → α) (hf : ∀ x, key (f x) = key x) {table : List α}
    (h : sortedBy key table = true) : sortedBy key (updateBy key k f table) = true := by
  unfold updateBy
  exact map_sorted key _ (fun x => by split <;> simp [hf]) h

/-- A change of one entry adds and removes none. -/
@[simp] theorem updateBy_length (k : Nat) (f : α → α) (table : List α) :
    (updateBy key k f table).length = table.length := by simp [updateBy]

/-- A member of a table after a change is an old member or a changed one. -/
theorem mem_updateBy {k : Nat} {f : α → α} {table : List α} {z : α} (h : z ∈ updateBy key k f table) :
    ∃ x ∈ table, z = x ∨ (key x = k ∧ z = f x) := by
  simp only [updateBy, List.mem_map] at h
  obtain ⟨x, hx, h⟩ := h
  refine ⟨x, hx, ?_⟩
  split at h
  · rename_i hk; exact .inr ⟨hk, h.symm⟩
  · exact .inl h.symm

/-- The entry inserted is found under its key. -/
theorem findBy_insertBy (x : α) (table : List α) : findBy key (key x) (insertBy key x table) = some x := by
  induction table with
  | nil => simp [insertBy, findBy]
  | cons y rest ih =>
    simp only [insertBy]
    split
    · simp [findBy]
    · split
      · simp [findBy]
      · rename_i h1 h2
        have h3 : (key y == key x) = false := by simp; omega
        simpa [findBy, List.find?_cons, h3] using ih

/-- An insertion changes nothing that is found under another key. -/
theorem findBy_insertBy_ne {k : Nat} (x : α) {table : List α} (hk : key x ≠ k) :
    findBy key k (insertBy key x table) = findBy key k table := by
  have hx : (key x == k) = false := by simpa using hk
  induction table with
  | nil => simp [insertBy, findBy, hx]
  | cons y rest ih =>
    simp only [insertBy]
    split
    · simp [findBy, List.find?_cons, hx]
    · split
      · rename_i h1 h2
        have hy : (key y == k) = false := by simp; omega
        simp [findBy, hx, hy]
      · simp only [findBy, List.find?_cons] at *
        split
        · rfl
        · exact ih

/-- A removed key is not found. -/
theorem findBy_eraseBy (k : Nat) (table : List α) : findBy key k (eraseBy key k table) = none := by
  simp only [findBy, eraseBy, List.find?_eq_none, List.mem_filter]
  rintro x ⟨-, hx⟩
  simpa using hx

/-- A counter rises by one below its top, and never falls. -/
theorem bump_cases (n : Nat) : (n < Config.counterTop ∧ bump n = n + 1) ∨ (Config.counterTop ≤ n ∧ bump n = n) := by
  unfold bump; split <;> omega

/-! ### The last element that a test picks -/

/-- The element that a test picks, with none after it that the test picks, is the last one. -/
theorem findLast_append {q : α → Bool} {x : α} (before : List α) {after : List α} (hx : q x = true)
    (ha : ∀ y ∈ after, q y = false) : findLast q (before ++ x :: after) = some x := by
  have h : after.reverse.find? q = none := List.find?_eq_none.mpr fun y hy => by simp [ha y (List.mem_reverse.mp hy)]
  simp [findLast, List.find?_append, h, hx]

/-- A test that picks nothing finds nothing. -/
theorem findLast_none {q : α → Bool} {list : List α} (h : ∀ y ∈ list, q y = false) : findLast q list = none :=
  List.find?_eq_none.mpr fun y hy => by simp [h y (List.mem_reverse.mp hy)]

/-- What is found is picked by the test, and stands in the list with none after it that the test picks. -/
theorem findLast_some {q : α → Bool} {list : List α} {x : α} (h : findLast q list = some x) :
    q x = true ∧ ∃ before after, list = before ++ x :: after ∧ ∀ y ∈ after, q y = false := by
  obtain ⟨hx, as, bs, h, ha⟩ := List.find?_eq_some_iff_append.mp h
  refine ⟨hx, bs.reverse, as.reverse, ?_, fun y hy => by simpa using ha y (List.mem_reverse.mp hy)⟩
  simpa using congrArg List.reverse h

/-- The change of the last element that a test picks leaves the others. -/
theorem updateLast_append {q : α → Bool} {f : α → α} {x : α} (before : List α) {after : List α} (hx : q x = true)
    (ha : ∀ y ∈ after, q y = false) : updateLast q f (before ++ x :: after) = before ++ f x :: after := by
  induction before with
  | nil =>
    have h : after.any q = false := by simpa using ha
    simp [updateLast, h, hx]
  | cons y rest ih => simp [updateLast, hx, ih]

/-- A test that picks nothing changes nothing. -/
theorem updateLast_of_none {q : α → Bool} {f : α → α} {list : List α} (h : ∀ y ∈ list, q y = false) :
    updateLast q f list = list := by
  cases list with
  | nil => rfl
  | cons x rest =>
    have h1 : rest.any q = false := by simpa using fun y hy => h y (List.mem_cons_of_mem _ hy)
    simp [updateLast, h1, h x List.mem_cons_self]

/-- The change keeps the number of elements. -/
@[simp] theorem updateLast_length (q : α → Bool) (f : α → α) (list : List α) :
    (updateLast q f list).length = list.length := by
  induction list with
  | nil => rfl
  | cons x rest ih => simp only [updateLast]; split <;> simp [ih]

end Sys2Proof.Machine
end

