-- ==== Sys2Proof/Tests/Slice0.lean ====
section
/-!
SUPPORT. Tests of one step each on small states, with results worked by hand from the spec's own examples and tables; request
frames written out from the tables of R197 and R198; the ill-formed terms that `Instr.wf` refuses; and for each statement
with hypotheses a state and operands that meet them, clause by clause.
-/
namespace Sys2Proof.Tests
open Sys2Proof Sys2Proof.Machine

-- One test after another: run side by side, each waits for the kernel in a thread of its own.
set_option Elab.async false

/-! ### Small states -/

/-- The state after a command that goes on. -/
def after (c : Instr) (s : State) : State :=
  match exec c s with
  | .next t => t
  | _ => s

/-- The command answers a next state. -/
def goesOn (c : Instr) (s : State) : Bool :=
  match exec c s with
  | .next _ => true
  | _ => false

/-- The status octet of the last reply composed. -/
def replied (s : State) (status : Status) : Bool :=
  (s.link.sending.getLast?.map fun f => f.octets.getD 3 0xFF) == some (statusCode status)

/-- The content of the last reply composed, one segment long. -/
def content (s : State) : List Octet :=
  match s.link.sending.getLast? with
  | some f => (f.octets.drop 7).dropLast
  | none => []

/-- The curve of chapter 1's examples. -/
def pine : List (Nat × Nat) :=
  [(5632, 3000), (6656, 2400), (7680, 1900), (8704, 1500), (9728, 1200), (10752, 950), (11776, 750), (12800, 600)]

/-- Species 21 of chapter 2 with its check value. -/
def species21 : SpeciesEntry := ⟨21, 180, 1900, pine, 22593⟩

/-- Schedule 3 of chapter 2 with its check value. -/
def schedule3 : Schedule :=
  ⟨[⟨400, 20, 10, .time, 720, 720, .advance⟩, ⟨650, 120, 5, .mcAtOrBelow, 1600, 4320, .hold⟩,
    ⟨700, 60, 5, .spreadAtOrBelow, 250, 1440, .advance⟩, ⟨700, 30, 5, .dryBulbReached, 0, 120, .advance⟩], 11897⟩

/-- The steps of schedule 3 as WRITE-SCHEDULE carries them. -/
def schedule3Fields : List StepFields :=
  [⟨400, 20, 10, 1, 720, 720, 1⟩, ⟨650, 120, 5, 2, 1600, 4320, 2⟩, ⟨700, 60, 5, 3, 250, 1440, 1⟩,
    ⟨700, 30, 5, 4, 0, 120, 1⟩]

/-- A charge record with nothing counted. -/
def charge (number : Nat) (state : ChargeState) (kiln : Option KilnNo) : Charge :=
  ⟨number, state, kiln, 21, 3, false, false, false, .noTime, none, .absent, 0, 0, 0, 0, 0, 0, 0, 0, 0, 0⟩

/-- The first reset with species 21, schedule 3 and the given charges. -/
def withCharges (charges : List Charge) : State :=
  { State.reset with species := [species21], schedules := State.reset.schedules.set 2 (some schedule3), charges := charges }

/-- Charge 118 as kiln 2's record names it. -/
def bound : KilnCharge := ⟨118, 21, 22593, 3, 11897⟩

/-- Kiln 2 with charge 118 in a state, at a step with minutes elapsed. -/
def kiln2 (state : KilnState) (index elapsed : Nat) : State :=
  (withCharges [charge 118 .kiln (some 1)]).setKiln 1
    { KilnRecord.initial with state := state, charge := some bound, stepIndex := index, stepElapsed := elapsed }

/-- A port in UP at 230.4 kbit/s, its line free. -/
def up (p : PortNo) (s : State) : State := s.setPort p { s.port p with state := .up, rate := some .r230 }

/-! ### Well-formedness: an ill-formed term for each check -/

theorem test_wf_refuses_table_requests :
    [Instr.readCounters 256 0, .readCounters 1 256, .writeSpecies 256 180 1900 pine, .writeSpecies 21 65536 1900 pine,
      .writeSpecies 21 180 65536 pine, .writeSpecies 21 180 1900 (pine.take 7),
      .writeSpecies 21 180 1900 ((65536, 3000) :: pine.drop 1), .writeSpecies 21 180 1900 ((5632, 65536) :: pine.drop 1),
      .deleteSpecies 256, .readSpecies 256, .writeSchedule 256 4 schedule3Fields, .writeSchedule 3 3 schedule3Fields,
      .writeSchedule 3 22 (List.replicate 22 ⟨0, 0, 1, 1, 1, 1, 1⟩), .writeSchedule 3 1 [⟨32768, 0, 1, 1, 1, 1, 1⟩],
      .writeSchedule 3 1 [⟨-32769, 0, 1, 1, 1, 1, 1⟩], .writeSchedule 3 1 [⟨0, 65536, 1, 1, 1, 1, 1⟩],
      .writeSchedule 3 1 [⟨0, 0, 256, 1, 1, 1, 1⟩], .writeSchedule 3 1 [⟨0, 0, 1, 256, 1, 1, 1⟩],
      .writeSchedule 3 1 [⟨0, 0, 1, 1, 65536, 1, 1⟩], .writeSchedule 3 1 [⟨0, 0, 1, 1, 1, 65536, 1⟩],
      .writeSchedule 3 1 [⟨0, 0, 1, 1, 1, 1, 256⟩], .deleteSchedule 256, .readSchedule 256, .setInfeed 65536,
      .closeCharge 65536, .readCharge 65536].all (fun i => !i.wf) = true := by decide +kernel

theorem test_wf_refuses_kiln_and_port_requests :
    [Instr.load 256 1 1, .load 1 256 1, .load 1 1 256, .start 256, .hold 256, .release 256 0, .release 1 256, .skip 256,
      .unload 256, .resume 256, .abandon 256, .readKiln 256, .readProbes 256, .kilnConfig 256 1 2 1 1 0 0 2 50 0,
      .kilnConfig 1 256 2 1 1 0 0 2 50 0, .kilnConfig 1 1 256 1 1 0 0 2 50 0, .kilnConfig 1 1 2 256 1 0 0 2 50 0,
      .kilnConfig 1 1 2 1 256 0 0 2 50 0, .kilnConfig 1 1 2 1 1 256 0 2 50 0, .kilnConfig 1 1 2 1 1 0 256 2 50 0,
      .kilnConfig 1 1 2 1 1 0 0 256 50 0, .kilnConfig 1 1 2 1 1 0 0 2 65536 0, .kilnConfig 1 1 2 1 1 0 0 2 50 256,
      .enablePort 256 20 3 0 0, .enablePort 1 256 3 0 0, .enablePort 1 20 256 0 0, .enablePort 1 20 3 256 0,
      .enablePort 1 20 3 0 256, .disablePort 256, .readPort 256].all (fun i => !i.wf) = true := by decide +kernel

theorem test_wf_refuses_probe_line_and_pack_requests :
    [Instr.assignProbe 4294967296 1 0 0, .assignProbe 1 256 0 0, .assignProbe 1 1 256 0, .assignProbe 1 1 0 65536,
      .unassignProbe 4294967296, .forgetProbe 4294967296, .sweepNow 256 0, .sweepNow 1 256,
      .lineConfig 65536 1 2 300 0 0, .lineConfig 100 4294967296 2 300 0 0, .lineConfig 100 1 4294967296 300 0 0,
      .lineConfig 100 1 2 65536 0 0, .lineConfig 100 1 2 300 256 0, .lineConfig 100 1 2 300 0 256,
      .bayConfig 256 1 300 300 300 1, .bayConfig 1 256 300 300 300 1, .bayConfig 1 1 65536 300 300 1,
      .bayConfig 1 1 300 65536 300 1, .bayConfig 1 1 300 300 65536 1, .bayConfig 1 1 300 300 300 65536,
      .closePack 256, .readBay 256, .reprint 4294967296, .voidLabel 4294967296, .readPack 4294967296,
      .collectPack 4294967296, .labelConfig 256, .setClock 65536 1 1 0 0 0, .setClock 2000 256 1 0 0 0,
      .setClock 2000 1 256 0 0 0, .setClock 2000 1 1 256 0 0, .setClock 2000 1 1 0 256 0, .setClock 2000 1 1 0 0 256,
      .setMasks [0, 0, 0, 0, 0, 0, 0, 0], .setMasks [0, 0, 0, 0, 0, 0, 0, 0, 256]].all (fun i => !i.wf) = true := by
  decide +kernel

/-! ### Request payloads written from R197 and R198 -/

/-- The payload is read as the command. -/
def reads (payload : List Octet) (i : Instr) : Bool :=
  match parseRequest payload with
  | .ok j => j == i
  | .error _ => false

/-- The link refuses the payload with the status. -/
def refuses (payload : List Octet) (status : Status) : Bool :=
  match parseRequest payload with
  | .ok _ => false
  | .error x => x == status

theorem test_payloads_of_link_tables_and_charges :
    (reads [0x01] .identify && reads [0x02, 10, 1] (.readCounters 10 1) && reads [0x03] .restart &&
      reads [0x04] .continueReply && reads [0x11, 21] (.deleteSpecies 21) &&
      reads [0x13, 3, 1, 0xFF, 0xFF, 0x00, 0x14, 10, 1, 0x02, 0xD0, 0x02, 0xD1, 2]
        (.writeSchedule 3 1 [⟨-1, 20, 10, 1, 720, 721, 2⟩]) &&
      reads [0x15, 3] (.readSchedule 3) && reads [0x16] .listTables && reads [0x20, 0x00, 0x76] (.setInfeed 118) &&
      reads [0x22, 0x01, 0x00] (.readCharge 256) && reads [0x23] .listCharges) = true := by decide +kernel

theorem test_payload_of_write_species :
    reads ([0x10, 21, 0x00, 0xB4, 0x07, 0x6C] ++
      [0x16, 0x00, 0x0B, 0xB8, 0x1A, 0x00, 0x09, 0x60, 0x1E, 0x00, 0x07, 0x6C, 0x22, 0x00, 0x05, 0xDC] ++
      [0x26, 0x00, 0x04, 0xB0, 0x2A, 0x00, 0x03, 0xB6, 0x2E, 0x00, 0x02, 0xEE, 0x32, 0x00, 0x02, 0x58])
      (.writeSpecies 21 180 1900 pine) = true := by decide +kernel

theorem test_payloads_of_kilns_and_ports :
    (reads [0x30, 2, 21, 3] (.load 2 21 3) && reads [0x31, 4] (.start 4) && reads [0x32, 2] (.hold 2) &&
      reads [0x33, 2, 1] (.release 2 1) && reads [0x34, 2] (.skip 2) && reads [0x35, 2] (.unload 2) &&
      reads [0x36, 2] (.resume 2) && reads [0x37, 2] (.abandon 2) &&
      reads [0x38, 2, 10, 11, 3, 2, 1, 0, 4, 0x01, 0x90, 2] (.kilnConfig 2 10 11 3 2 1 0 4 400 2) &&
      reads [0x39, 2] (.readKiln 2) && reads [0x40, 3, 20, 4, 1, 0] (.enablePort 3 20 4 1 0) &&
      reads [0x41, 3] (.disablePort 3) && reads [0x42, 3] (.readPort 3)) = true := by decide +kernel

theorem test_payloads_of_probes_line_and_packs :
    (reads [0x50, 0x00, 0x01, 0x11, 0x7B, 2, 1, 0x00, 0xC9] (.assignProbe 70011 2 1 201) &&
      reads [0x51, 0x00, 0x01, 0x11, 0x7B] (.unassignProbe 70011) && reads [0x53, 2, 1] (.sweepNow 2 1) &&
      reads [0x55, 0x00, 0x01, 0x11, 0x7B] (.forgetProbe 70011) &&
      reads [0x60, 0x03, 0xE8, 0, 0, 0x27, 0x10, 0, 0, 0x4E, 0x20, 0x07, 0x08, 1, 5]
        (.lineConfig 1000 10000 20000 1800 1 5) &&
      reads [0x61] .lineClear && reads [0x62] .readLine &&
      reads [0x70, 2, 1, 0x0B, 0xB8, 0x13, 0x24, 0x0E, 0x10, 0, 6] (.bayConfig 2 1 3000 4900 3600 6) &&
      reads [0x71, 2] (.closePack 2) && reads [0x72, 0, 0, 0x10, 0x79] (.reprint 4217) && reads [0x77, 2] (.readBay 2) &&
      reads [0x76, 0, 0, 0x10, 0x79] (.collectPack 4217) && reads [0x78, 20] (.labelConfig 20)) = true := by
  decide +kernel

theorem test_payloads_of_time_and_notices :
    (reads [0x80, 0x07, 0xEF, 11, 7, 14, 6, 20] (.setClock 2031 11 7 14 6 20) && reads [0x82] .readRetained &&
      reads [0x90] .takeNotice && reads [0x91] .peekNotices &&
      reads [0x92, 0, 1, 0, 1, 0, 1, 0, 1, 2] (.setMasks [0, 1, 0, 1, 0, 1, 0, 1, 2])) = true := by decide +kernel

theorem test_payloads_refused_by_the_link :
    (refuses [0x05] .unknownKind && refuses [0x00] .unknownKind && refuses [0x31] .badLength &&
      refuses [0x31, 4, 0] .badLength && refuses [0x13, 3] .badLength && refuses [0x13, 3, 1] .badLength &&
      reads [0x13, 3, 0] (.writeSchedule 3 0 [])) = true := by decide +kernel

/-- The check octets worked in chapters 11 and 5. -/
theorem test_check_octets :
    hostFrame [0x31, 0x04] = [0xB5, 0x02, 0x31, 0x04, 0xB9] ∧ checkOctet 0x5A [0xFF, 0xFF, 0xFF, 0xE4] = 0x79 := by
  decide +kernel

/-- The table gives its rows no bits, so no word spells a command. -/
theorem test_no_table_word : decodeTableWord 8 0x31 = none := by decide

/-! ### Moisture arithmetic (chapter 1's worked values) -/

theorem test_worked_conversion :
    convert 9000 false (some 650) (some species21) = ⟨.usable, 9000, some 1202, .none⟩ ∧
    convert 6000 false (some (-120)) (some species21) =
      ⟨.usable, 6000, some 3000, { ReadingFlags.none with saturatedWet := true }⟩ ∧
    convert 9000 false none (some species21) =
      ⟨.usable, 9000, some 1413, { ReadingFlags.none with uncorrected := true }⟩ := by decide +kernel

theorem test_worked_smoothing :
    smooth (some 1260) 0 1202 2 400 = ⟨1245, 0, false, false⟩ ∧ smooth (some 1245) 0 1820 2 400 = ⟨1245, 1, true, false⟩ ∧
    smooth (some 1245) 1 1805 2 400 = ⟨1245, 2, true, false⟩ ∧ smooth (some 1245) 2 1790 2 400 = ⟨1790, 0, false, true⟩ ∧
    smooth (some 1790) 0 1770 2 400 = ⟨1785, 0, false, false⟩ ∧
    smooth (some 1245) 2 1600 2 400 = ⟨1334, 0, false, false⟩ := by decide +kernel

theorem test_worked_selection :
    select [1245, 1310, 1190, 1402, 1288] 3 2 = ⟨.value 1333, some 212, some 1190⟩ ∧
    select [1190] 3 2 = ⟨.invalid, none, some 1190⟩ ∧ select [1190] 3 1 = ⟨.value 1190, none, some 1190⟩ ∧
    select [2298, 2480] 3 2 = ⟨.value 2389, some 182, some 2298⟩ := by decide +kernel

/-! ### Link, notices, time and power -/

theorem test_identify_is_answered :
    replied (after .identify State.reset) .ok = true := by decide +kernel

theorem test_read_counters_clears_the_link :
    let t := after (.readCounters 10 1) { State.reset with link := { State.reset.link with discarded := 13 } }
    content t = [10, 0, 0, 0, 13] ∧ t.link.discarded = 0 := by decide +kernel

/-- RESTART is answered first; the reset follows its reply and reads the straps. -/
theorem test_restart_resets_after_its_reply :
    let t := after .restart (up 2 State.reset)
    let u := after (.replySent ⟨true, false⟩) t
    replied t .ok = true ∧ (t.port 2).state = .up ∧ (u.port 2).state = .off ∧ u.link.rate = .k230 := by decide +kernel

/-- Segments 2 and 3 of chapter 11's 700 octets: the CONTINUE that fetches the second has one remaining. -/
theorem test_continue_sends_the_next_segment :
    let s := { State.reset with link := { State.reset.link with store := ⟨[[7, 8], [9]], 2⟩ } }
    let t := after .continueReply s
    (t.link.sending.map fun f => f.octets.drop 2) =
      [[0x04, 0x00, 0x00, 0x00, 1, 7, 8, (hostFrame [0x04, 0x00, 0x00, 0x00, 1, 7, 8]).getLastD 0]] ∧
    t.link.store = ⟨[[9]], 3⟩ ∧ replied (after .continueReply State.reset) .wrongState = true := by decide +kernel

/-- Chapter 11's frame for START of kiln 4. -/
theorem test_octet_completes_a_frame :
    let s := { State.reset with link := { State.reset.link with receiver := .receiving [0xB5, 0x02, 0x31, 0x04] } }
    (after (.linkOctetReceived 0xB9 false) s).link.buffer =
      some { kind := 0x31, request := some (.start 4), answered := false } ∧
    (after (.linkOctetReceived 0xB8 false) s).link.buffer = none ∧
    (after (.linkOctetReceived 0xB8 false) s).link.discarded = 1 := by decide +kernel

theorem test_silence_ends_resync :
    (after .linkSilenceExpiry State.reset).link.receiver = .hunt := by decide +kernel

/-- The HOLD of chapter 11's sequence: BUSY into the slot, then sent. -/
theorem test_busy_reply_and_its_sending :
    let held : HeldRequest := { kind := 0x30, request := some (.load 4 21 3), answered := false }
    let s := { State.reset with link := { State.reset.link with buffer := some held } }
    let t := after (.hold 4) s
    replied t .busy = true ∧ t.kilns = s.kilns ∧ t.link.buffer = some held ∧
    (after .busyReplySent t).link.sending = [] ∧ (after .busyReplySent t).link.buffer = some held := by decide +kernel

/-- Chapter 10: RECOVERY {2, 4} is taken and ATTN released. -/
theorem test_take_notice :
    let s := (State.reset.postRecovery 1).postRecovery 3
    let t := after .takeNotice s
    s.attn = true ∧ content t = [1, 0x0A] ∧ t.notices.nonEmpty .recovery = false ∧ t.attn = false ∧
    t.notices.nonEmpty .clockInvalid = true := by decide +kernel

theorem test_peek_and_masks :
    let t := after (.setMasks [0, 0, 0, 0, 0, 0, 0, 0, 0]) State.reset
    replied t .ok = true ∧ t.attn = true ∧ t.notices.summary = 0x400 ∧
    replied (after (.setMasks [0, 0, 0, 0, 0, 0, 0, 0, 2]) State.reset) .outOfRange = true ∧
    (after .peekNotices State.reset).notices = State.reset.notices := by decide +kernel

theorem test_set_clock_checks_the_date :
    replied (after (.setClock 2099 2 29 0 0 0) State.reset) .outOfRange = true ∧
    (after (.setClock 2000 2 29 23 59 59) State.reset).backup.clockValid = true := by decide +kernel

theorem test_read_clock_and_retained :
    content (after .readClock { State.reset with minuteCount := 258 }) = [7, 0xD0, 1, 1, 0, 0, 0, 0, 0, 0, 1, 2] ∧
    replied (after .readRetained State.reset) .ok = true := by decide +kernel

theorem test_clock_second_rolls_the_year :
    let at' := fun t => { State.reset with backup := { State.reset.backup with clock := t, clockValid := true } }
    (after .clockSecond (at' ⟨2000, 2, 28, 23, 59, 59⟩)).backup.clock = ⟨2000, 2, 29, 0, 0, 0⟩ ∧
    (after .clockSecond (at' ⟨2031, 12, 31, 23, 59, 59⟩)).backup.clock = ⟨2032, 1, 1, 0, 0, 0⟩ ∧
    (after .clockSecond (at' ⟨2099, 12, 31, 23, 59, 59⟩)).backup.clockValid = false := by decide +kernel

/-- Chapter 9's outage: kiln 2 and kiln 4 recovered, HOST added to the kiln recorded HELD without a reason. -/
theorem test_power_on_recovers :
    let x : Snapshot := ⟨bound, 1, 1930, 2650, true, false, false, 650, 120, false⟩
    let y : Snapshot := ⟨⟨122, 30, 40112, 5, 7305⟩, 0, 0, 40, false, false, false, 600, 40, false⟩
    let t := after (.powerOn ⟨false, true⟩) ((after .powerFail ((State.reset.setSnapshot 1 (some x)).setSnapshot 3 (some y))))
    (t.kiln 1).state = .recovery ∧ (t.kiln 1).stepElapsed = 1930 ∧ (t.kiln 1).holds = .empty ∧
    (t.kiln 3).holds = { HoldSet.empty with host := true } ∧ t.charges.map Charge.number = [118, 122] ∧
    t.notices.recovery.toList = [false, true, false, true, false, false] ∧ t.link.rate = .k115 := by decide +kernel

theorem test_reset_pin_and_keep_level :
    (after (.resetPin .pulse ⟨false, false⟩) (kiln2 .running 0 5)).kiln 1 = KilnRecord.initial ∧
    (after .keepLevelLoss { State.reset with power := .off }).backup.domainValid = false ∧
    (after .keepLevelLoss State.reset).backup.domainValid = true := by decide +kernel

/-! ### Tables and charges -/

/-- Chapter 2: code 21, check value 22593; a valid write of a referenced entry is IN_USE. -/
theorem test_write_species :
    content (after (.writeSpecies 21 180 1900 pine) State.reset) = [21, 0x58, 0x41] ∧
    replied (after (.writeSpecies 21 180 1800 pine) (withCharges [charge 118 .kiln (some 1)])) .inUse = true ∧
    replied (after (.writeSpecies 30 180 1900 ((5632, 3000) :: (5632, 2400) :: pine.drop 2)) State.reset) .outOfRange =
      true := by decide +kernel

theorem test_delete_and_read_species :
    replied (after (.deleteSpecies 21) (withCharges [charge 118 .kiln (some 1)])) .inUse = true ∧
    (after (.deleteSpecies 21) (withCharges [])).species = [] ∧
    (content (after (.readSpecies 21) (withCharges [charge 118 .kiln (some 1)]))).drop 37 = [0x58, 0x41, 1] := by
  decide +kernel

theorem test_write_schedule :
    content (after (.writeSchedule 3 4 schedule3Fields) State.reset) = [3, 0x2E, 0x79] ∧
    (after (.writeSchedule 3 4 schedule3Fields) State.reset).schedule 3 = some schedule3 ∧
    replied (after (.writeSchedule 3 0 []) State.reset) .outOfRange = true := by decide +kernel

theorem test_delete_read_and_list_tables :
    (after (.deleteSchedule 3) (withCharges [])).schedule 3 = none ∧
    (content (after (.readSchedule 3) (withCharges []))).take 7 = [3, 4, 0x01, 0x90, 0x00, 0x14, 10] ∧
    content (after .listTables (withCharges [charge 118 .kiln (some 1)])) =
      [1, 21, 0x58, 0x41, 1, 1, 3, 4, 0x2E, 0x79, 1] := by decide +kernel

theorem test_set_infeed_replaces_the_infeed_charge :
    let t := after (.setInfeed 120) (withCharges [charge 118 .infeed none, charge 120 .staged none])
    content t = [0, 118] ∧ t.charges.map Charge.state = [.staged, .infeed] := by decide +kernel

theorem test_close_charge_with_an_open_pack :
    replied (after (.closeCharge 118) (withCharges [{ charge 118 .staged none with openPackRefs := 1 }])) .inUse = true ∧
    (after (.closeCharge 118) (withCharges [charge 118 .staged none])).charges = [] := by decide +kernel

/-- The meter mean of chapter 3's charge 118 is 1725. -/
theorem test_read_and_list_charges :
    Charge.meterMean { charge 118 .staged none with meterSum := 3450, meterCount := 2 } = some 1725 ∧
    replied (after (.readCharge 118) (withCharges [])) .notFound = true ∧
    (content (after .listCharges (withCharges [charge 118 .staged none]))).head? = some 1 := by decide +kernel

/-! ### Kilns -/

/-- Chapter 3's allocation, the first two LOADs: 65535 after 65534, then 2. -/
theorem test_load_issues_a_number :
    let s := withCharges [charge 1 .staged none, charge 3 .staged none, charge 65534 .staged none]
    let t := after (.load 4 21 3) { s with backup := { s.backup with chargeCounter := 65533 } }
    let u := after (.load 5 21 3) { t with link := State.reset.link }
    content t = [0xFF, 0xFF] ∧ (t.kiln 3).state = .loaded ∧ (t.kiln 3).dryBulb = 400 ∧ (t.snapshot 3).isSome = true ∧
    content u = [0, 2] ∧ u.backup.chargeCounter = 2 := by decide +kernel

/-- Chapter 4's ramp: START at readbacks -120 and -150, and the first minute. -/
theorem test_start_and_first_minute :
    let s := up 1 ((kiln2 .loaded 0 0).modifyKiln 1 fun r =>
      { r with dryReadback := -120, dryValid := true, wetReadback := -150, wetValid := true })
    let t := after (.start 2) s
    let u := after (.minuteEvent 1) t
    ((t.kiln 1).state, (t.kiln 1).dryBulb, (t.kiln 1).depression) = (KilnState.running, 0, 30) ∧
    ((u.kiln 1).stepElapsed, (u.kiln 1).dryBulb, (u.kiln 1).depression) = (1, 10, 20) ∧
    ((u.kiln 1).setpoint.dryBulb, (u.kiln 1).setpoint.wetBulb) = (10, 0) := by decide +kernel

/-- Chapter 4's step advance: the TIME step at 719 minutes, and the maximum of step 1 at 4319. -/
theorem test_minute_ends_steps :
    let t := after (.minuteEvent 1) (kiln2 .running 0 719)
    let u := after (.minuteEvent 1) (kiln2 .running 1 4319)
    ((t.kiln 1).state, (t.kiln 1).stepIndex, (t.kiln 1).stepElapsed) = (KilnState.running, 1, 0) ∧
    t.notices.kilnStep.toList.getD 1 false = true ∧ t.notices.kilnStepOvertime.toList.getD 1 true = false ∧
    (u.kiln 1).state = .held ∧ (u.kiln 1).holds.overtime = true ∧ (u.kiln 1).stepElapsed = 4320 ∧
    u.notices.kilnStepOvertime.toList.getD 1 false = true := by decide +kernel

theorem test_hold_and_release :
    let t := after (.hold 2) (kiln2 .running 1 5)
    let u := after (.release 2 0) { t with link := State.reset.link }
    (t.kiln 1).state = .held ∧ (u.kiln 1).state = .running ∧
    replied (after (.release 2 1) t) .busy = true ∧
    replied (after (.release 2 1) { t with link := State.reset.link }) .wrongState = true := by decide +kernel

theorem test_skip :
    content (after (.skip 2) (kiln2 .running 1 5)) = [1, 2] ∧
    ((after (.skip 2) (kiln2 .held 3 5)).kiln 1).state = .complete := by decide +kernel

theorem test_unload_stages_the_charge :
    let t := after (.unload 2) (kiln2 .running 1 5)
    content t = [0, 118] ∧ t.kiln 1 = KilnRecord.initial ∧
    (t.charges.map fun c => (c.state, c.abandoned, c.unloadStamp)) = [(.staged, true, some .noTime)] := by decide +kernel

theorem test_resume_and_abandon :
    let s := up 1 (kiln2 .recovery 1 1930)
    ((after (.resume 2) s).kiln 1).state = .running ∧
    replied (after (.resume 2) { s with species := [{ species21 with checkValue := 22493 }] }) .mismatch = true ∧
    ((after (.abandon 2) s).kiln 1).state = .empty ∧
    replied (after (.abandon 2) (kiln2 .running 0 0)) .wrongState = true := by decide +kernel

theorem test_kiln_config_and_read :
    ((after (.kilnConfig 2 60 2 8 24 0 1 15 2000 3) State.reset).kiln 1).config = ⟨60, 2, 8, 24, false, true, 15, 2000, 3⟩ ∧
    replied (after (.kilnConfig 2 60 61 8 24 0 1 15 2000 3) State.reset) .outOfRange = true ∧
    replied (after (.readKiln 2) State.reset) .ok = true ∧ replied (after (.readKiln 7) State.reset) .outOfRange = true := by
  decide +kernel

/-- Chapter 4's controller loss, and the return of the port with HOST set meanwhile. -/
theorem test_controller_lost_and_port_up :
    let s := kiln2 .running 2 300
    let t := after (.controllerLost 1) { s with reports := [.controllerLost 1] }
    let h := after (.hold 2) t
    let u := after (.kilnPortUp 1) { up 1 h with reports := [.kilnPortUp 1] }
    (t.kiln 1).state = .faultHold ∧ (t.kiln 1).remembered = some .running ∧ t.notices.kilnFault.toList.getD 1 false = true ∧
    (h.kiln 1).state = .faultHold ∧ (u.kiln 1).state = .held ∧ (u.kiln 1).remembered = none := by decide +kernel

/-- R75: the second loss taken before the "port up" that it followed leaves the kiln in FAULT_HOLD, also with the port UP
again; the next "port up" brings it back. -/
theorem test_port_up_after_the_second_loss :
    let s := up 1 (after (.controllerLost 1) { kiln2 .running 2 300 with reports := [.controllerLost 1] })
    let t := after (.controllerLost 1) { s with reports := [.kilnPortUp 1, .controllerLost 1, .kilnPortUp 1] }
    let u := after (.kilnPortUp 1) t
    (t.kiln 1).state = .faultHold ∧ (u.kiln 1).state = .faultHold ∧ (u.kiln 1).remembered = some .running ∧
    ((after (.kilnPortUp 1) u).kiln 1).state = .running := by decide +kernel

/-- Chapter 4's sweep results: 1575 meets the threshold 1600 in RUNNING, 1612 does not. -/
theorem test_sweep_result_ends_a_step :
    (((kiln2 .running 1 4330).takeSweepResult 1 ⟨.value 1575, none, some 1575⟩).kiln 1).stepIndex = 2 ∧
    (((kiln2 .running 1 4330).takeSweepResult 1 ⟨.value 1612, none, some 1575⟩).kiln 1).stepIndex = 1 ∧
    (((kiln2 .held 1 4330).takeSweepResult 1 ⟨.value 1575, none, some 1575⟩).kiln 1).stepIndex = 1 := by decide +kernel

/-! ### Field ports -/

/-- A port with an exchange in flight, its request without data. -/
def exchanging (p : PortNo) (state : PortState) (command : StationCommand) (address : Nat) (phase : ExchangePhase)
    (s : State) : State :=
  s.modifyPort p fun r =>
    { r with
      state := state, rate := if state = .up then some .r230 else none,
      attempt := if state = .establishing then some 1 else none,
      exchange := some { command := command, address := address, request := stationFrame address command.code [],
                         phase := phase } }

theorem test_enable_disable_and_read_port :
    let t := after (.enablePort 3 20 3 1 1) State.reset
    let u := after (.disablePort 3) (up 2 State.reset)
    ((t.port 2).state, (t.port 2).attempt, (t.port 2).wake) = (PortState.establishing, some 1, WakePhase.pulse) ∧
    replied (after (.enablePort 7 20 3 0 0) State.reset) .outOfRange = true ∧
    (u.port 2).state = .off ∧ u.reports = [.controllerLost 2, .probePortLeftUp 2] ∧
    replied (after (.readPort 8) State.reset) .ok = true := by decide +kernel

/-- The wake pulse, its wait, and the first IDENTIFY of station 0 (R82, R90). -/
theorem test_wake_and_identify :
    let t := after (.wakePulseEnd 2) (after (.enablePort 3 20 3 1 1) State.reset)
    let u := after (.wakeWaitExpiry 2) t
    (t.port 2).wake = .wait ∧
    (u.port 2).exchange = some { command := .identify, address := 0, request := [0x96, 0, 1, 0, 0xC3], phase := .sending } := by
  decide +kernel

theorem test_request_sent_opens_the_window :
    ((after (.fieldRequestSent 2) (exchanging 2 .up .probeRead 5 .sending State.reset)).port 2).exchange =
      some { command := .probeRead, address := 5, request := [0x96, 5, 2, 0, 0xBD], phase := .window } := by decide +kernel

/-- Chapter 5's establishment: TIMEOUT at 230.4 kbit/s moves to 57.6, and at 19.2 to the gap. -/
theorem test_window_expiry_moves_the_rate :
    let s := exchanging 2 .establishing .identify 0 .window State.reset
    let t := after (.replyWindowExpiry 2) s
    let u := after (.replyWindowExpiry 2) (s.modifyPort 2 fun r => { r with tryRate := .r19 })
    ((t.port 2).tryRate, (t.port 2).nextRate, (t.port 2).counters.timeout, (t.port 2).silentWait) = (.r230, .r57, 1, true) ∧
    ((after (.fieldSilentWaitExpiry 2) t).port 2).tryRate = .r57 ∧
    (u.port 2).attemptGap = true := by decide +kernel

/-- A port disabled with an exchange in flight and enabled again sends no IDENTIFY before its line is silent (R81). -/
theorem test_silent_wait_outlives_disable :
    let t := after (.enablePort 3 20 3 1 1) { after (.disablePort 3) (exchanging 2 .up .setpoint 0 .window State.reset) with
      link := State.reset.link }
    let u := after (.wakeWaitExpiry 2) (after (.wakePulseEnd 2) t)
    (u.port 2).exchange = none ∧
    ((after (.fieldSilentWaitExpiry 2) u).port 2).exchange.map Exchange.command = some .identify := by decide +kernel

/-- Kind 1, serial 5, version 1 at 57.6 kbit/s: the last octet, 0xE3, completes a good reply (R82, R83, R91, R92). -/
theorem test_good_identify_brings_the_port_up :
    let s := (exchanging 2 .establishing .identify 0
      (.receiving [0x69, 0, 0, 7, 1, 0, 0, 0, 5, 0, 1]) State.reset).modifyPort 2 fun r => { r with tryRate := .r57 }
    let t := after (.fieldOctetReceived 2 0xE3 false) s
    ((t.port 2).state, (t.port 2).rate, (t.port 2).setpointDue) = (PortState.up, some .r57, true) ∧
    (t.port 2).identity = some ⟨1, 5, 1⟩ ∧ t.reports = [.kilnPortUp 2, .probePortUp 2] ∧
    ((after (.fieldOctetReceived 2 0xE4 false) s).port 2).counters.check = 1 := by decide +kernel

theorem test_octets_before_and_within_a_reply :
    let s := exchanging 2 .up .probeRead 5 .window State.reset
    ((after (.fieldOctetReceived 2 0x55 false) s).port 2).exchange = (s.port 2).exchange ∧
    ((after (.fieldOctetReceived 2 0x69 false) s).port 2).exchange.map Exchange.phase = some (.receiving [0x69]) ∧
    ((after (.fieldOctetSilence 2) (exchanging 2 .up .probeRead 5 (.receiving [0x69]) State.reset)).port 2).counters.truncated =
      1 := by decide +kernel

/-- Chapter 5's arbitration: the controller exchange goes before the sweep queue. -/
theorem test_silent_wait_sends_the_setpoint_first :
    let s := (up 1 State.reset).modifyPort 1 fun r =>
      { r with silentWait := true, setpointDue := true, sweepQueue := [(5, .read), (9, .read)] }
    let t := after (.fieldSilentWaitExpiry 1) s
    (t.port 1).exchange.map Exchange.command = some .setpoint ∧ (t.port 1).sweepQueue = [(5, .read), (9, .read)] := by
  decide +kernel

/-- Chapter 9's SETPOINT RUN 650 / 530. -/
theorem test_controller_interval_sends_the_setpoint :
    let s := (up 1 ((kiln2 .recovery 1 1930).modifyKiln 1 fun r => { r with dryBulb := 650, depression := 120 })).modifyPort 1
      fun r => { r with controllerInterval := some 10000 }
    ((after (.controllerIntervalExpiry 1) s).port 1).exchange.map (fun e => (e.request.drop 4).dropLast) =
      some [1, 0x02, 0x8A, 0x02, 0x12] := by decide +kernel

/-- Chapter 5's loss of a controller: the third failure reaches the limit, and no readback is valid from then on (R4). -/
theorem test_setpoint_failures_reach_the_limit :
    let s := ((exchanging 4 .up .setpoint 0 .window State.reset).modifyPort 4 fun r =>
      { r with failureCount := 2, sweepQueue := [(11, .read), (12, .read)] }).modifyKiln 4 fun r => { r with dryValid := true }
    let t := after (.replyWindowExpiry 4) s
    s.probeTemperature 4 = some 0 ∧ t.probeTemperature 4 = none ∧
    ((t.port 4).state, (t.port 4).failureCount, (t.port 4).sweepQueue) = (PortState.establishing, 0, []) ∧
    t.reports = [.controllerLost 4, .probePortLeftUp 4] := by decide +kernel

/-- Chapter 5's line faults on port 7: the first and the fifth. -/
theorem test_line_fault_first_and_fifth :
    let s := (exchanging 6 .up .meterSample 0 .sending State.reset).modifyPort 6 fun r => { r with autoretry := true }
    let t := after (.lineFault 6) s
    let u := after (.lineFault 6) (State.reset.modifyPort 6 fun r =>
      { r with state := .establishing, attempt := some 1, wake := .pulse, autoretry := true, lineFaultCount := 4 })
    ((t.port 6).state, (t.port 6).lineFaultCount, (t.port 6).autoretryWait, (t.port 6).counters.framing) =
      (PortState.lineFault, 1, true, 1) ∧
    t.reports = [.meterPortLeftUp] ∧ (u.port 6).state = .down ∧ u.notices.portDown.toList.getD 6 false = true := by
  decide +kernel

theorem test_waits_begin_attempts :
    let gap := (exchanging 2 .establishing .identify 0 .sending State.reset).modifyPort 2 fun r =>
      { r with exchange := none, attemptGap := true }
    let at' := fun state auto re => State.reset.modifyPort 2 fun r =>
      { r with state := state, autoretryWait := auto, reestablishWait := re }
    ((after (.attemptGapExpiry 2) gap).port 2).attempt = some 2 ∧
    ((after (.autoretryExpiry 2) (at' .lineFault true false)).port 2).state = .establishing ∧
    ((after (.reestablishExpiry 2) (at' .down false true)).port 2).attempt = some 1 ∧
    after (.autoretryExpiry 2) State.reset = State.reset := by decide +kernel

theorem test_idle_wait_sends_a_health_identify :
    let s := fun p => (up p State.reset).modifyPort p fun r => { r with idleWait := true }
    ((after (.idleWaitExpiry 6) (s 6)).port 6).exchange.map Exchange.command = some .identify ∧
    after (.idleWaitExpiry 7) { s 7 with label := { (s 7).label with jobs := [4217] } } =
      { s 7 with label := { (s 7).label with jobs := [4217] } } := by decide +kernel

/-! ### Probes -/

/-- A presence entry of kiln 2's port. -/
def entry (serial address : Nat) (state : PresenceState) (role : Option ProbeRole) (smoothed : Option Nat) : PresenceEntry :=
  ⟨serial, 1, address, state, role, role.map fun _ => .assigned, 0, none, none, none, .none, smoothed, 0⟩

/-- The assignments of chapter 6's charge. -/
def assignments : List Assignment :=
  [⟨70011, 1, .control, 201⟩, ⟨70012, 1, .monitor, 202⟩, ⟨70015, 2, .control, 301⟩]

/-- Chapter 6 after sweep A. -/
def afterSweepA : State :=
  { up 1 (kiln2 .loaded 0 0) with
    assignments := assignments,
    presence := [entry 70011 1 .active (some .control) none, entry 70012 2 .active (some .monitor) none,
                 entry 70020 5 .active (some .control) none, entry 70015 9 .foreign none none] }

theorem test_assignments :
    let t := after (.assignProbe 70011 2 0 201) State.reset
    t.assignments = [⟨70011, 1, .control, 201⟩] ∧
    replied (after (.assignProbe 70011 2 3 201) State.reset) .outOfRange = true ∧
    replied (after (.unassignProbe 70011) State.reset) .notFound = true ∧
    (after (.unassignProbe 70012) afterSweepA).assignments.length = 2 ∧
    (content (after .listAssignments afterSweepA)).take 9 = [3, 0x00, 0x01, 0x11, 0x7B, 2, 0, 0x00, 0xC9] := by
  decide +kernel

/-- Sweep A: 24 IDENTIFYs in order, the cursor left at 1, and the request for address 1 sent. -/
theorem test_sweep_now_plans_a_full_scan :
    let t := after (.sweepNow 2 0) { afterSweepA with presence := [] }
    content t = [0] ∧ (t.sweep 1).outstanding.map Prod.fst = (List.range 24).map (· + 1) ∧
    (t.sweep 1).kind = some .full ∧ (t.sweep 1).fullScan = false ∧ (t.sweep 1).cursor = 1 ∧
    (t.port 1).exchange.map Exchange.address = some 1 := by decide +kernel

/-- Sweep B: reads of 1, 2 and 5, discovery of 3, 4, 6 and 7, the cursor at 8. -/
theorem test_sweep_interval_plans_a_regular_sweep :
    let s := afterSweepA.modifySweep 1 fun w => { w with fullScan := false, interval := some 600000 }
    let t := after (.sweepIntervalExpiry 1) s
    (t.sweep 1).outstanding =
      [(1, .read), (2, .read), (5, .read), (3, .identify), (4, .identify), (6, .identify), (7, .identify)] ∧
    (t.sweep 1).cursor = 8 := by decide +kernel

/-- Sweep A's IDENTIFY of address 9: assigned to kiln 3, so FOREIGN, and MOVED. -/
theorem test_identify_of_a_foreign_probe :
    let s := { afterSweepA with presence := [] }.modifySweep 1 fun w =>
      { w with kind := some .full, outstanding := [(9, .identify), (10, .identify)] }
    let t := s.probeOutcome 1 9 .identify .good [2, 0x00, 0x01, 0x11, 0x7F, 0, 1]
    t.presence.map (fun e => (e.serial, e.address, e.state, e.role)) = [(70015, 9, .foreign, none)] ∧
    (t.sweep 1).events.new = false ∧ (t.sweep 1).events.moved = true ∧
    t.notices.probeChange.toList.getD 1 false = true := by decide +kernel

/-- Sweep D's read of address 5: 70020 is removed, SWAPPED, and 70031 is learned, NEW; its first usable reading sets S. -/
theorem test_read_of_a_swapped_probe :
    let s := (afterSweepA.modifyKiln 1 fun r => { r with dryReadback := 250, dryValid := true }).modifySweep 1 fun w =>
      { w with kind := some .regular, outstanding := [(5, .read), (12, .identify)] }
    let t := s.probeOutcome 1 5 .read .good [0x00, 0x01, 0x11, 0x8F, 0x22, 0x00, 0]
    (t.presenceOf 70020).isNone = true ∧ ((t.presenceOf 70031).map fun e => (e.role, e.source, e.smoothed)) =
      some (some .control, some .learned, some 1500) ∧
    (t.sweep 1).events.swapped = true ∧ (t.sweep 1).events.new = true := by decide +kernel

theorem test_read_probes_and_forget_probe :
    let s := afterSweepA.modifySweep 1 fun w => { w with events := { w.events with new := true } }
    (after (.readProbes 2) s).sweep 1 = { s.sweep 1 with events := .empty } ∧
    content (after (.forgetProbe 70015) s) = [2, 9] ∧ (after (.forgetProbe 70015) s).presence.length = 3 ∧
    replied (after (.forgetProbe 9) s) .notFound = true := by decide +kernel

theorem test_probe_port_reports :
    let t := after (.probePortUp 1) { afterSweepA with reports := [.probePortUp 1] }
    let u := after (.probePortLeftUp 1) ({ afterSweepA with reports := [.probePortLeftUp 1] }.modifySweep 1 fun w =>
      { w with kind := some .full, fullScan := false, outstanding := [(3, .identify)], interval := some 600000 })
    (t.sweep 1).interval = some 600000 ∧ t.reports = [] ∧
    ((u.sweep 1).kind, (u.sweep 1).fullScan, (u.sweep 1).interval) = (none, true, none) := by decide +kernel

/-! ### The planer line -/

/-- The line of chapter 7's trace: one count to the millimetre, charge 121 at the infeed, bay 1 for 3000 to 4900 mm. -/
def lineState : State :=
  { (withCharges [charge 121 .infeed none]).setBay 0
      { config := some ⟨true, 3000, 4900, 3600, 6⟩, state := .empty, openPack := none } with
    line := { Line.initial false with
              config := ⟨some 1000, some 6000, some 9000, 1800, false, 0⟩, counter := 200000, nextSequence := 40 } }

/-- A piece of charge 121 with its lead at 200000. -/
def piece (sequence : Nat) (trail : Option Position) (length : Option Nat) (reading : PieceReading) (grade : Grade) :
    Piece :=
  ⟨sequence, 121, some 21, 200000, trail, length, reading, grade, 206000, 209000⟩

/-- The trace's state with pieces in the queue, each counted to charge 121. -/
def withPieces (pieces : List Piece) : State :=
  { lineState with
    charges := [{ charge 121 .infeed none with metered := pieces.length, queued := pieces.length }],
    line := { lineState.line with queue := pieces } }

theorem test_line_config_and_read :
    (after (.lineConfig 1000 6000 9000 1800 1 5) State.reset).line.config =
      ⟨some 1000, some 6000, some 9000, 1800, true, 5⟩ ∧
    replied (after (.lineConfig 1000 6000 6000 1800 0 5) State.reset) .outOfRange = true ∧
    replied (after (.lineConfig 1000 6000 9000 1800 0 5) (withPieces [piece 40 none none .pending .pending])) .inUse =
      true ∧ replied (after .readLine State.reset) .ok = true := by decide +kernel

/-- Chapter 3: the piece cleared counts to its charge. -/
theorem test_line_clear_settles_the_pieces :
    let t := after .lineClear (withPieces [piece 40 none none .pending .pending])
    content t = [1] ∧ t.line.queue = [] ∧ (t.charges.map fun c => (c.queued, c.cleared)) = [(0, 1)] := by decide +kernel

/-- Leading edge 40 of the trace: counted, recorded, and its sample asked of port 7. -/
theorem test_leading_edge_makes_a_piece :
    let t := after (.eyeChange true) (up 6 lineState)
    t.line.queue = [piece 40 none none .pending .pending] ∧ (t.charges.map fun c => (c.metered, c.queued)) = [(1, 1)] ∧
    t.line.capture.owner = some 40 ∧ t.line.sampleOwner = some 40 ∧
    (t.port 6).exchange.map Exchange.command = some .meterSample := by decide +kernel

/-- Trailing edge 40 after READ 1450: 3600 mm, graded DRY, bay 1 reserved and OPEN. -/
theorem test_trailing_edge_measures_and_grades :
    let s := withPieces [piece 40 none none (.read 1450) .pending]
    let t := after (.eyeChange false)
      { s with
        line := { s.line with
                  counter := 203600, eyePin := true,
                  capture := ⟨true, true, some 200000, none, some 40⟩ } }
    t.line.queue = [piece 40 (some 203600) (some 3600) (.read 1450) (.dry 0)] ∧ (t.bay 0).state = .opened ∧
    (t.charges.map Charge.openPackRefs) = [1] := by decide +kernel

/-- The lengths of R132's table. -/
theorem test_lengths :
    (lengthOf 3600 1000, lengthOf 10213 2837, lengthOf 5 10000, lengthOf 4 10000) = (3600, 3600, 1, 0) := by decide +kernel

theorem test_eye_filter_gives_the_edge_at_the_change :
    let s := { lineState with line := { lineState.line with config := { lineState.line.config with glitchFilter := 5 } } }
    let t := after (.eyeChange true) s
    let u := after .eyeFilterExpiry { t with line := { t.line with counter := 200020 } }
    t.line.eyeFilter = some 200000 ∧ t.line.queue = [] ∧ u.line.capture.lastLead = some 200000 ∧
    (after (.eyeChange false) t).line.eyeFilter = none := by decide +kernel

theorem test_encoder_step_moves_the_counter :
    (after (.encoderStep .forward) State.reset).line.counter = 1 ∧
    (after (.encoderStep .reverse) State.reset).line.counter = 0xFFFFFFFF ∧
    after (.encoderStep .both) State.reset = State.reset := by decide +kernel

/-- A REDRY piece at its divert position and a DRY one at its stack position. -/
theorem test_pieces_reach_the_gate_and_the_stacker :
    let at' := fun (counter : Position) (s : State) => { s with line := { s.line with counter := counter } }
    let t := after (.encoderStep .forward)
      (at' 205999 (withPieces [piece 40 (some 203600) (some 3600) (.read 2230) .redry]))
    let u := after (.encoderStep .forward) (at' 208999 ((withPieces
      [piece 40 (some 203600) (some 3600) (.read 1450) (.dry 0)]).modifyBay 0 fun b =>
        { b with state := .opened, openPack := some ⟨21, 0, 1, [⟨121, 0, 1⟩], 0, none⟩ }))
    t.line.divertPulse = true ∧ (t.charges.map fun c => (c.queued, c.redry)) = [(0, 1)] ∧ t.line.counters.redry = 1 ∧
    (after .divertPulseExpiry t).line.divertPulse = false ∧
    u.line.queue = [] ∧ (u.charges.map fun c => (c.queued, c.stacked)) = [(0, 1)] ∧
    (u.bay 0).openPack = some ⟨21, 1, 0, [⟨121, 1, 0⟩], 1450, some 1450⟩ := by decide +kernel

/-- R46, R47: a DRY piece and a later one of the same number (log entry 42) each leave alone, settled once; the sample
settles the later one. -/
theorem test_equal_numbers_stay_apart :
    let old := piece 40 (some 203600) (some 3600) (.read 1450) (.dry 0)
    let new := { piece 40 none none .pending .pending with lead := 208000, divertAt := 214000, stackAt := 217000 }
    let s := (withPieces [old, new]).modifyBay 0 fun b =>
      { b with state := .opened, openPack := some ⟨21, 0, 1, [⟨121, 0, 1⟩], 0, none⟩ }
    let t := after (.encoderStep .forward)
      { s with line := { s.line with counter := 208999, sampleOwner := some 40,
                                     capture := { s.line.capture with owner := some 40 } } }
    let u := { s with line := { s.line with sampleOwner := some 40 } }.meterOutcome .timeout []
    t.line.queue = [new] ∧ (t.charges.map fun c => (c.queued, c.stacked)) = [(1, 1)] ∧
    (t.line.sampleOwner, t.line.capture.owner) = (some 40, some 40) ∧
    u.line.queue = [old, { new with reading := .none .noReply }] := by decide +kernel

theorem test_meter_port_left_up :
    let s := withPieces [piece 40 none none .pending .pending]
    let t := after .meterPortLeftUp
      { s with reports := [.meterPortLeftUp], line := { s.line with sampleOwner := some 40 } }
    t.line.queue = [piece 40 none none (.none .noReply) .pending] ∧ t.line.counters.noReply = 1 := by decide +kernel

/-! ### Packs and labels -/

/-- Chapter 8's open pack before piece F, in bay 2, the pack-serial counter at 4216. -/
def beforeClose : State :=
  { (withCharges [{ charge 118 .staged none with openPackRefs := 1 },
                  { charge 121 .infeed none with openPackRefs := 1 }]).setBay 1
      { config := some ⟨true, 3000, 4900, 3600, 6⟩, state := .opened,
        openPack := some ⟨21, 5, 1, [⟨121, 3, 0⟩, ⟨118, 2, 1⟩], 7200, some 1610⟩ } with
    backup := { State.reset.backup with packCounter := 4216, clock := ⟨2031, 11, 7, 6, 0, 0⟩, clockValid := true } }

/-- Record 4217 of chapter 8 in a label state. -/
def record4217 (label : LabelState) : PackRecord :=
  ⟨4217, 1, [0, 0, 4, 2, 1, 7, 0, 2, 1, 1], 1, 21, 3600, 6, 1434, 143, 1610, [2, 0, 3, 1, 1, 1, 0, 7],
    [(121, 3), (118, 3)], label, none⟩

/-- Chapter 8 with record 4217 in the list, its bay in a state, and its label job in a phase. -/
def labelled (label : LabelState) (bay : BayState) (unit : LabelUnit) : State :=
  { beforeClose.setBay 1 { config := some ⟨true, 3000, 4900, 3600, 6⟩, state := bay, openPack := none } with
    packs := [record4217 label], label := unit }

/-- The label unit with 4217's job current, an exchange outstanding. -/
def job (phase : LabelPhase) (status : Bool) : LabelUnit :=
  { LabelUnit.initial with
    jobs := [4217], phase := some phase, outstanding := some ⟨status, false⟩, timeout := some 20000 }

/-- Piece F reaches the target 6: record 4217 with the figures, code and date of chapter 8. -/
theorem test_worked_close :
    let t := beforeClose.stackPiece 1 118 1405
    t.packs = [record4217 .queued] ∧ (t.bay 1).state = .labelling ∧ t.label.jobs = [4217] ∧ t.notices.packReady = 1 ∧
    t.backup.packCounter = 4217 := by decide +kernel

/-- R200's label content for that record. -/
theorem test_label_content :
    (record4217 .queued).labelContent =
      [0x30, 0x30, 0x34, 0x32, 0x31, 0x37, 0x30, 0x32, 0x31, 0x31, 21, 0x0E, 0x10, 0, 6, 0, 143] ++
        [0x32, 0x30, 0x33, 0x31, 0x31, 0x31, 0x30, 0x37, 2, 0, 121, 0, 118] := by decide +kernel

theorem test_label_outcomes :
    let applied := (labelled .printing .labelling (job .poll true)).labelOutcome true .good
      ⟨0x02, [0x30, 0x30, 0x34, 0x32, 0x31, 0x37, 0x30, 0x32, 0x31, 0x31]⟩
    let smudged := (labelled .printing .labelling (job .poll true)).labelOutcome true .good
      ⟨0x02, [0x30, 0x30, 0x34, 0x32, 0x31, 0x37, 0x30, 0x32, 0x31, 0x37]⟩
    let refused := (labelled .queued .labelling (job .print false)).labelOutcome false .good ⟨0x01, []⟩
    (applied.packs.map PackRecord.label, (applied.bay 1).state, applied.charges.map Charge.openPackRefs) =
      ([.confirmed], .empty, [0, 0]) ∧
    (smudged.packs.map PackRecord.label, (smudged.bay 1).state, smudged.charges.map Charge.openPackRefs) =
      ([.fault .mismatch], .labelFault, [1, 1]) ∧
    (refused.label.pause, refused.label.phase, refused.packs.map PackRecord.label) = (true, some .print, [.queued]) := by
  decide +kernel

theorem test_label_waits :
    let paused := { labelled .queued .labelling (job .print false) with
                    label := { job .print false with outstanding := none, pause := true } }
    ((after .labelPauseExpiry (up 7 paused)).port 7).exchange.map Exchange.command = some .labelPrint ∧
    (after .labelTimeoutExpiry (labelled .queued .labelling (job .print false))).packs.map PackRecord.label =
      [.fault .timeout] ∧
    (after .labelTimeoutExpiry (labelled .queued .labelling (job .print false))).label.outstanding = some ⟨false, true⟩ := by
  decide +kernel

theorem test_label_port_reports :
    let left := { labelled .printing .labelling (job .poll true) with reports := [.labelPortLeftUp] }
    let back := up 7 { labelled .queued .labelling { job .unstarted false with outstanding := none } with
                       reports := [.labelPortUp] }
    (after .labelPortLeftUp left).packs.map PackRecord.label = [.fault .port] ∧
    (after .labelPortLeftUp left).label.outstanding = none ∧ (after .labelPortUp back).label.phase = some .print := by
  decide +kernel

theorem test_bay_config_and_read :
    ((after (.bayConfig 2 1 300 9999 300 2000) State.reset).bay 1).state = .empty ∧
    replied (after (.bayConfig 2 1 300 10000 300 2000) State.reset) .outOfRange = true ∧
    replied (after (.bayConfig 2 1 300 9999 300 2000) beforeClose) .inUse = true ∧
    replied (after (.readBay 2) beforeClose) .ok = true := by decide +kernel

theorem test_close_pack :
    let s := beforeClose.modifyBay 1 fun b => { b with openPack := some ⟨21, 5, 0, [⟨121, 3, 0⟩, ⟨118, 2, 0⟩], 7200, some 1610⟩ }
    ((after (.closePack 2) beforeClose).bay 1).state = .closing ∧ ((after (.closePack 2) s).bay 1).state = .labelling ∧
    (after (.closePack 2) s).packs.map PackRecord.pieceCount = [5] ∧
    replied (after (.closePack 1) s) .wrongState = true := by decide +kernel

theorem test_reprint_and_void :
    let s := labelled (.fault .mismatch) .labelFault LabelUnit.initial
    ((after (.reprint 4217) s).bay 1).state = .labelling ∧ (after (.reprint 4217) s).label.jobs = [4217] ∧
    ((after (.voidLabel 4217) s).bay 1).state = .empty ∧
    (after (.voidLabel 4217) s).charges.map Charge.openPackRefs = [0, 0] ∧
    replied (after (.reprint 4217) (labelled .confirmed .empty LabelUnit.initial)) .wrongState = true := by decide +kernel

theorem test_read_list_and_collect_pack :
    let s := labelled .confirmed .empty LabelUnit.initial
    (content (after (.readPack 4217) s)).take 15 =
      [0, 0, 0x10, 0x79, 1, 0x30, 0x30, 0x34, 0x32, 0x31, 0x37, 0x30, 0x32, 0x31, 0x31] ∧
    content (after .listPacks s) = [1, 0, 0, 0x10, 0x79, 2, 2] ∧ (after (.collectPack 4217) s).packs = [] ∧
    replied (after (.collectPack 4217) (labelled .printing .labelling (job .poll true))) .wrongState = true ∧
    replied (after (.collectPack 0) s) .outOfRange = true := by decide +kernel

theorem test_label_config :
    (after (.labelConfig 120) State.reset).label.timeoutSetting = 120 ∧
    replied (after (.labelConfig 4) State.reset) .outOfRange = true := by decide +kernel

/-! ### Witnesses

For each statement with hypotheses, a state and operands that meet them together, one group for each clause. -/

/-- The first reset with a request in the input buffer, unanswered. -/
def heldBy (i : Instr) (kind : Octet) : State :=
  { State.reset with link := { State.reset.link with buffer := some { kind := kind, request := some i, answered := false } } }

/-- The first reset with the link receiver in a state. -/
def receiving (r : Receiver) : State := { State.reset with link := { State.reset.link with receiver := r } }

/-- Two valid snapshots of different charges. -/
def twoSnapshots : State :=
  (State.reset.setSnapshot 1 (some ⟨bound, 1, 1930, 2650, true, false, false, 650, 120, false⟩)).setSnapshot 3
    (some ⟨⟨122, 30, 40112, 5, 7305⟩, 0, 0, 40, false, false, false, 600, 40, false⟩)

theorem two_snapshots_distinct : twoSnapshots.distinctSnapshots := by
  have h : ∀ j k : KilnNo, ∀ x ∈ twoSnapshots.snapshot j, ∀ y ∈ twoSnapshots.snapshot k,
      x.charge.number = y.charge.number → j = k := by decide +kernel
  exact fun j k x y hx hy => h j k x hx y hy

theorem witness_CommandsKeepWhatIsNotTheirs :
    (goesOn .peekNotices State.reset = true ∧ State.reset.notices.nonEmpty .clockInvalid = true) ∧
    (State.reset.backup.clockValid = false ∧ (after (.setClock 2000 1 1 0 0 0) State.reset).backup.clockValid = true) ∧
    (let s := { State.reset with backup := { State.reset.backup with domainValid := false } }
     s.backup.domainValid = false ∧ (after (.powerOn ⟨true, true⟩) s).backup.domainValid = true) := by decide +kernel

theorem witness_StillPartTakesNothing :
    { State.reset with power := .off }.power ≠ .on ∧ { State.reset with power := .held }.power ≠ .on := by decide +kernel

theorem witness_FramesWhileHeldAreRefusedBusy :
    ((kindCode (.hold 4)).isSome = true ∧ (heldBy (.load 4 21 3) 0x30).busyFor (.hold 4) = true) ∧
    [[0x32], List.replicate 240 0x32].all (fun payload : List Octet =>
      let s := { heldBy (.load 4 21 3) 0x30 with
                 link := { (heldBy (.load 4 21 3) 0x30).link with receiver := .receiving (hostFrame payload).dropLast } }
      s.isOn && s.link.buffer.isSome && decide (1 ≤ payload.length ∧ payload.length ≤ 240) &&
        decide (hostFrame payload = (hostFrame payload).dropLast ++ [(hostFrame payload).getLastD 0])) = true := by
  decide +kernel

theorem witness_RefusedRequestsChangeNothing :
    let t := after (.skip 7) State.reset
    (kindCode (.skip 7)).isSome = true ∧ State.reset.takes (.skip 7) = true ∧ goesOn (.skip 7) State.reset = true ∧
    t.link.sending = State.reset.link.sending ++ [⟨false, hostFrame [0x34, 0x03, 0, 0]⟩] ∧
    (hostFrame [0x34, 0x03, 0, 0]).getD 3 0 ≠ 0x00 := by decide +kernel

theorem witness_RequestsReadBackFromTheirFrames :
    (Instr.load 255 0 3).wf = true ∧ encodeRequest (.load 255 0 3) = some [0x30, 255, 0, 3] ∧
    (Instr.writeSchedule 3 21 (List.replicate 21 ⟨-32768, 65535, 255, 255, 65535, 65535, 255⟩)).wf = true := by
  decide +kernel

theorem witness_FramesAreAccepted :
    (Instr.start 4).wf = true ∧ encodeRequest (.start 4) = some [0x31, 4] ∧ (receiving .hunt).isOn = true ∧
    (receiving .hunt).link.receiver = .hunt ∧ (receiving .hunt).link.buffer = none := by decide +kernel

theorem witness_ReceiverTakesOctetsAndSilence :
    (State.reset.isOn = true ∧ State.reset.link.receiver = .resync ∧ State.reset.link.silenceWait = true) ∧
    (receiving .hunt).link.receiver = .hunt ∧
    ([0x00, 0xF1].all fun octet : Octet => decide (octet.toNat = 0 ∨ 240 < octet.toNat)) = true ∧
    ([0x01, 0xF0].all fun octet : Octet => decide (1 ≤ octet.toNat ∧ octet.toNat ≤ 240)) = true ∧
    (let octets : List Octet := [0xB5, 0x02, 0x31]
     (receiving (.receiving octets)).link.receiver = .receiving octets ∧ 2 ≤ octets.length ∧
     (octets ++ [0x04]).length ≠ ((octets ++ [0x04]).getD 1 0).toNat + 3) ∧
    (let octets : List Octet := [0xB5, 0x02, 0x31, 0x04]
     (receiving (.receiving octets)).link.receiver = .receiving octets ∧ 2 ≤ octets.length ∧
     (octets ++ [0xB8]).length = ((octets ++ [0xB8]).getD 1 0).toNat + 3 ∧ octetSum (octets ++ [0xB8]) ≠ 0xA5) := by
  decide +kernel

theorem witness_LinkAnswersWhatNamesNoOwner :
    ([([0x05], Status.unknownKind), ([0x31], .badLength), (List.replicate 240 0x31, .badLength)].all
      fun x : List Octet × Status =>
        let now := hostFrame x.1
        (receiving (.receiving now.dropLast)).isOn && (receiving (.receiving now.dropLast)).link.buffer.isNone &&
          decide (now = now.dropLast ++ [now.getLastD 0] ∧ 1 ≤ (now.getD 1 0).toNat ∧
            now.length = (now.getD 1 0).toNat + 3 ∧ octetSum now = 0xA5) &&
          refuses ((now.drop 2).take (now.getD 1 0).toNat) x.2) = true ∧
    (State.reset.takes .identify && State.reset.takes .restart) = true ∧
    ([0, 1, 8, 9, 10, 11].all fun subject => [0, 1, 2].all fun choice =>
      State.reset.takes (.readCounters subject choice)) = true := by decide +kernel

theorem witness_RepliesAreSentInSegments :
    let s := { State.reset with link := { State.reset.link with store := ⟨[[7, 8], [9]], 2⟩ } }
    (State.reset.takes .continueReply = true ∧ State.reset.link.store.segments = []) ∧
    (s.takes .continueReply = true ∧ s.link.store.segments = [7, 8] :: [[9]]) := by decide +kernel

theorem witness_SentRepliesFreeTheirPlace :
    let s := fun busy => { State.reset with link := { State.reset.link with sending := [⟨busy, hostFrame [0x32, 0, 0, 0, 0]⟩] } }
    ((s false).isOn = true ∧ (s false).link.sending = [⟨false, hostFrame [0x32, 0, 0, 0, 0]⟩] ∧
      (s false).link.restarting = false) ∧
    (s true).isOn = true ∧ (s true).link.sending = [⟨true, hostFrame [0x32, 0, 0, 0, 0]⟩] := by decide +kernel

theorem witness_MasksHideClassesFromAttention :
    let choices := [0, 1, 2, 0, 0, 0, 0, 0, 0]
    choices.length = 9 ∧ State.reset.takes (.setMasks choices) = true ∧ State.reset.takes .peekNotices = true := by
  decide +kernel

theorem witness_TakeNoticeEmptiesTheFirstClass :
    let open' := { State.reset with notices := { State.reset.notices with masks := { State.reset.notices.masks with clockInvalid := false } } }
    (State.reset.takes .takeNotice = true ∧ ∀ c ∈ noticeClasses, State.reset.notices.waiting c = false) ∧
    (open'.takes .takeNotice = true ∧ open'.notices.waiting .clockInvalid = true ∧
      ∀ d ∈ noticeClasses, d.priority < 11 → open'.notices.waiting d = false) ∧
    (State.reset.postKilnFault 5).notices.waiting .kilnFault = true := by decide +kernel

theorem witness_ClockIsSetReadAndMovesOn :
    State.reset.takes (.setClock 2099 12 31 23 59 59) = true ∧ State.reset.takes (.setClock 2100 1 1 0 0 0) = true ∧
    State.reset.takes .readClock = true ∧ State.reset.takes .readRetained = true ∧
    State.reset.backup.clock.valid = true ∧ (⟨2099, 12, 31, 23, 59, 59⟩ : DateTime).valid = true := by decide +kernel

theorem witness_ResetsRecoverTheKilns :
    twoSnapshots.distinctSnapshots ∧ twoSnapshots.backup.domainValid = true ∧ twoSnapshots.power ≠ .off ∧
    { twoSnapshots with power := .held }.power = .held ∧
    (after .restart twoSnapshots).link.restarting = true ∧ (after .restart twoSnapshots).power = .on ∧
    (after .restart twoSnapshots).link.sending.map SendFrame.busy = [false] :=
  ⟨two_snapshots_distinct, by decide +kernel⟩

theorem witness_PowerEventsKeepOrClearTheBackupDomain :
    { State.reset with backup := { State.reset.backup with domainValid := false } }.backup.domainValid = false ∧
    State.reset.power = .on ∧ { State.reset with power := .held }.power = .held ∧
    { State.reset with power := .off }.power = .off := by decide +kernel

/-- Of SpeciesRequestsAnswer, ScheduleTableRequestsAnswer and ChargeTableRequestsAnswer. -/
theorem witness_table_and_charge_requests :
    ([Instr.writeSpecies 0 180 1900 pine, .writeSpecies 255 400 1900 pine, .deleteSpecies 256, .readSpecies 1,
      .writeSchedule 8 4 schedule3Fields, .writeSchedule 9 17 [], .deleteSchedule 1, .readSchedule 0, .listTables,
      .setInfeed 0, .setInfeed 65535, .closeCharge 0, .readCharge 118, .listCharges].all State.reset.takes) = true := by
  decide +kernel

theorem witness_ScheduleTableRequestsAnswer :
    (stepsOf schedule3Fields).isSome = true ∧ ((stepsOf schedule3Fields).getD [])[3]?.isSome = true := by decide +kernel

theorem witness_LoadBindsANewCharge :
    let s := { withCharges ((List.range 16).map fun n => charge (n + 1) .staged none) with
               backup := { State.reset.backup with chargeCounter := 65535 } }
    s.charges.length ≤ 16 ∧ s.backup.chargeCounter ≤ 65535 ∧ s.takes (.load 1 21 3) = true ∧
    (withCharges []).takes (.load 6 21 3) = true := by decide +kernel

theorem witness_StartAndResumeSetKilnsGoing :
    ((kiln2 .running 0 0).takes (.start 2) = true ∧ ((kiln2 .running 0 0).kiln 1).state ≠ .loaded) ∧
    ((up 1 (kiln2 .loaded 0 0)).takes (.start 2) = true ∧ ((up 1 (kiln2 .loaded 0 0)).firstStep 1).isSome = true ∧
      ((up 1 (kiln2 .loaded 0 0)).kiln 1).state = .loaded ∧ ((up 1 (kiln2 .loaded 0 0)).port (kilnPort 1)).state = .up) ∧
    ((kiln2 .recovery 1 5).takes (.resume 2) = true ∧ ((kiln2 .recovery 1 5).port (kilnPort 1)).state ≠ .up) ∧
    ((up 1 (kiln2 .recovery 1 5)).takes (.resume 2) = true ∧
      ((up 1 (kiln2 .recovery 1 5)).kiln 1).charge = some bound ∧ ((up 1 (kiln2 .recovery 1 5)).kiln 1).state = .recovery ∧
      ((up 1 (kiln2 .recovery 1 5)).port (kilnPort 1)).state = .up) := by decide +kernel

/-- Of HoldsAreAddedAndRemoved, UnloadStagesTheCharge and KilnConfigReplacesAllNine. -/
theorem witness_kiln_requests :
    ([Instr.hold 1, .hold 6, .release 1 0, .release 6 1, .release 2 2, .abandon 1, .unload 6, .kilnConfig 1 1 2 1 1 0 0 2 50 0,
      .kilnConfig 6 60 60 8 24 1 1 15 2000 3, .readKiln 6].all State.reset.takes) = true := by decide +kernel

theorem witness_SkipEndsTheStep :
    ((kiln2 .complete 3 0).takes (.skip 2) = true ∧ ((kiln2 .complete 3 0).kiln 1).state ≠ .running ∧
      ((kiln2 .complete 3 0).kiln 1).state ≠ .held) ∧
    ((kiln2 .running 0 0).takes (.skip 2) = true ∧ ((kiln2 .running 0 0).kiln 1).charge = some bound ∧
      (kiln2 .running 0 0).schedule bound.schedule = some schedule3 ∧ ((kiln2 .running 0 0).kiln 1).state = .running) ∧
    ((kiln2 .held 3 0).kiln 1).charge = some bound ∧ (kiln2 .held 3 0).schedule bound.schedule = some schedule3 ∧
    ((kiln2 .held 3 0).kiln 1).state = .held := by decide +kernel

theorem witness_SubjectsOutOfRangeAreRefused :
    ([Instr.load 0 1 1, .start 7, .hold 0, .release 7 0, .skip 0, .unload 7, .resume 0, .abandon 7,
      .kilnConfig 0 1 2 1 1 0 0 2 50 0, .readKiln 7, .sweepNow 0 0, .readProbes 7, .enablePort 0 20 3 0 0, .disablePort 9,
      .readPort 9, .bayConfig 0 1 300 300 300 1, .closePack 5, .readBay 5].all State.reset.takes) = true := by
  decide +kernel

theorem witness_SnapshotsAndSetpointsFollowTheRecord :
    ((kiln2 .running 1 5).kiln 1).charge = some bound ∧ ((kiln2 .recovery 1 5).kiln 1).charge = some bound := by
  decide +kernel

theorem witness_MinuteEventCountsAndRamps :
    State.reset.isOn = true ∧ (State.reset.kiln 1).state = .empty ∧
    ((kiln2 .held 1 5).isOn = true ∧ ((kiln2 .held 1 5).kiln 1).state ≠ .empty ∧ ((kiln2 .held 1 5).kiln 1).state ≠ .running) ∧
    (let s := kiln2 .running 0 718
     ∃ x ∈ s.currentStep 1, s.isOn = true ∧ (s.kiln 1).state = .running ∧ ¬ (x.rule = .time ∧ x.threshold ≤ bump 718) ∧
       ¬ ((s.kiln 1).overtimeDisarmed = false ∧ x.maximum ≤ bump 718)) := by decide +kernel

theorem witness_MinuteEventEndsTheStep :
    (let s := kiln2 .running 0 719
     s.isOn = true ∧ (s.kiln 1).charge = some bound ∧ s.schedule bound.schedule = some schedule3 ∧
     (s.kiln 1).state = .running ∧ ∃ x ∈ schedule3.steps[0]?, x.rule = .time ∧ x.threshold ≤ bump 719) ∧
    (let s := kiln2 .running 1 4319
     (s.kiln 1).charge = some bound ∧ (s.kiln 1).overtimeDisarmed = false ∧
     ∃ x ∈ schedule3.steps[1]?, x.rule ≠ .time ∧ x.maximum ≤ bump 4319 ∧ x.action = .hold) ∧
    (let s := kiln2 .running 3 119
     (s.kiln 1).charge = some bound ∧ (s.kiln 1).overtimeDisarmed = false ∧
     ∃ x ∈ schedule3.steps[3]?, x.rule ≠ .time ∧ x.maximum ≤ bump 119 ∧ x.action = .advance) := by decide +kernel

theorem witness_ControllerLossHoldsTheKiln :
    ((kiln2 .running 1 5).isOn = true ∧ Report.controllerLost 1 ∉ (kiln2 .running 1 5).reports) ∧
    (Report.controllerLost 1 ∈ { kiln2 .running 1 5 with reports := [.controllerLost 1] }.reports) ∧
    ({ up 1 (kiln2 .loaded 0 0) with reports := [.kilnPortUp 1] }.isOn = true ∧
      { up 1 (kiln2 .loaded 0 0) with reports := [.kilnPortUp 1] }.reportNext (.kilnPortUp 1) = true) := by decide +kernel

theorem witness_SweepResultTestsTheStep :
    ((kiln2 .running 1 5).kiln 1).state ≠ .empty ∧ ((kiln2 .held 2 5).kiln 1).state ≠ .empty := by decide +kernel

/-- A kiln port's SETPOINT in flight, in UP, in a phase. -/
def setpointing (phase : ExchangePhase) : State := exchanging 1 .up .setpoint 0 phase (kiln2 .running 3 5)

/-- Of PortRequestsAnswer. -/
theorem witness_port_requests :
    ([Instr.enablePort 1 100 10 1 1, .enablePort 8 10 2 0 0, .enablePort 6 4 11 2 2, .disablePort 1, .readPort 8].all
      State.reset.takes) = true := by decide +kernel

/-- Of PortWaitsRunOut and FieldExchangesFallDueAndAreSent: a running part, each wait running. -/
theorem witness_port_waits :
    let s := State.reset.modifyPort 7 fun r =>
      { r with state := .establishing, attempt := some 3, wake := .wait, attemptGap := true, silentWait := true }
    s.isOn = true ∧ (s.port 7).wake = .wait ∧ (s.port 7).attemptGap = true ∧ (s.port 7).silentWait = true ∧
    ((up 0 State.reset).isOn = true ∧ ((up 0 State.reset).port 0).state = .up ∧
      ((up 0 State.reset).port 0).exchange = none) := by decide +kernel

theorem witness_RepliesAreJudgedAndHandedOn :
    let inUp := fun p command address => exchanging p .up command address (.receiving [0x69]) State.reset
    let holds := fun p command address =>
      ((inUp p command address).port p).exchange ==
        some { command := command, address := address, request := stationFrame address command.code [],
               phase := .receiving [0x69] } &&
      ((inUp p command address).port p).state == .up
    (State.reset.isOn = true ∧ (State.reset.port 7).exchange = none) ∧
    ((setpointing (.receiving [0x69])).isOn = true ∧ ((setpointing (.receiving [0x69])).port 1).exchange.isSome = true) ∧
    (holds 0 .setpoint 0 && holds 5 .probeRead 24 && holds 0 .identify 1 && holds 6 .meterSample 0 &&
      holds 6 .identify 0 && holds 7 .labelPrint 0 && holds 7 .labelStatus 0) = true ∧
    (255 < 256 ∧ 4294967295 < 4294967296 ∧ 65535 < 65536) := by decide +kernel

theorem witness_FailedSetpointsRaiseTheFailureCount :
    ([ExchangePhase.window, .receiving [0x69], .receiving [0x69, 0, 0]].all fun phase =>
      (setpointing phase).isOn && (((setpointing phase).port (kilnPort 1)).exchange ==
        some { command := .setpoint, address := 0, request := stationFrame 0 0x03 [], phase := phase }) &&
        ((setpointing phase).port (kilnPort 1)).state == .up && phase != .sending) = true := by decide +kernel

theorem witness_GoodSetpointsReachTheKiln :
    ((-32768 : Int) ≤ -32768 ∧ (-32768 : Int) < 32768) ∧ ((-32768 : Int) ≤ 32767 ∧ (32767 : Int) < 32768) ∧
    ((setpointing .window).port (kilnPort 1)).exchange =
      some { command := .setpoint, address := 0, request := stationFrame 0 0x03 [], phase := .window } ∧
    ((setpointing .window).port (kilnPort 1)).state = .up := by decide +kernel

theorem witness_EstablishmentEndsUpOrDown :
    let s := exchanging 7 .establishing .identify 0 .window State.reset
    s.isOn = true ∧ 255 < 256 ∧ 4294967295 < 4294967296 ∧ 65535 < 65536 ∧ (s.port 7).state = .establishing ∧
    (s.port 7).exchange = some { command := .identify, address := 0, request := stationFrame 0 0x01 [], phase := .window } := by
  decide +kernel

theorem witness_LineFaultsStopThePort :
    (State.reset.isOn = true ∧ (State.reset.port 1).driving = false) ∧
    (let s := after (.enablePort 8 10 3 0 0) State.reset
     s.isOn = true ∧ (s.port 7).wake = .pulse ∧ (s.port 7).state = .establishing ∧ (s.port 7).exchange = none) ∧
    ((setpointing .sending).isOn = true ∧ ((setpointing .sending).port 1).exchange =
      some { command := .setpoint, address := 0, request := stationFrame 0 0x03 [], phase := .sending } ∧
      ((setpointing .sending).port 1).state = .up ∧ portKiln 1 = some 1) ∧
    ([0, 7].all fun p =>
      let s := exchanging p .establishing .identify 0 .sending State.reset
      s.isOn && (s.port p).state == .establishing && (s.port p).exchange.any fun e =>
        e.phase == .sending && e.command == .identify && e.address == 0) = true ∧
    ([((0 : PortNo), StationCommand.probeRead, 24), (5, .identify, 1), (5, .identify, 0), (0, .setpoint, 0),
      (6, .meterSample, 0), (7, .labelPrint, 0), (7, .labelStatus, 0), (6, .identify, 0), (7, .identify, 0)].all fun x =>
      let s := exchanging x.1 .up x.2.1 x.2.2 .sending State.reset
      s.isOn && (s.port x.1).state == .up && (s.port x.1).exchange.any fun e =>
        e.phase == .sending && e.command == x.2.1 && e.address == x.2.2) = true := by decide +kernel

theorem witness_ProbeTableRequestsAnswer :
    ([Instr.assignProbe 70011 1 2 201, .assignProbe 70011 6 3 201, .assignProbe 70011 0 0 0, .assignProbe 70011 7 0 0,
      .assignProbe 70011 255 0 0, .unassignProbe 70011, .listAssignments, .readProbes 1, .forgetProbe 70011].all State.reset.takes) = true ∧
    State.reset.presenceOf 70011 = none ∧
    ((afterSweepA.presenceOf 70011).isSome = true ∧ (afterSweepA.sweep 1).kind = none) ∧
    ([([(1, .read), (9, .read)], none), ([(1, .read)], none), ([(1, .read)], some (.probeRead, 1))].all
      fun x : List (Nat × ProbeCommand) × Option (StationCommand × Nat) =>
        let s := (afterSweepA.modifySweep 1 fun w => { w with kind := some .regular, outstanding := x.1 }).modifyPort 1
          fun r => { r with exchange := x.2.map fun e =>
            { command := e.1, address := e.2, request := stationFrame e.2 0x02 [], phase := .window } }
        s.takes (.forgetProbe 70011) && (s.presenceOf 70011).isSome && (s.sweep 1).kind.isSome) = true := by decide +kernel

theorem witness_SweepPlansFollowTheTable :
    (1 ≤ (afterSweepA.sweep 1).cursor ∧ (afterSweepA.sweep 1).cursor ≤ 24) ∧
    (let s := afterSweepA.modifySweep 1 fun w => { w with cursor := 24, fullScan := false }
     1 ≤ (s.sweep 1).cursor ∧ (s.sweep 1).cursor ≤ 24) := by decide +kernel

theorem witness_SweepsBeginAndAreAborted :
    (afterSweepA.takes (.sweepNow 2 1) = true ∧ (afterSweepA.port (kilnPort 1)).sweepQueue = []) ∧
    (afterSweepA.isOn = true ∧ (afterSweepA.port (kilnPort 1)).state = .up ∧
      (afterSweepA.port (kilnPort 1)).sweepQueue = []) ∧
    (let s := (afterSweepA.modifySweep 1 fun w => { w with kind := some .regular, outstanding := [(1, .read)] }).modifyPort 1
       fun r => { r with sweepQueue := [(1, .read)] }
     s.takes (.sweepNow 2 0) = true ∧ (s.sweep 1).kind.isSome = true ∧ (s.port (kilnPort 1)).sweepQueue ≠ []) ∧
    ([(PortState.down, []), (.up, [(3, .identify)])].all fun x : PortState × List (Nat × ProbeCommand) =>
      let s := (afterSweepA.modifySweep 1 fun w => { w with interval := some 600000 }).modifyPort 1
        fun r => { r with state := x.1, sweepQueue := x.2 }
      s.isOn && s.takes (.sweepNow 2 1) && (s.sweep 1).interval.isSome && (s.sweep 1).kind.isNone &&
        !(s.sweepPlan 1).isEmpty && !(s.port 1).acceptsPlan) = true := by
  decide +kernel

/-- Chapter 6's charge with a sweep of two exchanges outstanding, the entry at address 1 at 255 misses. -/
def sweeping : State :=
  { afterSweepA with
    presence := { entry 70011 1 .lost (some .control) none with missCount := 255 } :: afterSweepA.presence.drop 1 }.modifySweep
    1 fun w => { w with kind := some .regular, outstanding := [(1, .read), (9, .read), (7, .read)] }

theorem witness_SweepOutcomesReachTheEntries :
    ((sweeping.modifySweep 1 fun w => { w with discard := some (5, .read) }).sweep 1).discard = some (5, .read) ∧
    ((sweeping.sweep 1).discard ≠ some (5, .read) ∧ (5, ProbeCommand.read) ∉ (sweeping.sweep 1).outstanding) ∧
    ([1, 9, 7].all fun a => (sweeping.sweep 1).discard != some (a, .read) &&
      (sweeping.sweep 1).outstanding.contains (a, .read)) = true ∧ ExchangeOutcome.address ≠ .good ∧
    sweeping.presenceAt 1 7 = none ∧ (sweeping.presenceAt 1 9).map PresenceEntry.state = some .foreign ∧
    ((sweeping.presenceAt 1 1).map fun e => (e.state, e.missCount)) = some (.lost, 255) := by decide +kernel

/-- A GOOD read of serial 70011 at its own address, L 8000, no fault: the LOST entry at 255 misses is ACTIVE again. -/
theorem witness_SweepOutcomesReachTheEntries_good :
    (sweeping.tablesKept ∧ sweeping.presenceShaped ∧ 1 ≤ 1 ∧ 1 ≤ 24 ∧ 70011 < 4294967296 ∧ 8000 < 65536) ∧
    (2 < 256 ∧ 65535 < 65536) ∧
    ((sweeping.sweep 1).discard ≠ some (1, .read) ∧ (1, ProbeCommand.read) ∈ (sweeping.sweep 1).outstanding ∧
      (sweeping.presenceOf 70011).map (fun e => (e.port, e.address)) = some (1, 1)) ∧
    ((sweeping.probeOutcome 1 1 .read .good (u32 70011 ++ u16 8000 ++ [0])).presenceAt 1 1).map
      (fun e => (e.state, e.missCount, e.lastClass)) = some (.active, 0, some .usable) :=
  ⟨⟨by unfold State.tablesKept; decide +kernel, by unfold State.presenceShaped; decide +kernel, by decide, by decide,
    by decide, by decide⟩, by decide, by decide +kernel, by decide +kernel⟩

/-- GOOD outcomes of an outstanding IDENTIFY and read, the serial at another address, on another port, or nowhere. -/
theorem witness_SweepOutcomesReachTheEntries_heard :
    sweeping.tablesKept ∧ sweeping.presenceShaped ∧
    ([(1, ProbeCommand.identify), (24, .identify), (24, .read)].all fun x =>
      let s := sweeping.modifySweep 1 fun w => { w with outstanding := [x] }
      (s.sweep 1).discard != some x && (s.sweep 1).outstanding.contains x) = true ∧
    ((sweeping.sweep 0).discard ≠ some (24, .identify) ∧
      (24, ProbeCommand.identify) ∈
        ((sweeping.modifySweep 0 fun w => { w with kind := some .full, outstanding := [(24, .identify)] }).sweep 0).outstanding) ∧
    ((sweeping.presenceOf 70011).map (fun e => (e.port, e.address)) = some (1, 1) ∧
      sweeping.presenceOf 4294967295 = none) ∧ 2 < 256 ∧ 255 < 256 ∧ 65535 < 65536 :=
  ⟨by unfold State.tablesKept; decide +kernel, by unfold State.presenceShaped; decide +kernel, by decide +kernel,
    by decide +kernel, by decide +kernel, by decide, by decide, by decide⟩

theorem witness_IdentityResolutionPlacesTheSerial :
    sweeping.tablesKept ∧ sweeping.presenceShaped ∧ 1 ≤ 24 ∧ 24 ≤ 24 :=
  ⟨by unfold State.tablesKept; decide +kernel, by unfold State.presenceShaped; decide +kernel, by decide, by decide⟩

theorem witness_LineRequestsAnswer :
    ([Instr.lineConfig 100 1 2 300 0 0, .lineConfig 10000 1073741823 1073741824 6000 1 20, .readLine, .lineClear].all
      (withPieces [piece 40 none none .pending .pending]).takes) = true ∧
    (∀ p ∈ (withPieces [piece 40 none none .pending .pending]).line.queue, ∀ b, p.grade ≠ .dry b) ∧
    1 ≤ ({ charge 118 .staged none with queued := 1 } : Charge).queued ∧
    (let s := (withPieces [piece 40 (some 203600) (some 3600) (.read 2230) (.dry 1)]).setBay 1
       { beforeClose.bay 1 with openPack := some ⟨21, 5, 1, [⟨121, 5, 1⟩], 7200, some 1610⟩ }
     s.takes .lineClear = true ∧ (s.line.queue.map Piece.grade) = [.dry 1] ∧
      (s.bay 1).openPack.map OpenPack.contributors = some [⟨121, 5, 1⟩]) := by
  refine ⟨by decide +kernel, ?_, by decide, by decide +kernel⟩
  intro p hp b
  simp only [withPieces, List.mem_singleton] at hp
  subst hp
  simp [piece]

/-- The trace's line with a capture. -/
def captured (c : Capture) : State := { lineState with line := { lineState.line with capture := c } }

theorem witness_EyeEdgesMakeAndMeasurePieces :
    lineState.isOn = true ∧
    (captured ⟨true, true, some 200000, none, some 40⟩).line.capture.boardInEye = true ∧
    (captured ⟨false, false, some 200000, some 203600, none⟩).line.capture.lastTrail.any (fun trail =>
      !decide (1 ≤ ((203600 : Position) - trail).toNat ∧ ((203600 : Position) - trail).toNat < 2147483648)) = true ∧
    (captured ⟨false, false, none, none, none⟩).line.capture.boardInEye = false ∧
    ((captured ⟨true, true, some 200000, none, none⟩).line.capture.boardInEye = true ∧
      (captured ⟨true, true, some 200000, none, none⟩).line.capture.lastLead.any (fun lead =>
        decide (1 ≤ ((200001 : Position) - lead).toNat ∧ ((200001 : Position) - lead).toNat < 2147483648)) = true ∧
      (captured ⟨true, true, some 200000, none, none⟩).line.capture.owner = none ∧
      (captured ⟨true, true, some 200000, none, some 40⟩).line.capture.owner = some 40) ∧
    (lineState.line.capture.boardInEye = false ∧ lineState.line.capture.lastTrail.all (fun trail =>
      decide (1 ≤ ((200000 : Position) - trail).toNat ∧ ((200000 : Position) - trail).toNat < 2147483648)) = true ∧
      lineState.line.queue.length < 32) ∧
    32 ≤ (withPieces ((List.range 32).map fun n => piece n none none .pending .pending)).line.queue.length := by
  decide +kernel

/-- Of EncoderStepsMoveThePieces: a piece at its position behind another that is at none. -/
theorem witness_EncoderStepsMoveThePieces :
    let at' := fun (q : Position) => decide (((206000 : Position) - q).toNat < 2147483648)
    let idle := fun (x : Piece) => !at' (match x.grade with | .dry _ => x.stackAt | _ => x.divertAt)
    let dry := piece 39 (some 199000) (some 3600) (.read 1450) (.dry 0)
    let graded := fun g => piece 40 (some 203600) (some 3600) (.read 2230) g
    let s := fun x => let t := withPieces [dry, x]; { t with line := { t.line with counter := 205999 } }
    ((s (graded .redry)).isOn = true ∧ (s (graded .redry)).line.counter + 1 = 206000 ∧
      (s (graded .redry)).line.queue = [dry] ++ graded .redry :: [] ∧ idle dry = true) ∧
    { State.reset with power := .held }.power = .held ∧
    (idle (piece 40 none none .pending .pending) = false ∧ (piece 40 none none .pending .pending).trail = none) ∧
    ([Grade.redry, .short, .noBay, .untraced].all fun g =>
      !idle (graded g) && (graded g).trail.isSome && (graded g).reading != .pending && (graded g).grade == g) = true ∧
    (idle (piece 40 (some 203600) (some 1799) .pending .pending) = false ∧
      (piece 40 (some 203600) (some 1799) .pending .pending).length = some 1799 ∧
      (piece 40 (some 203600) (some 1799) .pending .pending).trail.isSome = true) ∧
    idle { piece 40 (some 203600) (some 3600) (.read 1450) (.dry 3) with stackAt := 206000 } = false ∧
    (withPieces []).line.queue = [] := by decide +kernel

theorem witness_SamplesAndLengthsGradeThePieces :
    let s := withPieces [piece 40 (some 203600) (some 3600) .pending .pending]
    let owned := { s with reports := [.meterPortLeftUp], line := { s.line with sampleOwner := some 40 } }
    (65535 < 65536 ∧ (-32768 : Int) ≤ -32768 ∧ (32767 : Int) < 32768) ∧ s.line.sampleOwner = none ∧
    (owned.line.sampleOwner = some 40 ∧ ExchangeOutcome.timeout ≠ .good ∧ owned.isOn = true ∧
      owned.reportNext .meterPortLeftUp = true ∧ (owned.piece 40).isSome = true) ∧
    (owned.piece 40).isSome = true := by decide +kernel

theorem witness_BayRequestsAnswer :
    let at' := fun state => beforeClose.modifyBay 1 fun b => { b with state := state }
    ([Instr.bayConfig 1 0 300 300 300 1, .bayConfig 4 1 300 9999 9999 2000, .readBay 1, .readBay 4, .closePack 1].all
      State.reset.takes) = true ∧
    (beforeClose.takes (.closePack 1) = true ∧ (beforeClose.bay 0).state ≠ .opened ∧ (beforeClose.bay 0).state ≠ .closing) ∧
    ((at' .closing).takes (.closePack 2) = true ∧ ((at' .closing).bay 1).state = .closing) ∧
    (beforeClose.takes (.closePack 2) = true ∧ (beforeClose.bay 1).state = .opened ∧
      (beforeClose.bay 1).openPack.isSome = true) := by decide +kernel

theorem witness_PiecesFillTheirPacks :
    (lineState.bay 0).state = .empty ∧
    ((beforeClose.bay 1).openPack.isSome = true ∧ (beforeClose.bay 1).state = .opened ∧
      (beforeClose.bay 1).config.isSome = true) := by decide +kernel

theorem witness_PacksCloseIntoRecords :
    let emptyPack := beforeClose.modifyBay 1 fun b => { b with openPack := some ⟨21, 0, 1, [⟨121, 0, 1⟩], 0, none⟩ }
    let full := { beforeClose with packs := List.replicate 8 (record4217 .confirmed) }
    let freed := { beforeClose.modifyBay 1 fun b => { b with state := .waitRecord } with
                   packs := List.replicate 7 (record4217 .confirmed) }
    ((emptyPack.bay 1).openPack.map OpenPack.stacked = some 0 ∧ (emptyPack.bay 1).config.isSome = true) ∧
    ((full.bay 1).openPack.map OpenPack.stacked = some 5 ∧ 8 ≤ full.packs.length ∧ (full.bay 1).config.isSome = true) ∧
    (beforeClose.packs.length < 8 ∧ beforeClose.backup.packCounter ≤ 999999) ∧
    (freed.packs.length = 7 ∧ (∀ b, (freed.bay b).state = .waitRecord → (freed.bay b).openPack.isSome = true) ∧
      (freed.bay 1).state = .waitRecord ∧ ∀ d : BayNo, d < 1 → (freed.bay d).state ≠ .waitRecord) ∧
    ∀ b, ({ beforeClose with packs := List.replicate 7 (record4217 .confirmed) }.bay b).state ≠ .waitRecord := by
  decide +kernel

theorem witness_PackRequestsAnswer :
    let s := labelled (.fault .mismatch) .labelFault { LabelUnit.initial with jobs := [5], phase := some .unstarted }
    ([Instr.listPacks, .labelConfig 5, .labelConfig 120, .labelConfig 4, .labelConfig 121, .readPack 0, .collectPack 1000000,
      .reprint 1, .voidLabel 999999, .readPack 4217, .collectPack 4217, .voidLabel 4217, .reprint 4217].all s.takes) = true ∧
    (s.pack 1 = none ∧ s.pack 999999 = none) ∧ (s.pack 4217 = some (record4217 (.fault .mismatch)) ∧ s.label.jobs ≠ []) ∧
    (let t := labelled (.fault .mismatch) .labelFault LabelUnit.initial
     t.takes (.reprint 4217) = true ∧ t.pack 4217 = some (record4217 (.fault .mismatch)) ∧ t.label.jobs = []) ∧
    (let t := labelled .queued .labelling { LabelUnit.initial with jobs := [4217], phase := some .unstarted }
     t.pack 4217 = some (record4217 .queued) ∧ t.label.phase = some .unstarted ∧ t.label.jobs.head? = some 4217) := by
  decide +kernel

theorem witness_LabelJobsEndConfirmedOrInFault :
    let print := labelled .queued .labelling (job .print false)
    let poll := labelled .printing .labelling (job .poll true)
    (print.isOn = true ∧ print.currentRecord = some (record4217 .queued) ∧ print.label.phase = some .print ∧
      print.label.outstanding = some { status := false, stale := false }) ∧
    let stale := labelled .queued .labelling
      { LabelUnit.initial with jobs := [4217], phase := some .unstarted, outstanding := some ⟨true, true⟩ }
    (poll.isOn = true ∧ poll.currentRecord = some (record4217 .printing) ∧ poll.label.phase = some .poll ∧
      poll.label.outstanding = some { status := true, stale := false }) ∧
    (stale.isOn = true ∧ stale.label.phase = some .unstarted ∧
      stale.label.outstanding = some { status := true, stale := true }) ∧
    (State.reset.label.phase = none ∧ State.reset.label.outstanding = none) ∧
    ([(LabelPhase.print, LabelState.queued), (.poll, .printing)].all fun x =>
      let s := labelled x.2 .labelling { job x.1 false with outstanding := none, pause := true }
      s.isOn && s.label.pause && s.label.phase == some x.1 && s.currentRecord == some (record4217 x.2)) = true := by
  decide +kernel

theorem witness_MoistureIsConvertedSmoothedAndSelected :
    (speciesInRange 180 1900 pine = true ∧ 8 ≤ pine.length) ∧ (3071 < 3072 ∧ 12800 < 12801 ∧ 3072 ≤ 3072 ∧ 12800 ≤ 12800) ∧
    ((5632 : Int) ≤ (pine.getD 0 (0, 0)).1 ∧ (pine.getD 7 (0, 0)).1 ≤ (12800 : Int)) ∧
    (((pine.getD 0 (0, 0)).1 : Int) < 9720 ∧ ((pine.getD 3 (0, 0)).1 : Int) ≤ 9720 ∧
      (9720 : Int) < (pine.getD 4 (0, 0)).1) ∧
    (let distance := max 1245 1820 - min 1245 1820
     400 < distance ∧ 1 < 2 ∧ 2 ≤ 2) ∧
    (let distance := max 1245 845 - min 1245 845
     distance ≤ 400 ∧ 1 ≤ 3 ∧ 3 ≤ 3) ∧ 1 ≤ 8 ∧ 1 ≤ 24 ∧ 2 ≤ [1245, 1310].length := by decide +kernel

/-- A state that meets the invariants, its kiln 2 loaded and sweeping, a request waiting. -/
def busyState : State := { sweeping with pending := [.hold 2] }

/-- Of StepsKeepTheTables. -/
theorem witness_steps_keep_the_tables :
    busyState.tablesKept ∧ busyState.talliesKept ∧ goesOn (.hold 2) sweeping = true :=
  ⟨by unfold State.tablesKept; decide +kernel, by unfold State.talliesKept; decide +kernel, by decide +kernel⟩

/-- Of StepsKeepTheKilns. -/
theorem witness_steps_keep_the_kilns : busyState.kilnsKept ∧ twoSnapshots.setpointsKept := by
  refine ⟨by unfold State.kilnsKept; decide +kernel, ?_, ?_, ?_⟩
  · decide +kernel
  · have h : ∀ k : KilnNo, ∀ x ∈ twoSnapshots.snapshot k, x.dryBulb ≤ 1200 ∧ x.depression ≤ 400 := by decide +kernel
    exact fun k x hx => h k x hx
  · have h : ∀ i : Fin 8, ∀ sch ∈ twoSnapshots.schedules.get i, ∀ x ∈ sch.steps, x.inRange = true := by decide +kernel
    exact fun i sch hs => h i sch hs

/-- Of StepsKeepThePortsAndTheLink. -/
theorem witness_steps_keep_the_ports_and_the_link :
    busyState.portsKept ∧ (heldBy (.load 4 21 3) 0x30).linkKept := by
  refine ⟨by unfold State.portsKept; decide +kernel, ?_⟩
  unfold State.linkKept
  decide +kernel

/-- Of StepsKeepTheProbeUnit. -/
theorem witness_steps_keep_the_probe_unit : busyState.sweepsKept := by
  refine ⟨by decide +kernel, ?_⟩
  unfold State.presenceShaped
  decide +kernel

end Sys2Proof.Tests
end

section
/-!
PROOFS. The moisture arithmetic unit: what a conversion, a smoothing step and a selection answer, case by case (R3 to R16).
-/
namespace Sys2Proof.Machine

/-! ### Conversion -/

theorem convert_of_fault (l : Nat) (temperature : Option Int) (species : Option SpeciesEntry) :
    convert l true temperature species = ⟨.faulted, l, none, .none⟩ := by
  simp [convert]

theorem convert_of_short {l : Nat} (short : l < 3072) (temperature : Option Int) (species : Option SpeciesEntry) :
    convert l false temperature species = ⟨.short, l, none, .none⟩ := by
  simp [convert, short]

theorem convert_of_open {l : Nat} (isOpen : 12800 < l) (temperature : Option Int) (species : Option SpeciesEntry) :
    convert l false temperature species = ⟨.openLead, l, none, .none⟩ := by
  have notShort : ¬ l < 3072 := by omega
  simp [convert, notShort, isOpen]

theorem convert_of_noCurve {l : Nat} (low : 3072 ≤ l) (high : l ≤ 12800) (temperature : Option Int) :
    convert l false temperature none = ⟨.noCurve, l, none, .none⟩ := by
  simp [convert, low.not_gt, high.not_gt]

/-- With the checks of R3 passed, the class is USABLE and the curve decides the rest. -/
theorem convert_of_usable {l : Nat} (low : 3072 ≤ l) (high : l ≤ 12800) (temperature : Option Int) (e : SpeciesEntry)
    {mc : Nat} {flags : ReadingFlags}
    (onCurve : curveReading e.curve (correctedCode e.kT (temperature.getD 250) l)
      { ReadingFlags.none with uncorrected := temperature.isNone } = (mc, flags)) :
    convert l false temperature (some e) = ⟨.usable, l, some mc, flags⟩ := by
  simp [convert, low.not_gt, high.not_gt, onCurve]

/-- The length and the order of R22 that a conversion rests on. -/
theorem length_and_rising_of_speciesInRange {kT packLimit : Nat} {curve : List (Nat × Nat)}
    (inRange : speciesInRange kT packLimit curve = true) :
    curve.length = 8 ∧ curve.Pairwise fun p q => p.1 < q.1 := by
  simp only [speciesInRange, Bool.and_eq_true, decide_eq_true_eq] at inRange
  obtain ⟨⟨⟨⟨-, length⟩, -⟩, ordered⟩, -⟩ := inRange
  exact ⟨length, ordered.imp And.left⟩

/-- Along a rising curve a later breakpoint has the greater code. -/
theorem getD_lt_getD_of_rising {curve : List (Nat × Nat)} (rising : curve.Pairwise fun p q => p.1 < q.1) {i j : Nat}
    (before : i < j) (inside : j < curve.length) : (curve.getD i (0, 0)).1 < (curve.getD j (0, 0)).1 := by
  rw [List.getD_eq_getElem _ _ (before.trans inside), List.getD_eq_getElem _ _ inside]
  exact List.pairwise_iff_getElem.mp rising _ _ _ _ before

theorem getD_le_getD_of_rising {curve : List (Nat × Nat)} (rising : curve.Pairwise fun p q => p.1 < q.1) {i j : Nat}
    (notAfter : i ≤ j) (inside : j < curve.length) : (curve.getD i (0, 0)).1 ≤ (curve.getD j (0, 0)).1 := by
  rcases Nat.lt_or_eq_of_le notAfter with before | rfl
  · exact (getD_lt_getD_of_rising rising before inside).le
  · exact le_rfl

/-- R6: a curve's reading in terms of its first and its last breakpoint. -/
theorem curveReading_eq {curve : List (Nat × Nat)} {last : Nat} (length : curve.length = last + 1) (x : Int)
    (flags : ReadingFlags) :
    curveReading curve x flags =
      if x ≤ (curve.getD 0 (0, 0)).1 then ((curve.getD 0 (0, 0)).2, { flags with saturatedWet := true })
      else if (curve.getD last (0, 0)).1 ≤ x then ((curve.getD last (0, 0)).2, { flags with saturatedDry := true })
      else (interpolate curve x, flags) := by
  have head : curve.head? = some (curve.getD 0 (0, 0)) := by
    rw [List.head?_eq_getElem?, List.getD_eq_getElem _ _ (by omega), List.getElem?_eq_getElem]
  have final : curve.getLast? = some (curve.getD last (0, 0)) := by
    rw [List.getLast?_eq_getElem?, length, Nat.add_sub_cancel, List.getD_eq_getElem _ _ (by omega),
      List.getElem?_eq_getElem]
  simp only [curveReading, head, final]

/-- R6: at or below the first breakpoint the reading saturates wet. -/
theorem curveReading_of_le_first {curve : List (Nat × Nat)} {last : Nat} (length : curve.length = last + 1) {x : Int}
    (wet : x ≤ (curve.getD 0 (0, 0)).1) (flags : ReadingFlags) :
    curveReading curve x flags = ((curve.getD 0 (0, 0)).2, { flags with saturatedWet := true }) := by
  rw [curveReading_eq length, if_pos wet]

/-- R6: at or above the last breakpoint, which is not the first, the reading saturates dry. -/
theorem curveReading_of_last_le {curve : List (Nat × Nat)} {last : Nat} (length : curve.length = last + 1)
    (rising : curve.Pairwise fun p q => p.1 < q.1) (several : 0 < last) {x : Int}
    (dry : (curve.getD last (0, 0)).1 ≤ x) (flags : ReadingFlags) :
    curveReading curve x flags = ((curve.getD last (0, 0)).2, { flags with saturatedDry := true }) := by
  have apart := getD_lt_getD_of_rising rising several (length ▸ last.lt_succ_self)
  rw [curveReading_eq length, if_neg (by omega), if_pos dry]

/-- R7: a code between two neighbouring breakpoints of a rising curve is interpolated between these two. -/
theorem interpolate_of_between {curve : List (Nat × Nat)} (rising : curve.Pairwise fun p q => p.1 < q.1) {j : Nat}
    (inside : j + 1 < curve.length) {x : Int} (above : (curve.getD j (0, 0)).1 ≤ x)
    (below : x < (curve.getD (j + 1) (0, 0)).1) :
    interpolate curve x =
      (curve.getD j (0, 0)).2 -
        roundHalfUp
          (((curve.getD j (0, 0)).2 - (curve.getD (j + 1) (0, 0)).2) * (x - (curve.getD j (0, 0)).1).toNat)
          ((curve.getD (j + 1) (0, 0)).1 - (curve.getD j (0, 0)).1) := by
  induction j generalizing curve with
  | zero =>
    match curve, inside with
    | p :: q :: rest, _ => exact if_pos below
  | succ j ih =>
    match curve, inside with
    | p :: q :: rest, inside =>
      have risingTail : (q :: rest).Pairwise fun p q => p.1 < q.1 := rising.tail
      have insideTail : j + 1 < (q :: rest).length := Nat.lt_of_succ_lt_succ inside
      have aboveTail : ((q :: rest).getD j (0, 0)).1 ≤ x := above
      have pastFirst : ¬ x < q.1 := by
        have : q.1 ≤ ((q :: rest).getD j (0, 0)).1 :=
          getD_le_getD_of_rising risingTail (Nat.zero_le j) (Nat.lt_of_succ_lt insideTail)
        omega
      calc interpolate (p :: q :: rest) x
        _ = interpolate (q :: rest) x := if_neg pastFirst
        _ = _ := ih risingTail insideTail aboveTail below

/-- R7: strictly between the ends of a rising curve a code is not saturated. -/
theorem curveReading_of_between {curve : List (Nat × Nat)} {last : Nat} (length : curve.length = last + 1)
    (rising : curve.Pairwise fun p q => p.1 < q.1) {j : Nat} (inside : j < last) {x : Int}
    (pastHead : (curve.getD 0 (0, 0)).1 < x) (above : (curve.getD j (0, 0)).1 ≤ x)
    (below : x < (curve.getD (j + 1) (0, 0)).1) (flags : ReadingFlags) :
    curveReading curve x flags =
      ((curve.getD j (0, 0)).2 -
        roundHalfUp
          (((curve.getD j (0, 0)).2 - (curve.getD (j + 1) (0, 0)).2) * (x - (curve.getD j (0, 0)).1).toNat)
          ((curve.getD (j + 1) (0, 0)).1 - (curve.getD j (0, 0)).1), flags) := by
  have belowLast := getD_le_getD_of_rising (i := j + 1) rising inside (length ▸ last.lt_succ_self)
  rw [curveReading_eq length, if_neg (by omega), if_neg (by omega),
    interpolate_of_between rising (by omega) above below]

/-! ### Smoothing -/

theorem natAbs_sub_eq_max_sub_min (a b : Nat) : ((a : Int) - b).natAbs = max a b - min a b := by omega

theorem smooth_of_absent (suspects mc shift limit : Nat) : smooth none suspects mc shift limit = ⟨mc, 0, false, false⟩ :=
  rfl

/-- R11: a first or second suspect reading leaves S. -/
theorem smooth_of_suspect {value suspects mc limit : Nat} (far : limit < max mc value - min mc value)
    (few : suspects < 2) (shift : Nat) :
    smooth (some value) suspects mc shift limit = ⟨value, suspects + 1, true, false⟩ := by
  simp only [smooth, natAbs_sub_eq_max_sub_min, if_pos far, if_pos few]

/-- R12: the third suspect reading in a row becomes S. -/
theorem smooth_of_reseeding {value suspects mc limit : Nat} (far : limit < max mc value - min mc value)
    (many : 2 ≤ suspects) (shift : Nat) :
    smooth (some value) suspects mc shift limit = ⟨mc, 0, false, true⟩ := by
  simp only [smooth, natAbs_sub_eq_max_sub_min, if_pos far, if_neg many.not_gt]

/-- R13: an accepted reading moves S by the step. -/
theorem smooth_of_accepted {value mc limit : Nat} (near : max mc value - min mc value ≤ limit) (suspects shift : Nat) :
    smooth (some value) suspects mc shift limit =
      ⟨moveToward value mc (smoothingStep shift (max mc value - min mc value)), 0, false, false⟩ := by
  simp only [smooth, natAbs_sub_eq_max_sub_min, if_neg near.not_gt]

/-- The shift of R13 is a division rounded half up: numerator and denominator of R7's form share the factor 2. -/
theorem smoothingStep_eq_roundHalfUp {shift : Nat} (positive : 1 ≤ shift) (magnitude : Nat) :
    smoothingStep shift magnitude = if magnitude = 0 then 0 else max 1 (roundHalfUp magnitude (2 ^ shift)) := by
  obtain ⟨shift, rfl⟩ := Nat.exists_eq_add_of_le' positive
  have rounded : (magnitude + 2 ^ shift) / 2 ^ (shift + 1) = roundHalfUp magnitude (2 ^ (shift + 1)) := by
    rw [roundHalfUp, pow_succ', ← Nat.mul_add, Nat.mul_div_mul_left _ _ two_pos]
  rw [smoothingStep, if_neg (Nat.succ_ne_zero shift), Nat.add_sub_cancel, rounded]

/-- The whole of the difference brings S to the reading. -/
theorem moveToward_distance (value mc : Nat) : moveToward value mc (max mc value - min mc value) = mc := by
  unfold moveToward
  split <;> omega

/-! ### Selection -/

theorem insertDescending_eq_orderedInsert (x : Nat) (ys : List Nat) :
    insertDescending x ys = ys.orderedInsert (· ≥ ·) x := by
  induction ys with
  | nil => rfl
  | cons y ys ih => rw [insertDescending, ih, List.orderedInsert_cons]

/-- The model's sorting of candidate values is the library's insertion sort. -/
theorem descending_eq_insertionSort (values : List Nat) : descending values = values.insertionSort (· ≥ ·) := by
  induction values with
  | nil => rfl
  | cons x values ih =>
    rw [List.insertionSort_cons, ← ih, ← insertDescending_eq_orderedInsert]
    rfl

theorem descending_perm (values : List Nat) : (descending values).Perm values := by
  rw [descending_eq_insertionSort]
  exact List.perm_insertionSort _ _

theorem descending_pairwise (values : List Nat) : (descending values).Pairwise (· ≥ ·) := by
  rw [descending_eq_insertionSort]
  exact List.pairwise_insertionSort _ _

@[simp] theorem length_descending (values : List Nat) : (descending values).length = values.length :=
  (descending_perm values).length_eq

@[simp] theorem descending_eq_nil_iff (values : List Nat) : descending values = [] ↔ values = [] := by
  rw [← List.length_eq_zero_iff, length_descending, List.length_eq_zero_iff]

/-- The first of the sorted values is the wettest. -/
theorem wettest_of_head_descending {values : List Nat} {hi : Nat} (first : (descending values).head? = some hi) :
    hi ∈ values ∧ ∀ x ∈ values, x ≤ hi := by
  obtain ⟨others, sorted⟩ := List.head?_eq_some_iff.mp first
  have perm := sorted ▸ descending_perm values
  have below := (List.pairwise_cons.mp (sorted ▸ descending_pairwise values)).1
  refine ⟨perm.mem_iff.mp List.mem_cons_self, fun x member => ?_⟩
  rcases List.mem_cons.mp (perm.mem_iff.mpr member) with rfl | member
  · exact le_rfl
  · exact below x member

/-- The last of the sorted values is the driest. -/
theorem driest_of_getLast_descending {values : List Nat} {lo : Nat} (last : (descending values).getLast? = some lo) :
    lo ∈ values ∧ ∀ x ∈ values, lo ≤ x := by
  obtain ⟨others, sorted⟩ := List.getLast?_eq_some_iff.mp last
  have perm := sorted ▸ descending_perm values
  have above := (List.pairwise_append.mp (sorted ▸ descending_pairwise values)).2.2
  refine ⟨perm.mem_iff.mp (List.mem_append_right _ List.mem_cons_self), fun x member => ?_⟩
  rcases List.mem_append.mp (perm.mem_iff.mpr member) with member | member
  · exact above x member lo List.mem_cons_self
  · exact (List.mem_singleton.mp member).ge

theorem select_controllingMc (values : List Nat) (wetCount minimum : Nat) :
    (select values wetCount minimum).controllingMc =
      if values.length < minimum then .invalid
      else .value (roundHalfUp ((descending values).take (min wetCount values.length)).sum
        (min wetCount values.length)) := by
  simp only [select, length_descending]

theorem select_driest (values : List Nat) (wetCount minimum : Nat) :
    (select values wetCount minimum).driest = (descending values).getLast? := rfl

/-- R15: the wettest k of the values and the others. -/
theorem exists_wettest_split (values : List Nat) {k : Nat} (enough : k ≤ values.length) :
    ∃ dry, ((descending values).take k ++ dry).Perm values ∧ ((descending values).take k).length = k ∧
      ∀ x ∈ (descending values).take k, ∀ y ∈ dry, y ≤ x := by
  refine ⟨(descending values).drop k, ?_, ?_, ?_⟩
  · rw [List.take_append_drop]
    exact descending_perm values
  · rw [List.length_take, length_descending, Nat.min_eq_left enough]
  · refine (List.pairwise_append.mp ?_).2.2
    rw [List.take_append_drop]
    exact descending_pairwise values

/-- Candidate values have a wettest and a driest among them. -/
theorem exists_ends_descending {values : List Nat} (nonempty : values ≠ []) :
    ∃ hi lo, (descending values).head? = some hi ∧ (descending values).getLast? = some lo := by
  have sortedNonempty : descending values ≠ [] := mt (descending_eq_nil_iff values).mp nonempty
  exact ⟨_, _, List.head?_eq_some_head sortedNonempty, List.getLast?_eq_some_getLast sortedNonempty⟩

/-- R16: the spread is the wettest minus the driest, given from two values and the minimum number on. -/
theorem select_spread_of_ends {values : List Nat} {hi lo : Nat} (first : (descending values).head? = some hi)
    (last : (descending values).getLast? = some lo) (wetCount minimum : Nat) :
    (select values wetCount minimum).spread =
      if 2 ≤ values.length ∧ minimum ≤ values.length then some (hi - lo) else none := by
  simp only [select, first, last, length_descending]

theorem select_nil_spread (wetCount minimum : Nat) : (select [] wetCount minimum).spread = none := rfl

theorem select_spread_eq_none_iff (values : List Nat) (wetCount minimum : Nat) :
    (select values wetCount minimum).spread = none ↔ values.length < 2 ∨ values.length < minimum := by
  by_cases nonempty : values = []
  · simp [nonempty, select_nil_spread]
  · obtain ⟨hi, lo, first, last⟩ := exists_ends_descending nonempty
    rw [select_spread_of_ends first last, ite_eq_right_iff]
    simp only [reduceCtorEq, imp_false]
    omega

theorem spread_eq_wettest_sub_driest {values : List Nat} {wetCount minimum r : Nat}
    (given : (select values wetCount minimum).spread = some r) :
    ∃ hi ∈ values, ∃ lo ∈ values, r = hi - lo ∧ ∀ x ∈ values, lo ≤ x ∧ x ≤ hi := by
  have nonempty : values ≠ [] := by
    rintro rfl
    simp [select_nil_spread] at given
  obtain ⟨hi, lo, first, last⟩ := exists_ends_descending nonempty
  obtain ⟨hiMem, wettest⟩ := wettest_of_head_descending first
  obtain ⟨loMem, driest⟩ := driest_of_getLast_descending last
  rw [select_spread_of_ends first last] at given
  obtain ⟨-, difference⟩ := Option.ite_none_right_eq_some.mp given
  exact ⟨hi, hiMem, lo, loMem, (Option.some.inj difference).symm, fun x member => ⟨driest x member, wettest x member⟩⟩

end Sys2Proof.Machine
end

section
/-! PROOFS. The statement of the family of moisture arithmetic. -/
open Sys2Proof Sys2Proof.Machine

/-- Settles O55, from what a conversion, a smoothing step and a selection answer in each case: the conversion by its
checks and the curve's interval, the smoothing by distance and count, the selection by the sorted values. -/
theorem moistureIsConvertedSmoothedAndSelected : Obligations.MoistureIsConvertedSmoothedAndSelected := by
  unfold Obligations.MoistureIsConvertedSmoothedAndSelected
  refine ⟨fun l fault temperature species => ⟨?faulted, ?short, ?openLead, ?noCurve, ?usable⟩,
    fun value suspects mc shift limit => ⟨smooth_of_absent .., fun far few => smooth_of_suspect far few shift,
      fun far many => smooth_of_reseeding far many shift, ?accepted, ?unshifted⟩,
    fun values wetCount minimum _ _ => ⟨?invalid, ?mean, ?noDriest, ?driest,
      select_spread_eq_none_iff .., fun _ => spread_eq_wettest_sub_driest⟩⟩
  case faulted => rintro rfl; exact convert_of_fault ..
  case short => rintro rfl short; exact convert_of_short short ..
  case openLead => rintro rfl isOpen; exact convert_of_open isOpen ..
  case noCurve => rintro rfl low high rfl; exact convert_of_noCurve low high temperature
  case usable =>
    rintro e rfl rfl low high - j t n x point flags inRange
    obtain ⟨length, rising⟩ := length_and_rising_of_speciesInRange inRange
    refine ⟨fun wet => ?_, fun dry => ?_, fun pastHead above below => ?_⟩ <;>
      refine convert_of_usable low high temperature e ?_
    · exact curveReading_of_le_first length wet flags
    · exact curveReading_of_last_le length rising (by decide) dry flags
    · exact curveReading_of_between length rising j.isLt pastHead above below flags
  case accepted =>
    intro near positive _ step
    rw [smooth_of_accepted near, smoothingStep_eq_roundHalfUp positive]
    rfl
  case unshifted =>
    intro near
    rw [smooth_of_accepted near]
    exact congrArg (Smoothed.mk · 0 false false) (moveToward_distance value mc)
  case invalid => simp [select_controllingMc]
  case mean =>
    intro enough
    obtain ⟨dry, perm, length, order⟩ := exists_wettest_split values (Nat.min_le_right wetCount values.length)
    exact ⟨_, dry, perm, length, order, (select_controllingMc ..).trans (if_neg enough.not_gt)⟩
  case noDriest => simp [select_driest]
  case driest => exact fun d given => driest_of_getLast_descending given
end

section
/-!
PROOFS. The species table: the checks of WRITE-SPECIES in the terms of R22 to R25, and what each of the three requests
on species answers when it is taken.
-/
namespace Sys2Proof.Machine

/-! ### The checks -/

/-- R24, R26, R27: the first check fails outside 1..255. -/
theorem validCode_eq_false_iff {code : Nat} : validCode code = false ↔ code < 1 ∨ 255 < code := by
  simp only [validCode, inRange, Bool.and_eq_false_iff, decide_eq_false_iff_not]
  omega

/-- R22's order between neighbours along the curve is its order between any two breakpoints. -/
theorem curveOrdered_iff_pairwise (curve : List (Nat × Nat)) :
    curveOrdered curve = true ↔ curve.Pairwise fun p q => p.1 < q.1 ∧ q.2 < p.2 := by
  induction curve with
  | nil => simp [curveOrdered]
  | cons p rest ih =>
    cases rest with
    | nil => simp [curveOrdered]
    | cons q rest =>
      simp only [curveOrdered, Bool.and_eq_true, decide_eq_true_eq, ih, List.pairwise_cons]
      constructor
      · rintro ⟨next, beyond, ordered⟩
        refine ⟨fun r member => ?_, beyond, ordered⟩
        rcases List.mem_cons.mp member with rfl | later
        · exact next
        · exact ⟨next.1.trans (beyond r later).1, (beyond r later).2.trans next.2⟩
      · rintro ⟨before, rest⟩
        exact ⟨before q List.mem_cons_self, rest⟩

/-- The ends of a curve of eight breakpoints, between which R22 puts the pack limit. -/
theorem head_getLast_of_length_eight {curve : List (Nat × Nat)} (length : curve.length = 8) :
    curve.head? = some (curve.getD 0 (0, 0)) ∧ curve.getLast? = some (curve.getD 7 (0, 0)) := by
  simp [List.head?_eq_getElem?, List.getLast?_eq_getElem?, length]

/-- The store's test of the fields is R22. -/
theorem validSpecies_eq_speciesInRange (kT packLimit : Nat) (curve : List (Nat × Nat)) :
    validSpecies kT packLimit curve = speciesInRange kT packLimit curve := by
  by_cases length : curve.length = 8
  · obtain ⟨first, last⟩ := head_getLast_of_length_eight length
    rw [Bool.eq_iff_iff]
    simp only [validSpecies, speciesInRange, first, last, inRange, Bool.and_eq_true, decide_eq_true_eq, beq_iff_eq,
      List.all_eq_true, curveOrdered_iff_pairwise]
  · simp [validSpecies, speciesInRange, length]

/-- R23: the 19 field values summed, the L values and the M values apart. -/
theorem speciesCheck_eq (code kT packLimit : Nat) (curve : List (Nat × Nat)) :
    speciesCheck code kT packLimit curve =
      (code + kT + packLimit + (curve.map Prod.fst).sum + (curve.map Prod.snd).sum) % 65536 := by
  rw [speciesCheck, List.sum_map_add, Nat.add_assoc (code + kT + packLimit)]

/-- R25: an entry is referenced when some charge names its code. -/
theorem speciesReferences_pos_iff (s : State) (code : Nat) :
    0 < s.speciesReferences code ↔ (s.charges.any fun c => c.species == code) = true := by
  rw [State.speciesReferences, List.countP_pos_iff, List.any_eq_true]

/-! ### The requests -/

variable {s : State}

/-- WRITE-SPECIES by its four checks. -/
theorem exec_writeSpecies_of_takes {code kT packLimit : Nat} {curve : List (Nat × Nat)}
    (taken : s.takes (.writeSpecies code kT packLimit curve) = true) :
    exec (.writeSpecies code kT packLimit curve) s =
      .next (let i := Instr.writeSpecies code kT packLimit curve
        let check := speciesCheck code kT packLimit curve
        if code < 1 ∨ 255 < code then s.refusal i .outOfRange
        else if speciesInRange kT packLimit curve = false then s.refusal i .outOfRange
        else if (s.speciesEntry code).isSome ∧ (s.charges.any fun c => c.species == code) then s.refusal i .inUse
        else if (s.speciesEntry code).isNone ∧ Config.speciesCapacity ≤ s.species.length then s.refusal i .full
        else (s.putSpecies ⟨code, kT, packLimit, curve, check⟩).okReply i (u8 code ++ u16 check)) := by
  refine congrArg Host.Outcome.next ((hostRequest_answer s _ taken).trans ?_)
  simp only [writeSpeciesAnswer, Bool.not_eq_true', validCode_eq_false_iff, validSpecies_eq_speciesInRange,
    Bool.and_eq_true, decide_eq_true_eq, speciesReferences_pos_iff, State.holdRequest_speciesEntry,
    State.holdRequest_frame]
  split_ifs with badCode badFields inUse full
  · rfl
  · rfl
  · rfl
  · rfl
  · exact State.answerOk_eq _ _ _ rfl

/-- DELETE-SPECIES by its three checks. -/
theorem exec_deleteSpecies_of_takes {code : Nat} (taken : s.takes (.deleteSpecies code) = true) :
    exec (.deleteSpecies code) s =
      .next (let i := Instr.deleteSpecies code
        if code < 1 ∨ 255 < code then s.refusal i .outOfRange
        else if (s.speciesEntry code).isNone then s.refusal i .notFound
        else if (s.charges.any fun c => c.species == code) then s.refusal i .inUse
        else { s with species := eraseBy SpeciesEntry.code code s.species }.okReply i []) := by
  refine congrArg Host.Outcome.next ((hostRequest_answer s _ taken).trans ?_)
  simp only [deleteSpeciesAnswer, Bool.not_eq_true', validCode_eq_false_iff, speciesReferences_pos_iff,
    State.holdRequest_speciesEntry, State.holdRequest_frame]
  split_ifs with badCode absent inUse
  · rfl
  · rfl
  · rfl
  · exact State.answerOk_eq _ _ _ rfl

/-- READ-SPECIES of a code outside 1..255. -/
theorem exec_readSpecies_outOfRange {code : Nat} (taken : s.takes (.readSpecies code) = true)
    (badCode : code < 1 ∨ 255 < code) :
    exec (.readSpecies code) s = .next (s.refusal (.readSpecies code) .outOfRange) := by
  refine congrArg Host.Outcome.next ((hostRequest_answer s _ taken).trans ?_)
  simp only [readSpeciesAnswer, Bool.not_eq_true', validCode_eq_false_iff, if_pos badCode]

/-- READ-SPECIES of an absent entry. -/
theorem exec_readSpecies_notFound {code : Nat} (taken : s.takes (.readSpecies code) = true)
    (goodCode : ¬(code < 1 ∨ 255 < code)) (absent : s.speciesEntry code = none) :
    exec (.readSpecies code) s = .next (s.refusal (.readSpecies code) .notFound) := by
  refine congrArg Host.Outcome.next ((hostRequest_answer s _ taken).trans ?_)
  simp only [readSpeciesAnswer, Bool.not_eq_true', validCode_eq_false_iff, if_neg goodCode,
    State.holdRequest_speciesEntry, absent]

/-- READ-SPECIES of a present entry shows it and changes nothing. -/
theorem exec_readSpecies_found {code : Nat} {e : SpeciesEntry} (taken : s.takes (.readSpecies code) = true)
    (goodCode : ¬(code < 1 ∨ 255 < code)) (found : s.speciesEntry code = some e) :
    exec (.readSpecies code) s =
      .next (s.okReply (.readSpecies code) (e.fields ++ u16 e.checkValue ++ u8 (s.speciesReferences code))) := by
  refine congrArg Host.Outcome.next ((hostRequest_answer s _ taken).trans ?_)
  simp only [readSpeciesAnswer, Bool.not_eq_true', validCode_eq_false_iff, if_neg goodCode,
    State.holdRequest_speciesEntry, found, State.holdRequest_speciesReferences]
  exact State.answerOk_eq _ _ _ rfl

end Sys2Proof.Machine
end

section
/-! PROOFS. The statement of the family of species and schedules on species. -/
open Sys2Proof Sys2Proof.Machine

/-- Settles O18, from each request's checks in order and the answer that passing them gives; that a deleted code is
absent is the tables' `findBy_eraseBy`. -/
theorem speciesRequestsAnswer : Obligations.SpeciesRequestsAnswer := by
  unfold Obligations.SpeciesRequestsAnswer
  refine ⟨fun s code kT packLimit curve taken => ?write,
    fun s code taken => ⟨exec_deleteSpecies_of_takes taken, findBy_eraseBy SpeciesEntry.code code s.species⟩,
    fun s code taken => ?read⟩
  case write =>
    rw [← speciesCheck_eq]
    exact exec_writeSpecies_of_takes taken
  case read =>
    by_cases badCode : code < 1 ∨ 255 < code
    · rw [exec_readSpecies_outOfRange taken badCode, if_pos badCode]
    · rw [if_neg badCode]
      cases entry : s.speciesEntry code with
      | none => exact exec_readSpecies_notFound taken badCode entry
      | some e => exact exec_readSpecies_found taken badCode entry
end

section
/-!
PROOFS. The charge table's requests: what the table answers to each of them, case by case (R44, R50 to R52), and what
an answer makes of the state when the request is taken.
-/
namespace Sys2Proof.Machine

/-! ### An owner's answer to a request that is taken -/

section
variable {s : State} {i : Instr} {owner : State → Answer} (taken : s.takes i = true)
include taken

/-- A request that its owner refuses. -/
theorem hostRequest_eq_refusal {status : Status}
    (answer : owner (s.holdRequest (requestKind i) (some i) true) = .refuse status) :
    hostRequest i owner s = s.refusal i status :=
  (hostRequest_taken s i taken).trans (performRequest_refuse s i answer)

/-- A request that its owner performs: the owner works on the state with the request in the buffer, and `okReply`, which
sets the buffer itself, speaks of that work on the state as it came. -/
theorem hostRequest_eq_okReply {content : List Octet} {work : State}
    (answer : owner (s.holdRequest (requestKind i) (some i) true) =
      .ok content (work.holdRequest (requestKind i) (some i) true)) :
    hostRequest i owner s = work.okReply i content := by
  have replied := performRequest_ok s i answer rfl
  exact (hostRequest_taken s i taken).trans replied

end

/-! ### What the charge table answers -/

section
variable {s : State} {number : Nat} {c : Charge}

theorem setInfeedAnswer_zero (s : State) : setInfeedAnswer 0 s = .ok (u16 s.infeedNumber) s.clearInfeed := if_pos rfl

theorem setInfeedAnswer_notFound (nonzero : number ≠ 0) (absent : s.charge number = none) :
    setInfeedAnswer number s = .refuse .notFound := by
  simp only [setInfeedAnswer, if_neg nonzero, absent]

theorem setInfeedAnswer_wrongState (nonzero : number ≠ 0) (found : s.charge number = some c)
    (inKiln : c.state = .kiln) : setInfeedAnswer number s = .refuse .wrongState := by
  simp only [setInfeedAnswer, if_neg nonzero, found, inKiln]

theorem setInfeedAnswer_infeed (nonzero : number ≠ 0) (found : s.charge number = some c)
    (inInfeed : c.state = .infeed) : setInfeedAnswer number s = .ok (u16 0) s := by
  simp only [setInfeedAnswer, if_neg nonzero, found, inInfeed]

theorem setInfeedAnswer_staged (nonzero : number ≠ 0) (found : s.charge number = some c)
    (staged : c.state = .staged) :
    setInfeedAnswer number s =
      .ok (u16 s.infeedNumber) (s.clearInfeed.modifyCharge number fun c => { c with state := .infeed }) := by
  simp only [setInfeedAnswer, if_neg nonzero, found, staged]

theorem closeChargeAnswer_zero (s : State) : closeChargeAnswer 0 s = .refuse .outOfRange := if_pos rfl

theorem closeChargeAnswer_notFound (nonzero : number ≠ 0) (absent : s.charge number = none) :
    closeChargeAnswer number s = .refuse .notFound := by
  simp only [closeChargeAnswer, if_neg nonzero, absent]

theorem closeChargeAnswer_wrongState (nonzero : number ≠ 0) (found : s.charge number = some c)
    (notStaged : c.state ≠ .staged) : closeChargeAnswer number s = .refuse .wrongState := by
  simp only [closeChargeAnswer, if_neg nonzero, found, if_pos notStaged]

theorem closeChargeAnswer_inUse (nonzero : number ≠ 0) (found : s.charge number = some c) (staged : c.state = .staged)
    (used : c.queued ≠ 0 ∨ c.openPackRefs ≠ 0) : closeChargeAnswer number s = .refuse .inUse := by
  simp only [closeChargeAnswer, if_neg nonzero, found, if_neg (not_not_intro staged), Nat.pos_iff_ne_zero, if_pos used]

theorem closeChargeAnswer_closed (nonzero : number ≠ 0) (found : s.charge number = some c)
    (staged : c.state = .staged) (unused : ¬(c.queued ≠ 0 ∨ c.openPackRefs ≠ 0)) :
    closeChargeAnswer number s = .ok c.octets { s with charges := eraseBy Charge.number number s.charges } := by
  simp only [closeChargeAnswer, if_neg nonzero, found, if_neg (not_not_intro staged), Nat.pos_iff_ne_zero,
    if_neg unused]

theorem readChargeAnswer_zero (s : State) : readChargeAnswer 0 s = .refuse .outOfRange := if_pos rfl

theorem readChargeAnswer_notFound (nonzero : number ≠ 0) (absent : s.charge number = none) :
    readChargeAnswer number s = .refuse .notFound := by
  simp only [readChargeAnswer, if_neg nonzero, absent]

theorem readChargeAnswer_found (nonzero : number ≠ 0) (found : s.charge number = some c) :
    readChargeAnswer number s = .ok c.octets s := by
  simp only [readChargeAnswer, if_neg nonzero, found]

end

end Sys2Proof.Machine
end

section
/-! PROOFS. The statement of the family of charges on the requests of the charge table. -/
open Sys2Proof Sys2Proof.Machine

/-- Settles O20, from the charge table's answer in each case: number 0, a number of no charge, and the state of the
charge found. -/
theorem chargeTableRequestsAnswer : Obligations.ChargeTableRequestsAnswer := by
  unfold Obligations.ChargeTableRequestsAnswer
  refine ⟨fun s number taken => congrArg Host.Outcome.next ?setInfeed, fun s number =>
    ⟨fun taken => congrArg Host.Outcome.next ?close, fun taken => congrArg Host.Outcome.next ?read,
      fun taken => congrArg Host.Outcome.next ?list⟩⟩
  case setInfeed =>
    by_cases zero : number = 0
    · subst zero
      exact hostRequest_eq_okReply taken (setInfeedAnswer_zero _)
    rw [if_neg zero]
    cases entry : s.charge number with
    | none => exact hostRequest_eq_refusal taken (setInfeedAnswer_notFound zero entry)
    | some c =>
      dsimp only
      cases state : c.state with
      | kiln => exact hostRequest_eq_refusal taken (setInfeedAnswer_wrongState zero entry state)
      | infeed => exact hostRequest_eq_okReply taken (setInfeedAnswer_infeed zero entry state)
      | staged => exact hostRequest_eq_okReply taken (setInfeedAnswer_staged zero entry state)
  case close =>
    by_cases zero : number = 0
    · subst zero
      exact hostRequest_eq_refusal taken (closeChargeAnswer_zero _)
    rw [if_neg zero]
    cases entry : s.charge number with
    | none => exact hostRequest_eq_refusal taken (closeChargeAnswer_notFound zero entry)
    | some c =>
      dsimp only
      split_ifs with notStaged used
      · exact hostRequest_eq_refusal taken (closeChargeAnswer_wrongState zero entry notStaged)
      · exact hostRequest_eq_refusal taken (closeChargeAnswer_inUse zero entry (not_not.mp notStaged) used)
      · exact hostRequest_eq_okReply taken (closeChargeAnswer_closed zero entry (not_not.mp notStaged) used)
  case read =>
    by_cases zero : number = 0
    · subst zero
      exact hostRequest_eq_refusal taken (readChargeAnswer_zero _)
    rw [if_neg zero]
    cases entry : s.charge number with
    | none => exact hostRequest_eq_refusal taken (readChargeAnswer_notFound zero entry)
    | some c => exact hostRequest_eq_okReply taken (readChargeAnswer_found zero entry)
  case list => exact hostRequest_eq_okReply taken rfl
end

section
/-!
PROOFS. Rules that the kiln requests and events share: a numbered record set twice, what an owner's work does through the
held request, and the kiln numbers of the requests.
-/
namespace Sys2Proof.Machine

variable (s : State)

/-! ### A numbered record set twice -/

@[simp] theorem State.setKiln_setKiln (k : KilnNo) (r q : KilnRecord) :
    (s.setKiln k r).setKiln k q = s.setKiln k q := by
  simp only [State.setKiln, Vector.set_set]

@[simp] theorem State.setSweep_setSweep (k : KilnNo) (r q : SweepRecord) :
    (s.setSweep k r).setSweep k q = s.setSweep k q := by
  simp only [State.setSweep, Vector.set_set]

@[simp] theorem State.modifySweep_setSweep (k : KilnNo) (r : SweepRecord) (f : SweepRecord → SweepRecord) :
    (s.setSweep k r).modifySweep k f = s.setSweep k (f r) := by
  simp only [State.modifySweep, State.sweep_setSweep, if_true, State.setSweep_setSweep]

/-! ### Through the held request -/

/-- The link has no part in a snapshot. -/
theorem State.holdRequest_writeSnapshot (kind : Octet) (request : Option Instr) (answered : Bool) (k : KilnNo) :
    (s.holdRequest kind request answered).writeSnapshot k = (s.writeSnapshot k).holdRequest kind request answered := by
  cases writes : (s.kiln k).writesSnapshots with
  | false => simp only [State.writeSnapshot, State.holdRequest_kiln, writes, Bool.false_eq_true, if_false]
  | true =>
    simp only [State.writeSnapshot, State.holdRequest_kiln, writes, if_true]
    cases (s.kiln k).charge <;> rfl

/-! ### The operands -/

@[simp] theorem kilnOf_succ (k : KilnNo) : kilnOf (k.val + 1) = some k := dif_pos k.isLt

end Sys2Proof.Machine
end

section
/-!
PROOFS. The charge number that is issued next: the numbers after the counter in turn, of which 16 charges cannot take
seventeen (R39).
-/
namespace Sys2Proof.Machine

/-- The search ends at a number that is free, or at the last one tried; it passed over taken numbers only. -/
theorem freeNumber_eq_iterate (next : Nat → Nat) (taken : Nat → Bool) (tries n : Nat) :
    ∃ t ≤ tries, freeNumber next taken tries n = next^[t + 1] n ∧ (∀ m < t, taken (next^[m + 1] n) = true) ∧
      (taken (next^[t + 1] n) = true → t = tries) := by
  induction tries generalizing n with
  | zero => exact ⟨0, le_rfl, rfl, by simp, fun _ => rfl⟩
  | succ tries ih =>
    by_cases first : taken (next n) = true
    · obtain ⟨t, bound, found, passed, last⟩ := ih (next n)
      refine ⟨t + 1, by omega, ?_, fun m before => ?_, fun isTaken => congrArg (· + 1) (last isTaken)⟩
      · rw [freeNumber, if_pos first, found, ← Function.iterate_succ_apply]
      · cases m with
        | zero => exact first
        | succ m => exact passed m (by omega)
    · exact ⟨0, by omega, if_neg first, by simp, fun isTaken => absurd isTaken first⟩

/-- R39: 65535 is followed by 1. -/
theorem nextChargeNumber_eq {n : Nat} (bound : n ≤ 65535) : nextChargeNumber n = n % 65535 + 1 := by
  unfold nextChargeNumber
  split <;> omega

theorem iterate_nextChargeNumber {counter : Nat} (bound : counter ≤ 65535) (m : Nat) :
    nextChargeNumber^[m + 1] counter = (counter + m) % 65535 + 1 := by
  induction m with
  | zero => exact nextChargeNumber_eq bound
  | succ m ih =>
    rw [Function.iterate_succ_apply', ih, nextChargeNumber_eq (by omega)]
    omega

/-- Different numbers that are all taken are no more than the charges. -/
theorem State.le_charges_length_of_taken (s : State) {n : Nat} {f : Nat → Nat}
    (different : ∀ i < n, ∀ j < n, f i = f j → i = j) (taken : ∀ m < n, (s.charge (f m)).isSome = true) :
    n ≤ s.charges.length := by
  have nodup : ((List.range n).map f).Nodup :=
    List.Nodup.map_on (fun i hi j hj => different i (List.mem_range.mp hi) j (List.mem_range.mp hj)) List.nodup_range
  have subset : (List.range n).map f ⊆ s.charges.map Charge.number := fun number member => by
    obtain ⟨m, inRange, rfl⟩ := List.mem_map.mp member
    obtain ⟨c, found⟩ := Option.isSome_iff_exists.mp (taken m (List.mem_range.mp inRange))
    obtain ⟨hasNumber, inTable⟩ := findBy_some Charge.number found
    exact List.mem_map.mpr ⟨c, inTable, hasNumber⟩
  simpa using (nodup.subperm subset).length_le

/-- R39: the number issued is the first free one after the counter. -/
theorem State.issuedChargeNumber_first_free {s : State} (room : s.charges.length ≤ 16)
    (bound : s.backup.chargeCounter ≤ 65535) :
    s.charge s.issuedChargeNumber = none ∧
    ∃ tries < 17, s.issuedChargeNumber = (s.backup.chargeCounter + tries) % 65535 + 1 ∧
      ∀ m < tries, (s.charge ((s.backup.chargeCounter + m) % 65535 + 1)).isSome = true := by
  obtain ⟨tries, few, issued, passed, last⟩ :=
    freeNumber_eq_iterate nextChargeNumber (fun n => (s.charge n).isSome) 16 s.backup.chargeCounter
  simp only [iterate_nextChargeNumber bound] at issued passed last
  refine ⟨?free, tries, by omega, issued, passed⟩
  by_contra used
  rw [State.issuedChargeNumber, issued, ← ne_eq, Option.ne_none_iff_isSome] at used
  have allTaken : ∀ m < 17, (s.charge ((s.backup.chargeCounter + m) % 65535 + 1)).isSome = true := fun m hm => by
    have tried := last used
    rcases Nat.lt_or_ge m tries with before | after
    · exact passed m before
    · rwa [show m = tries by omega]
  have tooMany := s.le_charges_length_of_taken (fun i hi j hj same => by omega) allTaken
  omega

end Sys2Proof.Machine
end

section
/-! PROOFS. LOAD: what the kiln supervisor answers in each case (R62). -/
namespace Sys2Proof.Machine

/-- R62: the first check fails with a code outside 1..255 or an id outside 1..8. -/
theorem loadOperands_eq_false_iff {species id : Nat} :
    (inRange 1 255 species && inRange 1 8 id) = false ↔ species < 1 ∨ 255 < species ∨ id < 1 ∨ 8 < id := by
  simp only [inRange, Bool.and_eq_false_iff, decide_eq_false_iff_not]
  omega

section
variable {s : State} {k : KilnNo} {species id : Nat}

theorem loadAnswer_outOfRange (bad : species < 1 ∨ 255 < species ∨ id < 1 ∨ 8 < id) :
    loadAnswer (k.val + 1) species id s = .refuse .outOfRange := by
  simp only [loadAnswer, kilnOf_succ, loadOperands_eq_false_iff.mpr bad, Bool.not_false, if_true]

variable (good : ¬(species < 1 ∨ 255 < species ∨ id < 1 ∨ 8 < id))
include good

theorem loadAnswer_wrongState (occupied : (s.kiln k).state ≠ .empty) :
    loadAnswer (k.val + 1) species id s = .refuse .wrongState := by
  simp only [loadAnswer, kilnOf_succ, Bool.not_eq_true', loadOperands_eq_false_iff, if_neg good, if_pos occupied]

variable (empty : ¬(s.kiln k).state ≠ .empty)
include empty

theorem loadAnswer_notFound (absent : s.speciesEntry species = none ∨ s.schedule id = none) :
    loadAnswer (k.val + 1) species id s = .refuse .notFound := by
  simp only [loadAnswer, kilnOf_succ, Bool.not_eq_true', loadOperands_eq_false_iff, if_neg good, if_neg empty]
  rcases absent with noSpecies | noSchedule
  · simp only [noSpecies]
  · simp only [noSchedule]
    cases s.speciesEntry species <;> rfl

variable {e : SpeciesEntry} {x : Schedule} (entry : s.speciesEntry species = some e) (schedule : s.schedule id = some x)
include entry schedule

theorem loadAnswer_full (full : Config.chargeCapacity ≤ s.charges.length) :
    loadAnswer (k.val + 1) species id s = .refuse .full := by
  simp only [loadAnswer, kilnOf_succ, Bool.not_eq_true', loadOperands_eq_false_iff, if_neg good, if_neg empty, entry,
    schedule, if_pos full]

theorem loadAnswer_loaded (room : ¬Config.chargeCapacity ≤ s.charges.length) :
    loadAnswer (k.val + 1) species id s = .ok (u16 s.issuedChargeNumber) (s.loadKiln k e id x) := by
  simp only [loadAnswer, kilnOf_succ, Bool.not_eq_true', loadOperands_eq_false_iff, if_neg good, if_neg empty, entry,
    schedule, if_neg room]

end

/-- What LOAD leaves, its snapshot aside: the charge created under the number issued, the record filled, the presence
entries cleared and the kiln due for a full scan (R40, R62, R122). -/
def State.filled (s : State) (k : KilnNo) (e : SpeciesEntry) (id : Nat) (x : Schedule) : State :=
  (({ s with
      backup := { s.backup with chargeCounter := s.issuedChargeNumber },
      charges := insertBy Charge.number (.created s.issuedChargeNumber k e.code id s.stamp) s.charges,
      presence := s.presence.filter fun e => e.port != k }.setKiln k
    ((s.kiln k).loaded ⟨s.issuedChargeNumber, e.code, e.checkValue, id, x.checkValue⟩ x.steps.head?)).setSweep k
    { s.sweep k with events := .empty, fullScan := true, cursor := 1 })

theorem State.loadKiln_eq (s : State) (k : KilnNo) (e : SpeciesEntry) (id : Nat) (x : Schedule) :
    s.loadKiln k e id x = (s.filled k e id x).writeSnapshot k := rfl

/-- A LOAD that passes its checks works on nothing of the link. -/
theorem loadAnswer_holdRequest {s : State} {k : KilnNo} {species id : Nat} {e : SpeciesEntry} {x : Schedule}
    (kind : Octet) (request : Option Instr) (answered : Bool)
    (good : ¬(species < 1 ∨ 255 < species ∨ id < 1 ∨ 8 < id)) (empty : ¬(s.kiln k).state ≠ .empty)
    (entry : s.speciesEntry species = some e) (schedule : s.schedule id = some x)
    (room : ¬Config.chargeCapacity ≤ s.charges.length) :
    loadAnswer (k.val + 1) species id (s.holdRequest kind request answered) =
      .ok (u16 s.issuedChargeNumber)
        (((s.filled k e id x).writeSnapshot k).holdRequest kind request answered) := by
  have answer := loadAnswer_loaded (s := s.holdRequest kind request answered) good empty entry schedule room
  rw [State.holdRequest_issuedChargeNumber, State.loadKiln_eq] at answer
  exact answer.trans
    (congrArg (Answer.ok _) (State.holdRequest_writeSnapshot (s.filled k e id x) kind request answered k))

end Sys2Proof.Machine
end

section
/-! PROOFS. UNLOAD and ABANDON: what the kiln supervisor answers, and what the kiln and its sweep become (R73, R79, R118). -/
namespace Sys2Proof.Machine

/-! ### The answers -/

section
variable {s : State} {k : KilnNo}

theorem unloadAnswer_wrongState (empty : (s.kiln k).state = .empty) :
    unloadAnswer (k.val + 1) s = .refuse .wrongState := by
  simp only [unloadAnswer, kilnOf_succ, if_pos empty]

theorem unloadAnswer_unloaded (occupied : (s.kiln k).state ≠ .empty) :
    unloadAnswer (k.val + 1) s = .ok (u16 (s.kiln k).chargeNumber) (s.unloadKiln k) := by
  simp only [unloadAnswer, kilnOf_succ, if_neg occupied]

theorem abandonAnswer_wrongState (elsewhere : (s.kiln k).state ≠ .recovery) :
    abandonAnswer (k.val + 1) s = .refuse .wrongState := by
  simp only [abandonAnswer, kilnOf_succ, if_pos elsewhere]

theorem abandonAnswer_unloaded (inRecovery : (s.kiln k).state = .recovery) :
    abandonAnswer (k.val + 1) s = .ok (u16 (s.kiln k).chargeNumber) (s.unloadKiln k) := by
  simp only [abandonAnswer, kilnOf_succ, if_neg (not_not_intro inRecovery)]

end

/-! ### The work -/

variable (s : State) (k : KilnNo)

/-- What unloading leaves, the sweep and its port aside: the charge staged, the snapshot invalid, the presence entries
cleared, the record EMPTY (R42, R73, R122). -/
def State.leftEmpty : State :=
  ({ s with
      charges := updateBy Charge.number (s.kiln k).chargeNumber
        (fun c : Charge =>
          { c with
            state := .staged, kiln := none, unloadStamp := some s.stamp,
            complete := decide (c.finalMc ≠ ControllingMc.absent),
            abandoned := decide (c.finalMc = ControllingMc.absent) })
        s.charges,
      presence := s.presence.filter fun e => e.port != k }.setSnapshot k none).setKiln k (s.kiln k).emptied

/-- R42: a charge that was dried is COMPLETE, any other ABANDONED. -/
theorem Charge.stagedAt_eq (c : Charge) (stamp : Stamp) :
    c.stagedAt stamp =
      { c with
        state := .staged, kiln := none, unloadStamp := some stamp, complete := decide (c.finalMc ≠ .absent),
        abandoned := decide (c.finalMc = .absent) } := by
  simp only [Charge.stagedAt, bne, decide_not]
  rfl

/-- R118: a sweep under way ends with its exchange in flight marked, a FULL one due again. -/
def SweepRecord.ended (w : SweepRecord) (p : PortRecord) : SweepRecord :=
  { w with
    kind := none, outstanding := [], events := .empty, fullScan := w.fullScan || w.kind == some SweepKind.full,
    discard := if p.sweepInFlight.isSome then p.sweepInFlight else w.discard }

/-- R118: the queue of a sweep under way is discarded. -/
theorem State.probesUnloaded_of_sweeping (sweeping : (s.sweep k).kind.isSome = true) :
    s.probesUnloaded k =
      ((s.clearPresence k).setPort (kilnPort k) { s.port (kilnPort k) with sweepQueue := [] }).setSweep k
        ((s.sweep k).ended (s.port (kilnPort k))) := by
  simp only [State.probesUnloaded, State.abortForUnload, if_pos sweeping]
  exact State.modifySweep_setSweep ((s.clearPresence k).discardSweep (kilnPort k)) k _ _

theorem State.probesUnloaded_of_idle (idle : ¬(s.sweep k).kind.isSome = true) :
    s.probesUnloaded k = (s.clearPresence k).setSweep k { s.sweep k with events := .empty } := by
  simp only [State.probesUnloaded, State.abortForUnload, if_neg idle]
  rfl

/-- What UNLOAD and ABANDON leave, with a sweep of the kiln under way and without (R73, R79, R118). -/
def State.unloaded : State :=
  if (s.sweep k).kind.isSome then
    ((s.leftEmpty k).setPort (kilnPort k) { s.port (kilnPort k) with sweepQueue := [] }).setSweep k
      ((s.sweep k).ended (s.port (kilnPort k)))
  else (s.leftEmpty k).setSweep k { s.sweep k with events := .empty }

theorem State.unloadKiln_eq_unloaded : s.unloadKiln k = s.unloaded k := by
  simp only [State.unloaded, State.leftEmpty, ← Charge.stagedAt_eq]
  split_ifs with sweeping
  · exact congrArg (State.modifyKiln · k KilnRecord.emptied)
      (State.probesUnloaded_of_sweeping ((s.stageCharge (s.kiln k).chargeNumber).setSnapshot k none) k sweeping)
  · exact congrArg (State.modifyKiln · k KilnRecord.emptied)
      (State.probesUnloaded_of_idle ((s.stageCharge (s.kiln k).chargeNumber).setSnapshot k none) k sweeping)

/-- Unloading works on nothing of the link. -/
theorem State.holdRequest_unloaded (kind : Octet) (request : Option Instr) (answered : Bool) :
    (s.holdRequest kind request answered).unloaded k = (s.unloaded k).holdRequest kind request answered := by
  rw [State.unloaded, State.unloaded, apply_ite (State.holdRequest · kind request answered)]
  rfl

variable {s k}

/-- UNLOAD and ABANDON, where they are not refused, do the same work and answer the charge number. -/
theorem hostRequest_unloaded {i : Instr} {owner : State → Answer} (taken : s.takes i = true)
    (answer : owner (s.holdRequest (requestKind i) (some i) true) =
      .ok (u16 (s.kiln k).chargeNumber) ((s.holdRequest (requestKind i) (some i) true).unloadKiln k)) :
    hostRequest i owner s = (s.unloaded k).okReply i (u16 (s.kiln k).chargeNumber) := by
  rw [State.unloadKiln_eq_unloaded, State.holdRequest_unloaded] at answer
  exact hostRequest_eq_okReply taken answer

end Sys2Proof.Machine
end

section
/-! PROOFS. The minute event: the count, the ramp and the tests of a step's end, by the kiln's state (R64 to R66). -/
namespace Sys2Proof.Machine

variable (s : State) (k : KilnNo)

/-- The delivery reaches the minute count and the kiln's own count of events, and nothing else (log entry 7). -/
theorem State.deliverMinute_eq :
    s.deliverMinute k =
      { s with minuteCount := max s.minuteCount (bump (s.kiln k).minuteEvents) }.setKiln k
        { s.kiln k with minuteEvents := bump (s.kiln k).minuteEvents } := by
  simp only [State.deliverMinute, State.modifyKiln, State.kiln_setKiln, if_true]
  rfl

/-- The total that counts in every state but EMPTY (R64). -/
def KilnRecord.countMinute (r : KilnRecord) : KilnRecord := { r with totalMinutes := bump r.totalMinutes }

/-- Each tenth minute's snapshot (R64). -/
def State.tenthMinute : State := if (s.kiln k).totalMinutes % 10 = 0 then s.writeSnapshot k else s

/-- The current step depends on the record's charge and step index only. -/
theorem State.currentStep_setKiln {r : KilnRecord} (charge : r.charge = (s.kiln k).charge)
    (index : r.stepIndex = (s.kiln k).stepIndex) : (s.setKiln k r).currentStep k = s.currentStep k := by
  simp only [State.currentStep, State.kilnSchedule, State.kiln_setKiln, if_true, charge, index]
  rfl

/-- R66: neither by time nor by overtime does the step end. -/
theorem State.testStepTime_of_going {x : Step} (inTime : ¬(x.rule = .time ∧ x.threshold ≤ (s.kiln k).stepElapsed))
    (noOvertime : ¬((s.kiln k).overtimeDisarmed = false ∧ x.maximum ≤ (s.kiln k).stepElapsed)) :
    s.testStepTime k x = s := by
  simp only [State.testStepTime, if_neg inTime, if_neg noOvertime]

/-- The delivery reaches no other field of the kiln's record. -/
theorem State.deliverMinute_kiln :
    (s.deliverMinute k).kiln k = { s.kiln k with minuteEvents := bump (s.kiln k).minuteEvents } := by
  rw [State.deliverMinute_eq, State.kiln_setKiln, if_pos rfl]

theorem State.deliverMinute_setKiln (r : KilnRecord) :
    (s.deliverMinute k).setKiln k r =
      { s with minuteCount := max s.minuteCount (bump (s.kiln k).minuteEvents) }.setKiln k r := by
  rw [State.deliverMinute_eq, State.setKiln_setKiln]

theorem State.deliverMinute_currentStep : (s.deliverMinute k).currentStep k = s.currentStep k := by
  rw [State.deliverMinute_eq]
  exact State.currentStep_setKiln { s with minuteCount := _ } k
    (r := { s.kiln k with minuteEvents := bump (s.kiln k).minuteEvents }) rfl rfl

theorem State.tenthMinute_setKiln {r : KilnRecord} (occupied : r.state ≠ .empty) :
    (s.setKiln k r).tenthMinute k =
      if r.state ≠ .empty ∧ r.totalMinutes % 10 = 0 then (s.setKiln k r).writeSnapshot k else s.setKiln k r := by
  simp only [State.tenthMinute, State.kiln_setKiln, if_true, ne_eq, occupied, not_false_eq_true, true_and]

variable {s k}

/-- A running part takes a minute event by delivering it, then doing the kiln's minute. -/
theorem exec_minuteEvent_of_isOn (on : s.isOn = true) :
    exec (.minuteEvent k) s = .next ((s.deliverMinute k).kilnMinute k) :=
  congrArg Host.Outcome.next (State.whenOn_on s (beq_iff_eq.mp on))

/-- R65: the step's minutes count and the ramp moves; here the step does not end. -/
theorem State.runMinute_of_going {x : Step} (step : s.currentStep k = some x)
    (inTime : ¬(x.rule = .time ∧ x.threshold ≤ bump (s.kiln k).stepElapsed))
    (noOvertime : ¬((s.kiln k).overtimeDisarmed = false ∧ x.maximum ≤ bump (s.kiln k).stepElapsed)) :
    s.runMinute k = s.setKiln k ((s.kiln k).rampMinute x) := by
  simp only [State.runMinute, step, State.modifyKiln]
  apply State.testStepTime_of_going
  · simpa only [State.kiln_setKiln, if_true, KilnRecord.rampMinute] using inTime
  · simpa only [State.kiln_setKiln, if_true, KilnRecord.rampMinute] using noOvertime

theorem State.kilnMinute_of_empty (empty : (s.kiln k).state = .empty) : s.kilnMinute k = s := if_pos empty

/-- The total counts, the minute's work of a RUNNING kiln follows, then the tenth minute's snapshot. -/
theorem State.kilnMinute_of_occupied (occupied : (s.kiln k).state ≠ .empty) :
    s.kilnMinute k =
      State.tenthMinute
        (if (s.kiln k).state = .running then (s.setKiln k (s.kiln k).countMinute).runMinute k
          else s.setKiln k (s.kiln k).countMinute) k := by
  simp only [State.kilnMinute, if_neg occupied, State.modifyKiln, State.kiln_setKiln, if_true]
  rfl

/-- Outside RUNNING only the total counts. -/
theorem State.kilnMinute_of_not_running (occupied : (s.kiln k).state ≠ .empty) (still : (s.kiln k).state ≠ .running) :
    s.kilnMinute k = (s.setKiln k (s.kiln k).countMinute).tenthMinute k := by
  rw [State.kilnMinute_of_occupied occupied, if_neg still]

/-- In RUNNING the step's minutes count and the ramp moves too; here the step does not end. -/
theorem State.kilnMinute_of_running {x : Step} (running : (s.kiln k).state = .running) (step : s.currentStep k = some x)
    (inTime : ¬(x.rule = .time ∧ x.threshold ≤ bump (s.kiln k).stepElapsed))
    (noOvertime : ¬((s.kiln k).overtimeDisarmed = false ∧ x.maximum ≤ bump (s.kiln k).stepElapsed)) :
    s.kilnMinute k = (s.setKiln k ((s.kiln k).countMinute.rampMinute x)).tenthMinute k := by
  have occupied : (s.kiln k).state ≠ .empty := by simp [running]
  have counted : (s.setKiln k (s.kiln k).countMinute).kiln k = (s.kiln k).countMinute := by
    simp only [State.kiln_setKiln, if_true]
  have step' : (s.setKiln k (s.kiln k).countMinute).currentStep k = some x :=
    (s.currentStep_setKiln k (r := (s.kiln k).countMinute) rfl rfl).trans step
  rw [State.kilnMinute_of_occupied occupied, if_pos running, State.runMinute_of_going step', counted,
    State.setKiln_setKiln]
  · rwa [counted]
  · rwa [counted]

end Sys2Proof.Machine
end

section
/-! PROOFS. The statements of the family of kiln supervision on loading, unloading and the minute event. -/
open Sys2Proof Sys2Proof.Machine

/-- Settles O21, from the search that issues a number, which 16 charges cannot exhaust, and the answer of the kiln
supervisor in each case of LOAD's checks. -/
theorem loadBindsANewCharge : Obligations.LoadBindsANewCharge := by
  unfold Obligations.LoadBindsANewCharge
  refine ⟨fun s room bound => ?number, fun s k species id taken => congrArg Host.Outcome.next ?load⟩
  case number =>
    obtain ⟨free, tries, few, issued, passed⟩ := State.issuedChargeNumber_first_free room bound
    exact ⟨by omega, by omega, free, tries, few, issued, passed⟩
  case load =>
    by_cases bad : species < 1 ∨ 255 < species ∨ id < 1 ∨ 8 < id
    · rw [if_pos bad]
      exact hostRequest_eq_refusal taken (loadAnswer_outOfRange bad)
    rw [if_neg bad]
    by_cases occupied : (s.kiln k).state ≠ .empty
    · rw [if_pos occupied]
      exact hostRequest_eq_refusal taken (loadAnswer_wrongState bad occupied)
    rw [if_neg occupied]
    cases entry : s.speciesEntry species with
    | none => exact hostRequest_eq_refusal taken (loadAnswer_notFound bad occupied (.inl entry))
    | some e =>
      cases schedule : s.schedule id with
      | none => exact hostRequest_eq_refusal taken (loadAnswer_notFound bad occupied (.inr schedule))
      | some x =>
        dsimp only
        split_ifs with full
        · exact hostRequest_eq_refusal taken (loadAnswer_full bad occupied entry schedule full)
        · exact hostRequest_eq_okReply (work := (s.filled k e id x).writeSnapshot k) taken
            (loadAnswer_holdRequest _ _ _ bad occupied entry schedule full)

/-- Settles O25, from the answers of UNLOAD and ABANDON and the work they share, with a sweep under way and without. -/
theorem unloadStagesTheCharge : Obligations.UnloadStagesTheCharge := by
  unfold Obligations.UnloadStagesTheCharge
  intro s k abandon taken
  cases abandon with
  | false =>
    refine congrArg Host.Outcome.next ?_
    by_cases empty : (s.kiln k).state = .empty
    · exact (hostRequest_eq_refusal taken (unloadAnswer_wrongState empty)).trans (if_pos (.inr empty)).symm
    · exact (hostRequest_unloaded taken (unloadAnswer_unloaded empty)).trans
        (if_neg fun refused => refused.elim (fun ⟨isAbandon, _⟩ => Bool.false_ne_true isAbandon) empty).symm
  | true =>
    refine congrArg Host.Outcome.next ?_
    by_cases inRecovery : (s.kiln k).state = .recovery
    · have occupied : (s.kiln k).state ≠ .empty := by simp [inRecovery]
      exact (hostRequest_unloaded taken (abandonAnswer_unloaded inRecovery)).trans
        (if_neg fun refused => refused.elim (fun ⟨_, elsewhere⟩ => elsewhere inRecovery) occupied).symm
    · exact (hostRequest_eq_refusal taken (abandonAnswer_wrongState inRecovery)).trans
        (if_pos (.inl ⟨rfl, inRecovery⟩)).symm

/-- Settles O29, from the delivery and the minute's work in each state of the kiln. -/
theorem minuteEventCountsAndRamps : Obligations.MinuteEventCountsAndRamps := by
  unfold Obligations.MinuteEventCountsAndRamps
  intro s k on
  dsimp only
  rw [exec_minuteEvent_of_isOn on]
  have record := s.deliverMinute_kiln k
  refine ⟨fun empty => congrArg Host.Outcome.next ?empty, fun occupied still => congrArg Host.Outcome.next ?still,
    fun x step running inTime noOvertime => congrArg Host.Outcome.next ?running⟩
  case empty =>
    rw [State.kilnMinute_of_empty (by rwa [record]), State.deliverMinute_eq]
    exact (if_neg fun written => written.1 empty).symm
  case still =>
    rw [State.kilnMinute_of_not_running (by rwa [record]) (by rwa [record]), record, State.deliverMinute_setKiln]
    exact State.tenthMinute_setKiln _ k occupied
  case running =>
    have occupied : (s.kiln k).state ≠ .empty := by simp [running]
    rw [State.kilnMinute_of_running (by rwa [record]) ((s.deliverMinute_currentStep k).trans step) (by rwa [record])
      (by rwa [record]), record, State.deliverMinute_setKiln]
    exact State.tenthMinute_setKiln _ k occupied
end

section
/-!
PROOFS. The field ports' exchanges: the octets and silences of a reply, what handing an outcome on leaves of a port, and
the end of an exchange of a port in UP.
-/
namespace Sys2Proof.Machine

/-! ### A port's record set and changed -/

section
variable (s : State) (p : PortNo)

@[simp] theorem State.setPort_setPort (r q : PortRecord) : (s.setPort p r).setPort p q = s.setPort p q := by
  simp only [State.setPort, Vector.set_set]

theorem State.port_setPort_same (r : PortRecord) : (s.setPort p r).port p = r :=
  (s.port_setPort p p r).trans (if_pos rfl)

/-- The phase changed in the record of a port with an exchange in flight. -/
theorem State.modifyPort_setPhase {e : Exchange} (flying : (s.port p).exchange = some e) (phase : ExchangePhase) :
    (s.modifyPort p fun r => r.setPhase phase) =
      s.setPort p { s.port p with exchange := some { e with phase := phase } } := by
  simp only [State.modifyPort, PortRecord.setPhase, flying, Option.map_some]

end

/-! ### Receiving a reply (R84, R85) -/

section
variable {s : State} {p : PortNo}

theorem exec_fieldRequestSent_of_isOn (on : s.isOn = true) : exec (.fieldRequestSent p) s = .next (s.requestSent p) :=
  congrArg Host.Outcome.next (State.whenOn_on s (beq_iff_eq.mp on))

theorem exec_replyWindowExpiry_of_isOn (on : s.isOn = true) : exec (.replyWindowExpiry p) s = .next (s.windowOver p) :=
  congrArg Host.Outcome.next (State.whenOn_on s (beq_iff_eq.mp on))

theorem exec_fieldOctetSilence_of_isOn (on : s.isOn = true) : exec (.fieldOctetSilence p) s = .next (s.octetSilence p) :=
  congrArg Host.Outcome.next (State.whenOn_on s (beq_iff_eq.mp on))

theorem exec_fieldOctetReceived_of_isOn (on : s.isOn = true) (octet : Octet) (error : Bool) :
    exec (.fieldOctetReceived p octet error) s = .next (s.receiveFieldOctet p octet error) :=
  congrArg Host.Outcome.next (State.whenOn_on s (beq_iff_eq.mp on))

/-- Log entry 16: without an exchange in flight there is nothing to send, to wait for or to receive. -/
theorem State.reception_of_no_exchange (idle : (s.port p).exchange = none) (octet : Octet) (error : Bool) :
    s.requestSent p = s ∧ s.windowOver p = s ∧ s.octetSilence p = s ∧ s.receiveFieldOctet p octet error = s := by
  simp only [State.requestSent, State.windowOver, State.octetSilence, State.receiveFieldOctet, idle, and_self]

variable {e : Exchange} (flying : (s.port p).exchange = some e)
include flying

theorem State.requestSent_of_exchange :
    s.requestSent p =
      if e.phase = .sending then s.setPort p { s.port p with exchange := some { e with phase := .window } } else s := by
  simp only [State.requestSent, flying, State.modifyPort_setPhase s p flying]

theorem State.windowOver_of_exchange :
    s.windowOver p = if e.phase = .window then s.endExchange p .timeout noReplyData else s := by
  simp only [State.windowOver, flying]

/-- While the port drives the line it neither receives octets nor times their silences. -/
theorem State.reception_of_sending (sending : e.phase = .sending) (octet : Octet) (error : Bool) :
    s.octetSilence p = s ∧ s.receiveFieldOctet p octet error = s := by
  simp only [State.octetSilence, State.receiveFieldOctet, flying, sending, and_self]

/-- In the reply window a silence says nothing, and only a lead octet is stored. -/
theorem State.reception_of_window (window : e.phase = .window) (octet : Octet) (error : Bool) :
    s.octetSilence p = s ∧
    s.receiveFieldOctet p octet error =
      if octet = 0x69 ∧ error = false then
        s.setPort p { s.port p with exchange := some { e with phase := .receiving [octet] } }
      else s := by
  simp only [State.octetSilence, State.receiveFieldOctet, flying, window, State.modifyPort_setPhase s p flying, and_self]

theorem State.reception_of_receiving {octets : List Octet} (receiving : e.phase = .receiving octets) (octet : Octet)
    (error : Bool) :
    s.octetSilence p = s.endExchange p .truncated noReplyData ∧
    s.receiveFieldOctet p octet error = s.receiveReplyOctet p e octets octet error := by
  simp only [State.octetSilence, State.receiveFieldOctet, flying, receiving, and_self]

end

/-- R199: the identity is read back from the data of an IDENTIFY reply that spells it. -/
theorem identityOf_octets {kind serial version : Nat} (kindBound : kind < 256) (serialBound : serial < 4294967296)
    (versionBound : version < 65536) :
    identityOf (u8 kind ++ u32 serial ++ u16 version) = some ⟨kind, serial, version⟩ := by
  simp only [u8, u16, u32, List.cons_append, List.nil_append, identityOf, num32, num16, BitVec.toNat_ofNat,
    Option.some.injEq, Identity.mk.injEq]
  omega

/-! ### Every port's state stays -/

section
variable (s : State)

/-- One port's state, read from the states of all. -/
theorem State.port_state_eq_getElem (p : PortNo) : (s.port p).state = (s.ports.map PortRecord.state)[p.val] := by
  rw [Vector.getElem_map, State.port, Vector.get_eq_getElem]

theorem State.port_state_of_portStates {t : State} (same : t.ports.map PortRecord.state = s.ports.map PortRecord.state)
    (p : PortNo) : (t.port p).state = (s.port p).state := by
  simp only [State.port_state_eq_getElem, same]

theorem State.modifyPort_portStates (p : PortNo) {f : PortRecord → PortRecord}
    (keeps : (f (s.port p)).state = (s.port p).state) :
    (s.modifyPort p f).ports.map PortRecord.state = s.ports.map PortRecord.state := by
  rw [State.modifyPort, State.setPort, Vector.map_set, keeps, State.port_state_eq_getElem, Vector.set_getElem_self]

@[simp] theorem State.withdraw_portStates (p : PortNo) (address : Nat) :
    (s.withdraw p address).ports.map PortRecord.state = s.ports.map PortRecord.state :=
  s.modifyPort_portStates p rfl

/-! Sending begins an exchange and leaves the port's state. -/

theorem PortRecord.sendOnKilnPort_state (r : PortRecord) (x : Setpoint) : (r.sendOnKilnPort x).state = r.state := by
  unfold PortRecord.sendOnKilnPort
  (repeat' split) <;> rfl

theorem PortRecord.sendOnDevicePort_state (r : PortRecord) : r.sendOnDevicePort.state = r.state := by
  unfold PortRecord.sendOnDevicePort
  (repeat' split) <;> rfl

@[simp] theorem State.sendNext_portStates (p : PortNo) :
    (s.sendNext p).ports.map PortRecord.state = s.ports.map PortRecord.state := by
  unfold State.sendNext
  split
  · split
    · exact s.modifyPort_portStates p (PortRecord.sendOnKilnPort_state _ _)
    · exact s.modifyPort_portStates p (PortRecord.sendOnDevicePort_state _)
  · rfl

@[simp] theorem State.askPort_portStates (p : PortNo) (w : WaitingExchange) :
    (s.askPort p w).ports.map PortRecord.state = s.ports.map PortRecord.state := by
  unfold State.askPort
  split
  · rw [State.sendNext_portStates]
    exact s.modifyPort_portStates p rfl
  · rfl
  · rfl

/-! The probe unit's work on an outcome withdraws a waiting exchange at most. -/

@[simp] theorem State.dropPlanned_portStates (k : KilnNo) (address : Nat) :
    (s.dropPlanned k address).ports.map PortRecord.state = s.ports.map PortRecord.state := by
  unfold State.dropPlanned
  (repeat' split) <;> simp

@[simp] theorem State.leaveOldPlace_portStates (k : KilnNo) (address serial : Nat) :
    (s.leaveOldPlace k address serial).ports.map PortRecord.state = s.ports.map PortRecord.state := by
  unfold State.leaveOldPlace
  (repeat' split) <;> simp

@[simp] theorem State.handleProbeOutcome_portStates (k : KilnNo) (address : Nat) (command : ProbeCommand)
    (outcome : ExchangeOutcome) (data : List Octet) :
    (s.handleProbeOutcome k address command outcome data).ports.map PortRecord.state =
      s.ports.map PortRecord.state := by
  unfold State.handleProbeOutcome State.goodProbeOutcome State.resolveIdentity
  (repeat' split) <;> simp

@[simp] theorem State.probeOutcome_portStates (k : KilnNo) (address : Nat) (command : ProbeCommand)
    (outcome : ExchangeOutcome) (data : List Octet) :
    (s.probeOutcome k address command outcome data).ports.map PortRecord.state = s.ports.map PortRecord.state := by
  unfold State.probeOutcome
  dsimp only
  (repeat' split) <;> simp

/-! The label unit's work on an outcome asks port 8 for an exchange at most. -/

@[simp] theorem State.startCurrent_portStates :
    s.startCurrent.ports.map PortRecord.state = s.ports.map PortRecord.state := by
  unfold State.startCurrent State.askPrint
  (repeat' split) <;> simp

@[simp] theorem State.statusOutcome_portStates (record : PackRecord) (outcome : ExchangeOutcome) (reply : StationReply) :
    (s.statusOutcome record outcome reply).ports.map PortRecord.state = s.ports.map PortRecord.state := by
  unfold State.statusOutcome
  (repeat' split) <;> simp [State.confirmLabel, State.faultLabel]

@[simp] theorem State.labelOutcome_portStates (isStatus : Bool) (outcome : ExchangeOutcome) (reply : StationReply) :
    (s.labelOutcome isStatus outcome reply).ports.map PortRecord.state = s.ports.map PortRecord.state := by
  unfold State.labelOutcome
  dsimp only
  (repeat' split) <;> simp

/-- R86: whichever block takes an outcome, every port stays in its state. -/
theorem State.handOutcome_portStates (p : PortNo) (e : Exchange) (outcome : ExchangeOutcome) (reply : StationReply) :
    (s.handOutcome p e outcome reply).ports.map PortRecord.state = s.ports.map PortRecord.state := by
  unfold State.handOutcome
  (repeat' split) <;> simp

end

/-! ### The end of an exchange of a port in UP (R86, R93, R94) -/

section
variable {s : State} {p : PortNo}

/-- The first step of R86 in UP: the idle wait starts on a port that has no kiln. -/
theorem State.closeExchange_of_up (up : (s.port p).state = .up) (outcome : ExchangeOutcome) :
    s.closeExchange p outcome =
      s.setPort p
        { s.port p with
          exchange := none, silentWait := true, counters := (s.port p).counters.count outcome,
          idleWait := (portKiln p).isNone } := by
  simp only [State.closeExchange, State.modifyPort, PortRecord.closeExchange, up, beq_self_eq_true, Bool.and_true]

/-- The blocks leave the port in UP, so the third step of R86 is that of UP. -/
theorem State.endExchange_of_up {e : Exchange} (flying : (s.port p).exchange = some e) (up : (s.port p).state = .up)
    (outcome : ExchangeOutcome) (reply : StationReply) :
    s.endExchange p outcome reply =
      ((s.closeExchange p outcome).handOutcome p e outcome reply).applyInUp p e outcome reply := by
  have stays : (((s.closeExchange p outcome).handOutcome p e outcome reply).port p).state = .up := by
    rw [State.port_state_of_portStates _ (State.handOutcome_portStates ..), State.closeExchange_of_up up,
      State.port_setPort_same, up]
  simp only [State.endExchange, flying, State.applyOutcome, stays]

theorem State.reportLeftUp_of_kiln {k : KilnNo} (port : portKiln p = some k) :
    s.reportLeftUp p =
      { s with reports := s.reports ++ [Report.controllerLost k, .probePortLeftUp k] }.setKiln k
        { s.kiln k with dryValid := false, wetValid := false } := by
  simp only [State.reportLeftUp, port, State.loseReadbacks, State.modifyKiln, State.report, State.setKiln_reports,
    List.append_assoc]
  rfl

theorem State.reportLeftUp_of_device (port : portKiln p = none) :
    s.reportLeftUp p =
      { s with reports := s.reports ++ [if p.val = 6 then Report.meterPortLeftUp else .labelPortLeftUp] } := by
  have meter : p = meterPort ↔ p.val = 6 := Fin.ext_iff
  simp only [State.reportLeftUp, port, State.report, meter]
  split_ifs <;> rfl

/-- R93: below the limit a failure counts. -/
theorem State.stationFailed_of_below (below : (s.port p).failureCount + 1 < (s.port p).failureLimit) :
    s.stationFailed p = s.setPort p { s.port p with failureCount := (s.port p).failureCount + 1 } := by
  simp only [State.stationFailed, State.modifyPort, State.port_setPort_same, if_neg (Nat.not_le.mpr below)]

/-- R93, R94: at the limit the port leaves UP for the first attempt of an establishment. -/
theorem State.stationFailed_of_limit (limit : ¬(s.port p).failureCount + 1 < (s.port p).failureLimit) :
    s.stationFailed p = (s.setPort p (s.port p).clearUp.beginEstablishment).reportLeftUp p := by
  simp only [State.stationFailed, State.failureLimitReached, State.modifyPort, State.port_setPort_same,
    State.setPort_setPort, if_pos (Nat.not_lt.mp limit)]
  rfl

/-- R93, R100: what a GOOD exchange with station 0 leaves of the port's record. -/
theorem PortRecord.stationGood_eq (r : PortRecord) (e : Exchange) (data : List Octet) :
    r.stationGood e data =
      { r with
        failureCount := 0,
        identity := if e.command = .identify ∧ (identityOf data).isSome then identityOf data else r.identity } := by
  cases spelt : identityOf data <;> simp [PortRecord.stationGood, spelt]

end

end Sys2Proof.Machine
end

section
/-! PROOFS. The statement of the family of field ports on replies and the end of an exchange. -/
open Sys2Proof Sys2Proof.Machine

/-- Settles O36, from what each phase of an exchange receives, and from the blocks leaving a port in UP, so that the end
of its exchange is the three steps of R86 with the last one in UP. -/
theorem repliesAreJudgedAndHandedOn : Obligations.RepliesAreJudgedAndHandedOn := by
  unfold Obligations.RepliesAreJudgedAndHandedOn
  refine ⟨fun s p octet error on => ?received, fun c => ⟨rfl, rfl, rfl, rfl, rfl, rfl, rfl⟩,
    fun _ _ _ => identityOf_octets, fun s p outcome reply e flying up => ?ended⟩
  case received =>
    rw [exec_fieldRequestSent_of_isOn on, exec_replyWindowExpiry_of_isOn on, exec_fieldOctetSilence_of_isOn on,
      exec_fieldOctetReceived_of_isOn on]
    simp only [Host.Outcome.next.injEq]
    refine ⟨fun idle => State.reception_of_no_exchange idle octet error, fun e flying =>
      ⟨State.requestSent_of_exchange flying, State.windowOver_of_exchange flying, ?_⟩⟩
    cases phase : e.phase with
    | sending => exact State.reception_of_sending flying phase octet error
    | window => exact State.reception_of_window flying phase octet error
    | receiving octets =>
      obtain ⟨silence, received⟩ := State.reception_of_receiving flying phase octet error
      refine ⟨silence, received.trans ?_⟩
      simp only [State.receiveReplyOctet, Exchange.judge, replyOf, State.modifyPort_setPhase s p flying]
      -- R83, R199: the expected length stands in the statement command by command.
      cases e.command <;> rfl
  case ended =>
    intro r closed handed q lost
    have closing : closed = s.closeExchange p outcome := (State.closeExchange_of_up up outcome).symm
    have handing : handed = closed.handOutcome p e outcome reply := by
      simp only [handed, State.handOutcome]
      cases portKiln p <;> cases e.command <;> rfl
    have losing (t : State) : lost t = t.reportLeftUp p := by
      cases port : portKiln p with
      | some k => simp only [lost, port, State.reportLeftUp_of_kiln port]
      | none => simp only [lost, port, State.reportLeftUp_of_device port]
    rw [State.endExchange_of_up flying up, ← closing, ← handing, State.applyInUp]
    by_cases station : e.address ≠ 0
    · rw [if_pos station, if_pos station]
    rw [if_neg station, if_neg station]
    by_cases good : outcome = .good
    · rw [if_pos good, if_pos good, State.modifyPort, PortRecord.stationGood_eq]
    rw [if_neg good, if_neg good]
    by_cases below : q.failureCount + 1 < q.failureLimit
    · rw [if_pos below, State.stationFailed_of_below below]
    · rw [if_neg below, losing, State.stationFailed_of_limit below]
      rfl
end

section
/-!
PROOFS. The records that LINE-CLEAR gives up, and what closing a pack on the way leaves of the line, of the link and of
the ports (R138, R148, R153).
-/
namespace Sys2Proof.Machine

/-! ### The works of the ports, the label unit and the pack builder beside the line and the link -/

/-- The line and the link changed, of which closing a pack and queueing its label read and change at most a line-stop
cause. -/
def State.modifyLineLink (s : State) (f : Line → Line) (g : Link → Link) : State :=
  { s with line := f s.line, link := g s.link }

section
variable (s : State) (f : Line → Line) (g : Link → Link)

theorem State.port_modifyLineLink (p : PortNo) : (s.modifyLineLink f g).port p = s.port p := rfl

theorem State.bay_modifyLineLink (b : BayNo) : (s.modifyLineLink f g).bay b = s.bay b := rfl

theorem State.modifyPort_modifyLineLink (p : PortNo) (h : PortRecord → PortRecord) :
    (s.modifyLineLink f g).modifyPort p h = (s.modifyPort p h).modifyLineLink f g := rfl

theorem State.modifyLabel_modifyLineLink (h : LabelUnit → LabelUnit) :
    (s.modifyLineLink f g).modifyLabel h = (s.modifyLabel h).modifyLineLink f g := rfl

theorem State.modifyBay_modifyLineLink (b : BayNo) (h : Bay → Bay) :
    (s.modifyLineLink f g).modifyBay b h = (s.modifyBay b h).modifyLineLink f g := rfl

theorem State.dropReference_modifyLineLink (charge : Nat) :
    (s.modifyLineLink f g).dropReference charge = (s.dropReference charge).modifyLineLink f g := rfl

theorem State.settlePiece_modifyLineLink (number : Nat) (fate : Fate) :
    (s.modifyLineLink f g).settlePiece number fate = (s.settlePiece number fate).modifyLineLink f g := by
  simp only [State.settlePiece, apply_ite (State.modifyLineLink · f g)]
  rfl

theorem State.sendNext_modifyLineLink (p : PortNo) :
    (s.modifyLineLink f g).sendNext p = (s.sendNext p).modifyLineLink f g := by
  simp only [State.sendNext, apply_ite (State.modifyLineLink · f g)]
  cases portKiln p <;> rfl

theorem State.askPort_modifyLineLink (p : PortNo) (w : WaitingExchange) :
    (s.modifyLineLink f g).askPort p w = (s.askPort p w).modifyLineLink f g := by
  simp only [State.askPort, State.port_modifyLineLink, State.modifyPort_modifyLineLink, State.sendNext_modifyLineLink]
  cases (s.port p).answerTo <;> rfl

theorem State.askPrint_modifyLineLink (record : PackRecord) :
    (s.modifyLineLink f g).askPrint record = (s.askPrint record).modifyLineLink f g := by
  simp only [State.askPrint, State.labelAnswer, State.port_modifyLineLink, State.modifyLabel_modifyLineLink,
    State.askPort_modifyLineLink]
  cases (s.port labelPort).answerTo <;> rfl

theorem State.startCurrent_modifyLineLink :
    (s.modifyLineLink f g).startCurrent = s.startCurrent.modifyLineLink f g := by
  have label : (s.modifyLineLink f g).label = s.label := rfl
  have record : (s.modifyLineLink f g).currentRecord = s.currentRecord := rfl
  simp only [State.startCurrent, State.labelAnswer, label, record, State.port_modifyLineLink,
    State.modifyLabel_modifyLineLink, State.askPrint_modifyLineLink]
  split <;> rfl

theorem State.appendJob_modifyLineLink (serial : Nat) :
    (s.modifyLineLink f g).appendJob serial = (s.appendJob serial).modifyLineLink f g := by
  simp only [State.appendJob, State.modifyLabel_modifyLineLink, State.startCurrent_modifyLineLink,
    apply_ite (State.modifyLineLink · f g)]
  rfl

theorem State.writeRecord_modifyLineLink (b : BayNo) (p : OpenPack) :
    (s.modifyLineLink f g).writeRecord b p = (s.writeRecord b p).modifyLineLink f g :=
  congrArg State.postPackReady
    (State.appendJob_modifyLineLink
      (State.modifyBay
        { s with
          backup := { s.backup with packCounter := s.issuedSerial },
          packs := s.packs ++ [p.closedRecord s.issuedSerial b (s.bay b).nominal s.dateDigits] }
        b fun bay => { bay with state := .labelling, openPack := none })
      f g s.issuedSerial)

end

/-! ### Clearing -/

/-- The line with an empty queue and `n` more records counted as cleared (R138). -/
def Line.cleared (n : Nat) (l : Line) : Line :=
  { l with queue := [], counters := { l.counters with cleared := Nat.repeat bump n l.counters.cleared } }

section
variable (s : State) (n : Nat) (g : Link → Link)

theorem State.addCause_cleared (cause : StopCause) :
    (s.modifyLineLink (Line.cleared n) g).addCause cause =
      (s.addCause cause).modifyLineLink (Line.cleared n) g := by
  simp only [State.addCause, apply_ite (State.modifyLineLink · (Line.cleared n) g)]
  rfl

theorem State.closePack_cleared (b : BayNo) :
    (s.modifyLineLink (Line.cleared n) g).closePack b = (s.closePack b).modifyLineLink (Line.cleared n) g := by
  have waits : (s.modifyLineLink (Line.cleared n) g).someBayWaits = s.someBayWaits := rfl
  have packs : (s.modifyLineLink (Line.cleared n) g).packs = s.packs := rfl
  simp only [State.closePack, State.bay_modifyLineLink, waits, packs, State.modifyBay_modifyLineLink,
    State.addCause_cleared, State.writeRecord_modifyLineLink]
  cases (s.bay b).openPack with
  | none => rfl
  | some p => simp only [apply_ite (State.modifyLineLink · (Line.cleared n) g)]

theorem State.releasePlace_cleared (b : BayNo) (charge : Nat) :
    (s.modifyLineLink (Line.cleared n) g).releasePlace b charge =
      (s.releasePlace b charge).modifyLineLink (Line.cleared n) g := by
  simp only [State.releasePlace, State.bay_modifyLineLink, State.modifyBay_modifyLineLink,
    State.dropReference_modifyLineLink, State.closePack_cleared,
    ← apply_ite (State.modifyLineLink · (Line.cleared n) g)]
  cases (s.bay b).openPack with
  | none => rfl
  | some p =>
    dsimp only
    split <;> rfl

end

/-! ### The ports that have no label -/

section
variable (s : State) {p q : PortNo} (other : p ≠ q)
include other

theorem State.modifyPort_port_ne (f : PortRecord → PortRecord) : (s.modifyPort p f).port q = s.port q :=
  (s.port_setPort p q _).trans (if_neg other)

theorem State.sendNext_port_ne : (s.sendNext p).port q = s.port q := by
  unfold State.sendNext
  split
  · split
    · exact s.modifyPort_port_ne other _
    · exact s.modifyPort_port_ne other _
  · rfl

theorem State.askPort_port_ne (w : WaitingExchange) : (s.askPort p w).port q = s.port q := by
  unfold State.askPort
  split
  · rw [State.sendNext_port_ne _ other, State.modifyPort_port_ne _ other]
  · rfl
  · rfl

end

section
variable (s : State) {q : PortNo} (other : labelPort ≠ q)
include other

theorem State.startCurrent_port_ne : s.startCurrent.port q = s.port q := by
  unfold State.startCurrent
  split
  · unfold State.askPrint
    split
    · exact State.askPort_port_ne _ other _
    · rfl
    · rfl
  · rfl

theorem State.writeRecord_port_ne (b : BayNo) (p : OpenPack) : (s.writeRecord b p).port q = s.port q := by
  have job (t : State) (serial : Nat) : (t.appendJob serial).postPackReady.port q = t.port q := by
    unfold State.appendJob
    dsimp only
    split
    · exact State.startCurrent_port_ne _ other
    · rfl
  exact job _ _

end

/-! ### The records given up -/

/-- A record cleared as its charge and its bay see it (R138): settled, and the place that a DRY one held released. -/
def State.giveUp (s : State) (p : Piece) : State :=
  match p.grade with
  | .dry b => (s.settlePiece p.charge .cleared).releasePlace b p.charge
  | _ => s.settlePiece p.charge .cleared

section
variable (s : State)

theorem State.clearPiece_cleared (n : Nat) (g : Link → Link) (p : Piece) :
    (s.modifyLineLink (Line.cleared n) g).clearPiece p = (s.giveUp p).modifyLineLink (Line.cleared (n + 1)) g := by
  simp only [State.clearPiece, State.giveUp, State.settlePiece_modifyLineLink]
  cases p.grade with
  | dry b => dsimp only; rw [State.releasePlace_cleared]; rfl
  | _ => rfl

theorem State.foldl_clearPiece (pieces : List Piece) (n : Nat) (g : Link → Link) :
    pieces.foldl State.clearPiece (s.modifyLineLink (Line.cleared n) g) =
      (pieces.foldl State.giveUp s).modifyLineLink (Line.cleared (n + pieces.length)) g := by
  induction pieces generalizing s n with
  | nil => rfl
  | cons p rest ih =>
    rw [List.foldl_cons, State.clearPiece_cleared, ih, List.foldl_cons, List.length_cons, Nat.add_right_comm,
      Nat.add_assoc]

/-- The line as LINE-CLEAR leaves it, of `n` records (R138). -/
def Line.clearedWhole (n : Nat) (l : Line) : Line :=
  { l.cleared n with
    sampleOwner := none, capture := { l.capture with owner := none },
    causes := { l.causes with overflow := false, jam := false, queueHigh := false } }

/-- R138: beside the line, LINE-CLEAR gives up each record in queue order. -/
theorem State.clearLine_modifyLink (g : Link → Link) :
    (s.modifyLink g).clearLine =
      (s.line.queue.foldl State.giveUp s).modifyLineLink (Line.clearedWhole s.line.queue.length) g := by
  have start : ((s.modifyLink g).modifyLine fun l => { l with queue := [] }) = s.modifyLineLink (Line.cleared 0) g :=
    rfl
  have queue : (s.modifyLink g).line.queue = s.line.queue := rfl
  unfold State.clearLine
  dsimp only
  rw [start, queue, State.foldl_clearPiece, Nat.zero_add]
  generalize s.line.queue.foldl State.giveUp s = t
  rfl

/-- The line with RECORDS_FULL left open: all of it that a closing pack leaves. -/
def Line.butRecordsFull (l : Line) : Line := { l with causes := { l.causes with recordsFull := false } }

theorem Line.eq_of_butRecordsFull {l m : Line} (same : l.butRecordsFull = m.butRecordsFull) :
    l = { m with causes := { m.causes with recordsFull := l.causes.recordsFull } } := by
  obtain ⟨_, _, _, _, _, _, _, _, ⟨_, _, _, _⟩, _, _⟩ := l
  obtain ⟨_, _, _, _, _, _, _, _, ⟨_, _, _, _⟩, _, _⟩ := m
  simpa [Line.butRecordsFull] using same

theorem State.addCause_butRecordsFull : (s.addCause .recordsFull).line.butRecordsFull = s.line.butRecordsFull := by
  unfold State.addCause
  split <;> rfl

section
variable {β : Type} (f : State → β) (charge : ∀ t number g, f (t.modifyCharge number g) = f t)
  (bay : ∀ t b g, f (t.modifyBay b g) = f t) (full : ∀ t, f (t.addCause .recordsFull) = f t)
  (record : ∀ t b p, f (t.writeRecord b p) = f t)

include bay full record in
theorem State.closePack_keeps (b : BayNo) : f (s.closePack b) = f s := by
  unfold State.closePack
  split
  · rfl
  · dsimp only
    split_ifs
    · exact bay ..
    · exact (full _).trans (bay ..)
    · exact bay ..
    · exact record ..

include charge bay full record

theorem State.releasePlace_keeps (b : BayNo) (number : Nat) : f (s.releasePlace b number) = f s := by
  unfold State.releasePlace
  split
  · rfl
  · next p _ =>
    have released : f
        (if p.names number && !(p.unreserve number).names number then
          (s.modifyBay b fun bay => { bay with openPack := some (p.unreserve number) }).dropReference number
        else s.modifyBay b fun bay => { bay with openPack := some (p.unreserve number) }) = f s := by
      split_ifs
      · exact (charge ..).trans (bay ..)
      · exact bay ..
    dsimp only
    split
    · rwa [apply_ite f, bay, ite_self]
    · rwa [apply_ite f, State.closePack_keeps _ f bay full record, ite_self]
    all_goals exact released

/-- What settling a piece, changing a bay, filling the closed pack list and writing a record keep, giving up a record
keeps. -/
theorem State.giveUp_keeps (p : Piece) : f (s.giveUp p) = f s := by
  have settled : f (s.settlePiece p.charge .cleared) = f s := by
    unfold State.settlePiece
    split_ifs
    · rfl
    · exact charge ..
  unfold State.giveUp
  split
  · exact (State.releasePlace_keeps _ f charge bay full record ..).trans settled
  · exact settled

end

theorem State.giveUp_butRecordsFull (p : Piece) : (s.giveUp p).line.butRecordsFull = s.line.butRecordsFull :=
  s.giveUp_keeps (·.line.butRecordsFull) (fun _ _ _ => rfl) (fun _ _ _ => rfl) State.addCause_butRecordsFull
    (fun t b p => by simp only [State.writeRecord_frame]) p

theorem State.giveUp_port_ne {q : PortNo} (other : labelPort ≠ q) (p : Piece) : (s.giveUp p).port q = s.port q :=
  s.giveUp_keeps (·.port q) (fun _ _ _ => rfl) (fun _ _ _ => rfl)
    (fun t => by simp only [State.port, State.addCause_frame]) (fun t b p => t.writeRecord_port_ne other b p) p

/-- Records of which none is DRY are settled and nothing else. -/
theorem State.foldl_giveUp_of_no_dry {pieces : List Piece} (noDry : ∀ p ∈ pieces, ∀ b, p.grade ≠ .dry b) :
    pieces.foldl State.giveUp s =
      { s with
        charges := pieces.foldl
          (fun table p => if p.charge = 0 then table else updateBy Charge.number p.charge (·.settle .cleared) table)
          s.charges } := by
  induction pieces generalizing s with
  | nil => rfl
  | cons p rest ih =>
    have settled : s.giveUp p = s.settlePiece p.charge .cleared := by
      unfold State.giveUp
      split
      · next b dry => exact absurd dry (noDry p List.mem_cons_self b)
      · rfl
    rw [List.foldl_cons, settled, ih _ fun q inRest => noDry q (List.mem_cons_of_mem p inRest), List.foldl_cons]
    unfold State.settlePiece
    split_ifs <;> rfl

end

end Sys2Proof.Machine
end

section
/-! PROOFS. LINE-CONFIG, READ-LINE and LINE-CLEAR: what the state becomes when each is taken (R124, R138, R140). -/
namespace Sys2Proof.Machine

theorem flagOf_eq_none {n : Nat} (big : ¬n ≤ 1) : flagOf n = none := by
  match n with
  | 0 | 1 => omega
  | _ + 2 => rfl

theorem flagOf_eq_some {n : Nat} (small : n ≤ 1) : flagOf n = some (n == 1) := by
  match n with
  | 0 | 1 => rfl
  | _ + 2 => omega

section
variable {counts divert stack short polarity glitch : Nat}

/-- R124: the settings in their ranges make a configuration, others none. -/
theorem lineConfigOf_eq :
    lineConfigOf counts divert stack short polarity glitch =
      if 100 ≤ counts ∧ counts ≤ 10000 ∧ 1 ≤ divert ∧ divert ≤ 1073741824 ∧ divert < stack ∧ stack ≤ 1073741824 ∧
          300 ≤ short ∧ short ≤ 6000 ∧ polarity ≤ 1 ∧ glitch ≤ 20 then
        some ⟨some counts, some divert, some stack, short, polarity == 1, glitch⟩
      else none := by
  by_cases small : polarity ≤ 1
  · simp only [lineConfigOf, flagOf_eq_some small, inRange, Bool.and_eq_true, decide_eq_true_eq, Nat.succ_le_iff]
    exact if_congr (by omega) rfl rfl
  · simp only [lineConfigOf, flagOf_eq_none small, small, false_and, and_false, if_false]

variable {s : State}

theorem exec_lineConfig_of_takes (taken : s.takes (.lineConfig counts divert stack short polarity glitch) = true) :
    exec (.lineConfig counts divert stack short polarity glitch) s =
      .next (let i := Instr.lineConfig counts divert stack short polarity glitch
        match lineConfigOf counts divert stack short polarity glitch with
        | none => s.refusal i .outOfRange
        | some c =>
          if s.line.queue ≠ [] then s.refusal i .inUse else (s.modifyLine fun l => l.configure c).okReply i []) := by
  refine congrArg Host.Outcome.next ?_
  cases lineConfigOf counts divert stack short polarity glitch with
  | none => exact hostRequest_eq_refusal taken rfl
  | some c =>
    dsimp only
    split_ifs with used
    · exact hostRequest_eq_refusal taken (if_pos used)
    · exact hostRequest_eq_okReply taken (if_neg used)

theorem exec_readLine_of_takes (taken : s.takes .readLine = true) :
    exec .readLine s = .next (s.okReply .readLine (lineContent s)) :=
  congrArg Host.Outcome.next (hostRequest_eq_okReply taken rfl)

theorem exec_lineClear_of_takes (taken : s.takes .lineClear = true) :
    exec .lineClear s =
      .next (((s.line.queue.foldl State.giveUp s).modifyLine (Line.clearedWhole s.line.queue.length)).okReply .lineClear
        (u8 s.line.queue.length)) := by
  have answer := s.clearLine_modifyLink fun l =>
    { l with buffer := some { kind := requestKind .lineClear, request := some .lineClear, answered := true } }
  exact congrArg Host.Outcome.next (hostRequest_eq_okReply taken (congrArg (Answer.ok _) answer))

end

end Sys2Proof.Machine
end

section
/-! PROOFS. The statement of the family of the planer line on its requests. -/
open Sys2Proof Sys2Proof.Machine

/-- Settles O46, from what each request makes of the state: LINE-CLEAR gives up the records in turn, which moves nothing
of the line but RECORDS_FULL and no port but the label applicator's. -/
theorem lineRequestsAnswer : Obligations.LineRequestsAnswer := by
  unfold Obligations.LineRequestsAnswer
  refine ⟨fun s counts divert stack short polarity glitch =>
    ⟨fun taken => ?config, exec_readLine_of_takes, fun taken => ?clear⟩, fun c fate hasQueued => ?settle⟩
  case config =>
    rw [exec_lineConfig_of_takes taken, lineConfigOf_eq]
    by_cases good : 100 ≤ counts ∧ counts ≤ 10000 ∧ 1 ≤ divert ∧ divert ≤ 1073741824 ∧ divert < stack ∧
        stack ≤ 1073741824 ∧ 300 ≤ short ∧ short ≤ 6000 ∧ polarity ≤ 1 ∧ glitch ≤ 20
    · rw [if_pos good, if_neg (not_not_intro good)]
      rfl
    · rw [if_neg good, if_pos good]
  case clear =>
    have rest := s.clearLine_frame
    rw [show s.clearLine = _ from s.clearLine_modifyLink id] at rest
    have answer := exec_lineClear_of_takes taken
    have noDry := s.foldl_giveUp_of_no_dry (pieces := s.line.queue)
    have port (q : PortNo) (other : q ≠ labelPort) :=
      foldl_keeps (State.port · q) State.giveUp (fun t x => t.giveUp_port_ne other.symm x) s.line.queue s
    have line := Line.eq_of_butRecordsFull
      (foldl_keeps (·.line.butRecordsFull) State.giveUp State.giveUp_butRecordsFull s.line.queue s)
    generalize givenUp : s.line.queue.foldl State.giveUp s = t at *
    obtain ⟨-, species, schedules, kilns, -, assignments, presence, sweeps, -, (link : t.link = s.link), -⟩ := rest
    refine ⟨_, answer, ?reply, ?line, species, schedules, kilns, sweeps, presence, assignments, port, ?all, ?undry⟩
    case reply => rw [State.okReply, ← link]; rfl
    case line =>
      dsimp only [State.okReply, State.modifyLine]
      rw [line]
      rfl
    case all =>
      intro cleared
      have fold : s.line.queue.foldl cleared s = t := givenUp
      rw [fold]
      exact ⟨rfl, rfl⟩
    case undry =>
      intro undry
      rw [noDry undry]
      rfl
  case settle =>
    have queued : ¬c.queued = 0 := by omega
    simp only [Charge.settle, if_neg queued]
    cases fate <;> simp [Charge.raise]
end

section
/-!
PROOFS. The photo-eye: which edges are taken, and what a taken one makes of the line (R125 to R132, R45).
-/
namespace Sys2Proof.Machine

/-! ### The pin and the filter (R125) -/

/-- A change of the pin, by the level, the line's configuration and the filter. -/
theorem State.changeEye_eq (s : State) (level : Bool) :
    s.changeEye level =
      if s.line.eyePin = level then s
      else if s.line.config.configured = false then s.modifyLine fun l => { l with eyePin := level }
      else if s.line.config.senses level = s.line.capture.blocked then
        s.modifyLine fun l => { l with eyePin := level, eyeFilter := none }
      else if s.line.config.glitchFilter = 0 then
        (s.modifyLine fun l => { l with eyePin := level }).filteredEdge (s.line.config.senses level) s.line.counter
      else s.modifyLine fun l => { l with eyePin := level, eyeFilter := some s.line.counter } := by
  unfold State.changeEye
  cases configured : s.line.config.configured with
  | false => simp only [State.modifyLine_line, configured, if_true, Bool.false_eq_true, if_false]
  | true => simp only [State.modifyLine_line, configured, if_true, Bool.true_eq_false, if_false]; rfl

section
variable {s : State}

theorem exec_eyeChange_of_isOn (on : s.power = .on) (level : Bool) :
    exec (.eyeChange level) s = .next (s.changeEye level) :=
  congrArg Host.Outcome.next (by simp only [on])

/-- Log entry 9: the pin changes while the part is held or without power too. -/
theorem exec_eyeChange_of_not_on (still : s.power ≠ .on) (level : Bool) :
    exec (.eyeChange level) s = .next (s.modifyLine fun l => { l with eyePin := level }) := by
  refine congrArg Host.Outcome.next ?_
  cases power : s.power with
  | on => exact absurd power still
  | held => rfl
  | off => rfl

theorem exec_eyeFilterExpiry_of_isOn (on : s.isOn = true) : exec .eyeFilterExpiry s = .next s.eyeFilterOver :=
  congrArg Host.Outcome.next (State.whenOn_on s (beq_iff_eq.mp on))

end

/-! ### The edges taken (R126) -/

section
variable {c : Capture} {p : Position}

theorem Capture.takesLead_iff :
    c.takesLead p = true ↔ c.boardInEye = false ∧ c.lastTrail.all (fun trail => isAfter p trail) = true := by
  unfold Capture.takesLead
  cases c.lastTrail <;> simp

theorem Capture.takesLead_eq_false_iff :
    c.takesLead p = false ↔ c.boardInEye = true ∨ c.lastTrail.any (fun trail => !isAfter p trail) = true := by
  unfold Capture.takesLead
  cases c.lastTrail <;> cases c.boardInEye <;> simp

theorem Capture.takesTrail_iff :
    c.takesTrail p = true ↔ c.boardInEye = true ∧ c.lastLead.any (fun lead => isAfter p lead) = true := by
  unfold Capture.takesTrail
  cases c.lastLead <;> simp

theorem Capture.takesTrail_eq_false_iff :
    c.takesTrail p = false ↔ c.boardInEye = false ∨ c.lastLead.any (fun lead => isAfter p lead) = false := by
  rw [← Bool.not_eq_true, Capture.takesTrail_iff, not_and_or, Bool.not_eq_true, Bool.not_eq_true]

end

section
variable {s : State} {p : Position}

theorem State.filteredEdge_of_ignored_lead (ignored : s.line.capture.takesLead p = false) :
    s.filteredEdge true p = s.modifyLine fun l => { l with capture := { l.capture with blocked := true } } :=
  if_neg (Bool.eq_false_iff.mp ignored)

theorem State.filteredEdge_of_ignored_trail (ignored : s.line.capture.takesTrail p = false) :
    s.filteredEdge false p = s.modifyLine fun l => { l with capture := { l.capture with blocked := false } } :=
  if_neg (Bool.eq_false_iff.mp ignored)

theorem State.filteredEdge_of_trail (taken : s.line.capture.takesTrail p = true) :
    s.filteredEdge false p =
      (s.modifyLine fun l => { l with capture := { l.capture with blocked := false } }).takeTrail p :=
  if_pos taken

end

/-! ### Trailing edge (R132) -/

section
variable {s : State} (trail : Position)

theorem State.takeTrail_of_ownerless (ownerless : s.line.capture.owner = none) :
    s.takeTrail trail =
      s.modifyLine fun l =>
        { l with capture := { l.capture with boardInEye := false, lastTrail := some trail, owner := none } } := by
  simp only [State.takeTrail, ownerless]

theorem State.takeTrail_of_owner {sequence : Nat} (owner : s.line.capture.owner = some sequence) :
    s.takeTrail trail =
      State.decideGrade
        (State.modifyPiece
          (s.modifyLine fun l =>
            { l with capture := { l.capture with boardInEye := false, lastTrail := some trail, owner := none } })
          sequence fun x =>
            { x with
              trail := some trail,
              length := some (lengthOf (trail - x.lead).toNat (s.line.config.countsPerMetre.getD 1)) })
        sequence := by
  simp only [State.takeTrail, owner]
  rfl

end

/-! ### Line-stop causes (R137) -/

section
variable (s : State) (cause : StopCause)

theorem CauseSet.put_of_has {c : CauseSet} {cause : StopCause} (has : c.has cause = true) : c.put cause true = c := by
  obtain ⟨_, _, _, _⟩ := c
  cases cause <;> (cases has; rfl)

/-- A cause that enters the set changes nothing else of the line. -/
theorem State.addCause_line : (s.addCause cause).line = { s.line with causes := s.line.causes.put cause true } := by
  unfold State.addCause
  split_ifs with has
  · rw [CauseSet.put_of_has has]
  · rfl

end

/-! ### Leading edge (R129, R130) -/

/-- The infeed charge that counts is the one that is not full (R45). -/
theorem State.countingCharge_eq (s : State) :
    s.countingCharge = (s.charges.find? fun c => c.state == .infeed).filter fun c => c.metered < 4294967295 := by
  unfold State.countingCharge State.infeed
  cases s.charges.find? fun c => c.state == .infeed with
  | none => rfl
  | some c =>
    have full : c.isFull = !decide (c.metered < 4294967295) :=
      (decide_eq_decide.mpr Nat.not_lt.symm).trans decide_not
    cases room : decide (c.metered < 4294967295) <;> simp [full, room, Option.filter]

/-- The line as a leading edge taken leaves it before its piece overflows or joins the queue. -/
def Line.leadTaken (l : Line) (p : Position) : Line :=
  { l with
    capture :=
      { l.capture with blocked := true, boardInEye := true, lastLead := some p, lastTrail := none, owner := none },
    counters := { l.counters with metered := bump l.counters.metered } }

section
variable {s : State} {p : Position} (taken : s.line.capture.takesLead p = true)
include taken

theorem State.filteredEdge_of_overflow (full : 32 ≤ s.line.queue.length) :
    s.filteredEdge true p = (s.modifyLine fun l => l.leadTaken p).overflowPiece :=
  (if_pos taken).trans (if_pos full)

theorem State.filteredEdge_of_room (room : s.line.queue.length < 32) :
    s.filteredEdge true p = (s.modifyLine fun l => l.leadTaken p).appendPiece p :=
  (if_pos taken).trans (if_neg (Nat.not_le.mpr room))

end

/-- The piece counted, to its charge or as untraced, and its record at the tail (R129). -/
def State.joined (s : State) (lead : Position) (charge : Option Charge) : State :=
  (s.countPiece charge true).modifyLine fun l =>
    { l with
      queue := s.line.queue ++ [s.line.newPiece lead charge]
      nextSequence := (s.line.nextSequence + 1) % 65536
      capture := { l.capture with owner := some s.line.nextSequence } }

theorem State.appendPiece_eq (s : State) (lead : Position) :
    s.appendPiece lead =
      (let joined := s.joined lead s.countingCharge
      let told := if s.line.queue.length = 27 then joined.addCause .queueHigh else joined
      if s.countingCharge.isSome then told.triggerSample s.line.nextSequence else told) := by
  have joined : ((s.countPiece s.countingCharge true).modifyLine fun l =>
      { l with
        queue := l.queue ++ [l.newPiece lead s.countingCharge]
        nextSequence := (s.line.nextSequence + 1) % 65536
        capture := { l.capture with owner := some s.line.nextSequence } }) = s.joined lead s.countingCharge := by
    cases s.countingCharge <;> rfl
  have length : (s.joined lead s.countingCharge).line.queue.length = Config.queueHigh ↔ s.line.queue.length = 27 := by
    simp [State.joined, Config.queueHigh]
  unfold State.appendPiece
  dsimp only
  rw [joined]
  simp only [length]

/-- R130: the answer of port 7 to the sample of the piece at the tail. -/
theorem State.triggerSample_eq {s : State} {queue : List Piece} {x : Piece} (tail : s.line.queue = queue ++ [x]) :
    s.triggerSample x.sequence =
      (let settled := fun (reason : NoReading) (counters : LineCounters) =>
        s.modifyLine fun l => { l with counters := counters, queue := queue ++ [{ x with reading := .none reason }] }
      let n := s.line.counters
      match (s.port 6).answerTo with
      | .taken =>
        (s.modifyLine fun l => { l with sampleOwner := some x.sequence }).askPort 6
          { command := .meterSample, data := [] }
      | .busy => settled .meterBusy { n with meterBusy := bump n.meterBusy }
      | .notUp => settled .noReply { n with noReply := bump n.noReply }) := by
  have changed (reading : PieceReading) :
      updateLast (fun p => p.sequence == x.sequence) (fun p => { p with reading := reading }) s.line.queue =
        queue ++ [{ x with reading := reading }] := by
    rw [tail]
    exact updateLast_append queue (beq_self_eq_true _) (fun _ h => absurd h List.not_mem_nil)
  unfold State.triggerSample
  have meter : meterPort = 6 := rfl
  rw [meter]
  cases (s.port 6).answerTo with
  | taken => rfl
  | busy =>
    simp only [State.settleReading, State.modifyPiece, State.countLine, State.modifyLine, changed]
  | notUp =>
    simp only [State.noReply, State.settleReading, State.modifyPiece, State.countLine, State.modifyLine, changed]

/-- R97: port 7's answer. -/
theorem PortRecord.answerTo_eq (r : PortRecord) :
    r.answerTo =
      if r.state ≠ .up then .notUp
      else if r.waiting.isSome ∨ (∃ e ∈ r.exchange, e.command ≠ .identify) then .busy else .taken := by
  unfold PortRecord.answerTo PortRecord.holdsBlockExchange
  cases r.exchange <;> simp

end Sys2Proof.Machine
end

section
/-! PROOFS. The statement of the family of the planer line on the photo-eye. -/
open Sys2Proof Sys2Proof.Machine

/-- Settles O47, from what a change of the pin does, which edges are taken, and what a trailing edge, a piece that
overflows and a piece that joins the queue leave. -/
theorem eyeEdgesMakeAndMeasurePieces : Obligations.EyeEdgesMakeAndMeasurePieces := by
  unfold Obligations.EyeEdgesMakeAndMeasurePieces
  refine ⟨fun s level => ?change, fun s on => ?filter,
    fun s p => ⟨fun ignored => State.filteredEdge_of_ignored_lead (Capture.takesLead_eq_false_iff.mpr ignored),
      fun ignored => State.filteredEdge_of_ignored_trail (Capture.takesTrail_eq_false_iff.mpr ignored), ?trail⟩,
    fun s p => ?lead⟩
  case change =>
    by_cases on : s.power = .on
    · intro pinned blocked
      rw [exec_eyeChange_of_isOn on, State.changeEye_eq, if_neg (not_not_intro on)]
      rfl
    · intro pinned blocked
      rw [exec_eyeChange_of_not_on on, if_pos on]
      rfl
  case filter =>
    rw [exec_eyeFilterExpiry_of_isOn on]
    unfold State.eyeFilterOver
    cases s.line.eyeFilter <;> rfl
  case trail =>
    intro board afterLead capture
    rw [State.filteredEdge_of_trail (Capture.takesTrail_iff.mpr ⟨board, afterLead⟩)]
    exact ⟨fun ownerless => State.takeTrail_of_ownerless p ownerless,
      fun sequence owner => State.takeTrail_of_owner p owner⟩
  case lead =>
    intro c n infeed capture metered noBoard afterTrail
    have taken : s.line.capture.takesLead p = true := Capture.takesLead_iff.mpr ⟨noBoard, afterTrail⟩
    have counting : (s.modifyLine fun l => l.leadTaken p).countingCharge = infeed := State.countingCharge_eq _
    refine ⟨fun full => ?full, fun room => ?room, fun cause => rfl⟩
    case full =>
      rw [State.filteredEdge_of_overflow taken full, State.overflowPiece, counting]
      clear_value infeed
      cases infeed <;> rfl
    case room =>
      intro piece joined told meter settled
      have joining : (s.modifyLine fun l => l.leadTaken p).joined p infeed = joined := by
        clear_value infeed
        cases infeed <;> rfl
      have appended : (s.modifyLine fun l => l.leadTaken p).appendPiece p =
          if infeed.isSome then told.triggerSample piece.sequence else told := by
        rw [State.appendPiece_eq, counting, joining]
        rfl
      have told_keeps {β : Type} (f : State → β) (added : f (joined.addCause .queueHigh) = f joined) :
          f told = f joined := by
        dsimp only [told]
        split_ifs
        · exact added
        · rfl
      have counters : told.line.counters = metered := told_keeps (·.line.counters) (by rw [State.addCause_line])
      have tail : told.line.queue = s.line.queue ++ [piece] := told_keeps (·.line.queue) (by rw [State.addCause_line])
      have port : told.port 6 = meter := told_keeps (·.port 6) (by simp only [State.port, State.addCause_frame])
      rw [State.filteredEdge_of_room taken room, appended]
      by_cases untraced : infeed = none
      · rw [if_pos untraced, if_neg (by simp [untraced])]
      · rw [if_neg untraced, if_pos (Option.isSome_iff_ne_none.mpr untraced), State.triggerSample_eq tail, port,
          counters, PortRecord.answerTo_eq]
        split_ifs <;> rfl
end

section
/-!
PROOFS. The pieces at their positions: which ones a change of the counter reaches, and what a piece leaves behind at the
gate and at the stacker (R123, R128, R134 to R136).
-/
namespace Sys2Proof.Machine

/-! ### A single piece at its position -/

/-- Where a piece leaves the queue: a DRY one at the stacker, any other at the gate (R134, R136). -/
def Piece.position (x : Piece) : Position :=
  match x.grade with
  | .dry _ => x.stackAt
  | _ => x.divertAt

theorem Piece.position_of_dry {x : Piece} (dry : x.grade.isDry = true) : x.position = x.stackAt := by
  unfold Piece.position
  split
  · rfl
  · next notDry => cases grade : x.grade <;> simp_all [Grade.isDry]

theorem Piece.position_of_not_dry {x : Piece} (notDry : x.grade.isDry = false) : x.position = x.divertAt := by
  unfold Piece.position
  split
  · next dry => simp [dry, Grade.isDry] at notDry
  · rfl

/-- The pieces at the gate are those at their position that are not DRY. -/
theorem Line.atDivert_eq (l : Line) :
    l.atDivert = l.queue.filter fun x => !x.grade.isDry && reached l.counter x.position := by
  refine List.filter_congr fun x _ => ?_
  cases dry : x.grade.isDry with
  | false => rw [Piece.position_of_not_dry dry]
  | true => rfl

/-- The pieces at the stacker are the DRY ones at their position. -/
theorem Line.atStack_eq (l : Line) :
    l.atStack = l.queue.filter fun x => x.grade.isDry && reached l.counter x.position := by
  refine List.filter_congr fun x _ => ?_
  cases dry : x.grade.isDry with
  | false => rfl
  | true => rw [Piece.position_of_dry dry]

theorem Line.atDivert_atStack_eq_nil {l : Line} (idle : ∀ x ∈ l.queue, reached l.counter x.position = false) :
    l.atDivert = [] ∧ l.atStack = [] := by
  rw [Line.atDivert_eq, Line.atStack_eq, List.filter_eq_nil_iff, List.filter_eq_nil_iff]
  exact ⟨fun x inQueue => by simp [idle x inQueue], fun x inQueue => by simp [idle x inQueue]⟩

/-- A test that picks nothing around an element picks that element or nothing. -/
theorem filter_alone {α : Type} {q : α → Bool} {before after : List α} {x : α}
    (others : ∀ y ∈ before ++ after, q y = false) : (before ++ x :: after).filter q = if q x then [x] else [] := by
  obtain ⟨first, last⟩ := List.forall_mem_append.mp others
  have nothing {list : List α} (none : ∀ y ∈ list, q y = false) : list.filter q = [] :=
    List.filter_eq_nil_iff.mpr fun y hy => Bool.eq_false_iff.mp (none y hy)
  rw [List.filter_append, List.filter_cons, nothing first, nothing last, List.nil_append]

section
variable {s : State} {counter : Position}

theorem State.moveCounter_of_idle (idle : ∀ x ∈ s.line.queue, reached counter x.position = false) :
    s.moveCounter counter = s.modifyLine fun l => { l with counter := counter } := by
  obtain ⟨gate, stacker⟩ := Line.atDivert_atStack_eq_nil (l := { s.line with counter := counter }) idle
  simp only [State.moveCounter, State.modifyLine_line, gate, stacker, List.foldl_nil]

variable {before after : List Piece} {x : Piece} (queue : s.line.queue = before ++ x :: after)
  (others : ∀ y ∈ before ++ after, reached counter y.position = false) (due : reached counter x.position = true)
include queue others due

/-- A piece alone at the gate is handled there; when it leaves the queue, none is at the stacker. -/
theorem State.moveCounter_of_gate (notDry : x.grade.isDry = false)
    (leaves : let t := (s.modifyLine fun l => { l with counter := counter }).atGate x
      t.line.queue = before ++ after ∧ t.line.counter = counter) :
    s.moveCounter counter = (s.modifyLine fun l => { l with counter := counter }).atGate x := by
  obtain ⟨left, still⟩ := leaves
  have gate : ({ s.line with counter := counter } : Line).atDivert = [x] := by
    rw [Line.atDivert_eq, queue, filter_alone fun y inQueue => by simp [others y inQueue]]
    simp [notDry, due]
  have stacker := (Line.atDivert_atStack_eq_nil (by rwa [left, still])).2
  simp only [State.moveCounter, State.modifyLine_line, gate, List.foldl_cons, List.foldl_nil, stacker]

/-- A DRY piece alone at the stacker is handled there. -/
theorem State.moveCounter_of_stacker (dry : x.grade.isDry = true) :
    s.moveCounter counter = (s.modifyLine fun l => { l with counter := counter }).atStacker x := by
  have gate : ({ s.line with counter := counter } : Line).atDivert = [] := by
    rw [Line.atDivert_eq, queue, filter_alone fun y inQueue => by simp [others y inQueue]]
    simp [dry]
  have stacker : ({ s.line with counter := counter } : Line).atStack = [x] := by
    rw [Line.atStack_eq, queue, filter_alone fun y inQueue => by simp [others y inQueue]]
    simp [dry, due]
  simp only [State.moveCounter, State.modifyLine_line, gate, stacker, List.foldl_cons, List.foldl_nil]

end

/-! ### Leaving the queue (R128, R137) -/

/-- Settling a piece and counting on the line do not touch each other. -/
theorem State.settlePiece_countLine (s : State) (number : Nat) (fate : Fate) (f : LineCounters → LineCounters) :
    (s.settlePiece number fate).countLine f = (s.countLine f).settlePiece number fate := by
  simp only [State.settlePiece, apply_ite (State.countLine · f)]
  rfl

/-- The line without one record of its queue. -/
def Line.without (l : Line) (queue : List Piece) : Line :=
  { l with
    queue := queue, causes := { l.causes with queueHigh := if queue.length < 28 then false else l.causes.queueHigh } }

section
variable {s : State} {before after : List Piece} {x : Piece} (queue : s.line.queue = before ++ x :: after)
  (first : x ∉ before)
include queue first

theorem State.removePiece_eq : s.removePiece x = s.modifyLine fun l => l.without (before ++ after) := by
  have erased : s.line.queue.erase x = before ++ after := by
    rw [queue, List.erase_append_right _ first, List.erase_cons_head]
  by_cases few : (before ++ after).length < 28
  · simp only [State.removePiece, State.removeCause, State.modifyLine, erased, Line.without, Config.queueHigh,
      if_pos few]
    rfl
  · simp only [State.removePiece, State.modifyLine, erased, Line.without, Config.queueHigh, if_neg few]

/-- The line that a record leaves at the gate: it owns neither the capture nor the sample any more (R126, R134). -/
def Line.leftAtGate (l : Line) (queue : List Piece) (sequence : Nat) : Line :=
  { l.without queue with
    capture := { l.capture with owner := disown sequence l.capture.owner },
    sampleOwner := disown sequence l.sampleOwner }

theorem State.removeAtGate_eq :
    s.removeAtGate x = s.modifyLine fun l => l.leftAtGate (before ++ after) x.sequence :=
  State.removePiece_eq (s := s.modifyLine _) queue first

/-! ### The gate (R133 to R135) -/

/-- R134, first row. -/
theorem State.jamPiece_eq :
    s.jamPiece x =
      State.addCause
        (State.settlePiece
          (s.modifyLine fun l =>
            { l.leftAtGate (before ++ after) x.sequence with
              counters := { l.counters with jams := bump l.counters.jams, cleared := bump l.counters.cleared } })
          x.charge .cleared)
        .jam := by
  simp only [State.jamPiece, State.removeAtGate_eq queue first, State.settlePiece_countLine]
  rfl

theorem State.jamPiece_leaves :
    (s.jamPiece x).line.queue = before ++ after ∧ (s.jamPiece x).line.counter = s.line.counter := by
  simp only [State.jamPiece_eq queue first, State.addCause_line, State.settlePiece_frame]
  exact ⟨rfl, rfl⟩

/-- R134, third row: a traced piece with its fate. -/
theorem State.divertPiece_of_fate {fate : Fate} (graded : x.grade.fate = some fate) :
    s.divertPiece x =
      (s.modifyLine fun l =>
        { l.leftAtGate (before ++ after) x.sequence with
          divertPulse := true, counters := l.counters.diverted fate }).settlePiece x.charge fate := by
  simp only [State.divertPiece, graded, State.removeAtGate_eq (s := s.pulseDivert) queue first,
    State.settlePiece_countLine]
  rfl

/-- R134, third row: an UNTRACED piece has none. -/
theorem State.divertPiece_of_untraced (untraced : x.grade = .untraced) :
    s.divertPiece x = s.modifyLine fun l => { l.leftAtGate (before ++ after) x.sequence with divertPulse := true } := by
  simp only [State.divertPiece, untraced, Grade.fate, State.removeAtGate_eq (s := s.pulseDivert) queue first]
  rfl

theorem State.divertPiece_leaves :
    (s.divertPiece x).line.queue = before ++ after ∧ (s.divertPiece x).line.counter = s.line.counter := by
  simp only [State.divertPiece, State.removeAtGate_eq (s := s.pulseDivert) queue first]
  split
  · simp only [State.countLine, State.modifyLine_line, State.settlePiece_frame]
    exact ⟨rfl, rfl⟩
  · exact ⟨rfl, rfl⟩

end

section
variable {s : State} {x : Piece}

theorem State.atGate_of_jammed (jammed : x.trail = none) : s.atGate x = s.jamPiece x := by
  simp only [State.atGate, jammed]

/-- A reading that is not PENDING leaves the record as it is. -/
theorem State.settledAtGate_of_final (final : x.reading ≠ .pending) : s.pieceAtGate x = x ∧ s.settleAtGate x = s := by
  unfold State.pieceAtGate State.settleAtGate
  cases reading : x.reading with
  | pending => exact absurd reading final
  | read mc => exact ⟨rfl, rfl⟩
  | none reason => exact ⟨rfl, rfl⟩

/-- The grade of a piece that leaves through the gate. -/
def Grade.diverts : Grade → Bool
  | .redry | .short | .untraced | .noBay => true
  | .dry _ | .pending => false

theorem State.atGate_of_diverted (traced : x.trail.isSome = true) (diverts : (s.pieceAtGate x).grade.diverts = true) :
    s.atGate x = (s.settleAtGate x).divertPiece (s.pieceAtGate x) := by
  obtain ⟨trail, traced⟩ := Option.isSome_iff_exists.mp traced
  simp only [State.atGate, traced]
  cases grade : (s.pieceAtGate x).grade <;> simp_all [Grade.diverts]

/-- The record whose PENDING reading is settled at the gate (R133, R134). -/
def Piece.settledLate (x : Piece) (length shortLimit : Nat) : Piece :=
  { x with reading := .none .noReply, grade := if length < shortLimit then .short else .redry }

theorem State.pieceAtGate_of_pending {length : Nat} (measured : x.length = some length) (reading : x.reading = .pending)
    (grade : x.grade = .pending) : s.pieceAtGate x = x.settledLate length s.line.config.shortLimit := by
  simp only [State.pieceAtGate, reading, State.gradedAtGate, grade, measured, State.gradeOf, Piece.settledLate]

theorem State.settleAtGate_of_pending {before after : List Piece} (queue : s.line.queue = before ++ x :: after)
    (first : x ∉ before) (reading : x.reading = .pending) :
    s.settleAtGate x =
      s.modifyLine fun l =>
        { l with
          sampleOwner := none, queue := before ++ s.pieceAtGate x :: after,
          counters := { l.counters with noReply := bump l.counters.noReply } } := by
  have replaced : s.line.queue.replace x (s.pieceAtGate x) = before ++ s.pieceAtGate x :: after := by
    rw [queue, List.replace_append_right first, List.replace_cons_self]
  simp only [State.settleAtGate, reading, State.countLine, State.modifyLine, replaced]

end

/-! ### A piece alone at the gate (R134) -/

theorem Grade.not_dry_of_diverts {g : Grade} (diverts : g.diverts = true) : g.isDry = false := by
  cases g <;> simp_all [Grade.diverts, Grade.isDry]

section
variable {s : State} {counter : Position} {before after : List Piece} {x : Piece}
  (queue : s.line.queue = before ++ x :: after)
  (others : ∀ y ∈ before ++ after, reached counter y.position = false)

include others in
/-- A piece at its position is none of those before it. -/
theorem Piece.not_mem_of_due {y : Piece} (due : reached counter y.position = true) : y ∉ before := fun inBefore =>
  absurd due (Bool.eq_false_iff.mp (others y (List.mem_append_left after inBefore)))

variable (due : reached counter x.position = true)
include queue others due

theorem State.moveCounter_of_jammed (notDry : x.grade.isDry = false) (jammed : x.trail = none) :
    s.moveCounter counter = (s.modifyLine fun l => { l with counter := counter }).jamPiece x := by
  have gate := State.atGate_of_jammed (s := s.modifyLine fun l => { l with counter := counter }) jammed
  refine (State.moveCounter_of_gate queue others due notDry ?_).trans gate
  exact gate ▸ State.jamPiece_leaves (s := s.modifyLine _) queue (Piece.not_mem_of_due others due)

theorem State.moveCounter_of_final (traced : x.trail.isSome = true) (final : x.reading ≠ .pending)
    (diverts : x.grade.diverts = true) :
    s.moveCounter counter = (s.modifyLine fun l => { l with counter := counter }).divertPiece x := by
  obtain ⟨piece, state⟩ := State.settledAtGate_of_final (s := s.modifyLine fun l => { l with counter := counter }) final
  have gate := State.atGate_of_diverted traced (piece.symm ▸ diverts)
  rw [piece, state] at gate
  refine (State.moveCounter_of_gate queue others due (Grade.not_dry_of_diverts diverts) ?_).trans gate
  exact gate ▸ State.divertPiece_leaves (s := s.modifyLine _) queue (Piece.not_mem_of_due others due)

/-- R134, second row: the record settled late is the one diverted. -/
theorem State.moveCounter_of_late {length : Nat} (measured : x.length = some length) (traced : x.trail.isSome = true)
    (reading : x.reading = .pending) (grade : x.grade = .pending) :
    let late := x.settledLate length s.line.config.shortLimit
    let settled := s.modifyLine fun l =>
      { l with
        counter := counter, sampleOwner := none, queue := before ++ late :: after,
        counters := { l.counters with noReply := bump l.counters.noReply } }
    late ∉ before ∧ s.moveCounter counter = settled.divertPiece late := by
  intro late settled
  have diverts : late.grade.diverts = true := by
    simp only [late, Piece.settledLate]
    split <;> rfl
  have position : late.position = x.position := by
    rw [Piece.position_of_not_dry (Grade.not_dry_of_diverts diverts), Piece.position_of_not_dry (by rw [grade]; rfl)]
    rfl
  have first : late ∉ before := Piece.not_mem_of_due others (position ▸ due)
  let moved := s.modifyLine fun l => { l with counter := counter }
  have piece : moved.pieceAtGate x = late := State.pieceAtGate_of_pending measured reading grade
  have state : moved.settleAtGate x = settled := by
    rw [State.settleAtGate_of_pending (s := moved) queue (Piece.not_mem_of_due others due) reading, piece]
    rfl
  have gate : moved.atGate x = settled.divertPiece late := by
    rw [State.atGate_of_diverted traced (piece.symm ▸ diverts), piece, state]
  refine ⟨first, (State.moveCounter_of_gate queue others due (by rw [grade]; rfl) ?_).trans gate⟩
  exact gate ▸ State.divertPiece_leaves (s := settled) rfl first

/-- R136: a DRY piece with its reading leaves for its bay. -/
theorem State.moveCounter_of_dry {b : BayNo} (dry : x.grade = .dry b) :
    let moved := s.modifyLine fun l => { l with counter := counter }
    s.moveCounter counter =
      match x.reading with
      | .read mc =>
        ((moved.modifyLine fun l => l.without (before ++ after)).settlePiece x.charge .stacked).stackPiece b x.charge mc
      | _ => moved := by
  intro moved
  have stacker := State.moveCounter_of_stacker queue others due (by rw [dry]; rfl)
  rw [stacker, State.atStacker, dry]
  have removed := State.removePiece_eq (s := moved) queue (Piece.not_mem_of_due others due)
  cases reading : x.reading with
  | read mc => dsimp only; rw [← removed]
  | _ => rfl

end

end Sys2Proof.Machine
end

section
/-! PROOFS. The statement of the family of the planer line on the encoder. -/
open Sys2Proof Sys2Proof.Machine

/-- Settles O48, from which pieces a change of the counter reaches and what a piece leaves behind at the gate and at the
stacker. -/
theorem encoderStepsMoveThePieces : Obligations.EncoderStepsMoveThePieces := by
  unfold Obligations.EncoderStepsMoveThePieces
  refine ⟨fun s forward on => ?step, fun s on => congrArg Host.Outcome.next (State.whenOn_on s (beq_iff_eq.mp on)),
    fun s => ⟨fun on => congrArg Host.Outcome.next (State.whenOn_on s (beq_iff_eq.mp on)), ?divert, ?divertHeld,
      ?stopHeld, ?stop⟩⟩
  case step =>
    intro counter moved move at' idle
    have steps : exec (.encoderStep move) s = .next (s.moveCounter counter) := by
      refine congrArg Host.Outcome.next ((State.whenOn_on s (beq_iff_eq.mp on)).trans ?_)
      cases forward <;> rfl
    have idle_iff (x : Piece) : idle x ↔ reached counter x.position = false := decide_eq_false_iff_not.symm
    rw [steps]
    refine ⟨fun idles => congrArg Host.Outcome.next
      (State.moveCounter_of_idle fun x inQueue => (idle_iff x).mp (idles x inQueue)),
      fun before x after queue others due => ?_⟩
    intro n _ without removed left settled counted diverted
    replace others : ∀ y ∈ before ++ after, reached counter y.position = false :=
      fun y inQueue => (idle_iff y).mp (others y inQueue)
    replace due : reached counter x.position = true := by rwa [idle_iff, Bool.not_eq_false] at due
    have first : x ∉ before := Piece.not_mem_of_due others due
    have movedQueue : moved.line.queue = before ++ x :: after := queue
    have counts (fate : Fate) (c : LineCounters) (t : State) :
        counted c (settled fate t) = (t.countLine fun _ => c).settlePiece x.charge fate :=
      State.settlePiece_countLine t x.charge fate fun _ => c
    simp only [Host.Outcome.next.injEq]
    refine ⟨fun notDry jammed => ?jam, fun traced final => ?final,
      fun length measured traced reading grade => ?late, fun b _ dry => State.moveCounter_of_dry queue others due dry⟩
    case jam =>
      have notDry : x.grade.isDry = false := by
        cases grade : x.grade with
        | dry b => exact absurd grade (notDry b)
        | _ => rfl
      have gate : s.moveCounter counter = moved.jamPiece x := State.moveCounter_of_jammed queue others due notDry jammed
      rw [counts, gate, State.jamPiece_eq movedQueue first]
      rfl
    case final =>
      have gate (diverts : x.grade.diverts = true) : s.moveCounter counter = moved.divertPiece x :=
        State.moveCounter_of_final queue others due traced final diverts
      have fated {fate : Fate} (graded : x.grade.fate = some fate) (diverts : x.grade.diverts = true) :
          s.moveCounter counter = counted (n.diverted fate) (settled fate diverted) := by
        rw [counts, gate diverts, State.divertPiece_of_fate movedQueue first graded]
        rfl
      refine ⟨fun redry => ?_, fun short => ?_, fun noBay => ?_, fun untraced => ?_⟩
      · exact fated (fate := .redry) (by rw [redry]; rfl) (by rw [redry]; rfl)
      · exact fated (fate := .short) (by rw [short]; rfl) (by rw [short]; rfl)
      · exact fated (fate := .noBay) (by rw [noBay]; rfl) (by rw [noBay]; rfl)
      · exact (gate (by rw [untraced]; rfl)).trans (State.divertPiece_of_untraced movedQueue first untraced)
    case late =>
      obtain ⟨first, gate⟩ := State.moveCounter_of_late queue others due measured traced reading grade
      have fated {fate : Fate} (graded : (x.settledLate length s.line.config.shortLimit).grade.fate = some fate) :=
        gate.trans (State.divertPiece_of_fate rfl first graded)
      by_cases short : length < s.line.config.shortLimit
      · rw [if_pos short, counts, fated (fate := .short) (by rw [Piece.settledLate, if_pos short]; rfl)]
        rfl
      · rw [if_neg short, counts, fated (fate := .redry) (by rw [Piece.settledLate, if_neg short]; rfl)]
        rfl
  case divert => intro on; simp [State.divertLevel, on]
  case divertHeld => intro held; simp [State.divertLevel, held]
  case stopHeld => intro held; simp [State.lineStopLevel, held]
  case stop => intro on; simp [State.lineStopLevel, on, CauseSet.isEmpty, CauseSet.has, or_assoc]
end

section
/-!
PROOFS. The places of a pack: which bay is eligible (R145), what a reservation, a stacked piece and a released
reservation make of the pack and its contributors (R144, R146 to R148), and of the bay and the charges with it.
-/
namespace Sys2Proof.Machine

/-! ### A bay set twice -/

@[simp] theorem State.setBay_setBay (s : State) (b : BayNo) (r q : Bay) :
    (s.setBay b r).setBay b q = s.setBay b q := by
  simp only [State.setBay, Vector.set_set]

theorem State.bay_setBay_same (s : State) (b : BayNo) (r : Bay) : (s.setBay b r).bay b = r :=
  (s.bay_setBay b b r).trans (if_pos rfl)

/-! ### Eligible bays (R145) -/

theorem OpenPack.names_iff {p : OpenPack} {charge : Nat} :
    p.names charge = true ↔ ∃ x ∈ p.contributors, x.charge = charge := by
  simp only [OpenPack.names, List.any_eq_true, beq_iff_eq]

section
variable {r : Bay} {c : BayConfig} {length species charge : Nat}

theorem Bay.eligible_of_empty (set : r.config = some c) (empty : r.state = .empty) :
    r.eligible length species charge = decide (c.minimum ≤ length ∧ length ≤ c.maximum) := by
  simp only [Bay.eligible, set, empty, inRange, Bool.and_true, Bool.decide_and]

theorem Bay.eligible_of_opened {p : OpenPack} (set : r.config = some c) (opened : r.state = .opened)
    (holds : r.openPack = some p) :
    r.eligible length species charge =
      decide (c.minimum ≤ length ∧ length ≤ c.maximum ∧ p.species = species ∧ p.stacked + p.reserved < c.target ∧
        ((∃ x ∈ p.contributors, x.charge = charge) ∨ p.contributors.length < 4)) := by
  rw [Bool.eq_iff_iff]
  simp only [Bay.eligible, set, opened, holds, inRange, OpenPack.admits, Bool.and_eq_true, Bool.or_eq_true,
    decide_eq_true_eq, beq_iff_eq, OpenPack.names_iff, and_assoc]
  exact Iff.rfl

theorem Bay.eligible_of_neither (notEmpty : ∀ c, r.config = some c → r.state ≠ .empty)
    (notOpened : ∀ c p, r.config = some c → r.state = .opened → r.openPack ≠ some p) :
    r.eligible length species charge = false := by
  unfold Bay.eligible
  split
  · rfl
  · next c set =>
    split
    · next empty => exact absurd empty (notEmpty c set)
    · next p opened holds => exact absurd holds (notOpened c p set opened)
    · exact Bool.and_false _

end

/-- The lowest-numbered bay of the four. -/
theorem State.chooseBay_eq (s : State) (length species charge : Nat) :
    s.chooseBay length species charge =
      if (s.bay 0).eligible length species charge then some 0
      else if (s.bay 1).eligible length species charge then some 1
      else if (s.bay 2).eligible length species charge then some 2
      else if (s.bay 3).eligible length species charge then some 3 else none := by
  simp only [State.chooseBay, allBays, List.find?_cons, List.find?_nil]
  split_ifs <;> simp only [*]

/-! ### What becomes of the pack -/

section
variable {p : OpenPack} {charge : Nat}

/-- A change of a contributor that the pack does not have. -/
theorem OpenPack.updateBy_of_not_names (f : Contributor → Contributor) (absent : p.names charge = false) :
    updateBy Contributor.charge charge f p.contributors = p.contributors := by
  refine (List.map_congr_left fun x inPack => if_neg fun same => ?_).trans p.contributors.map_id
  exact Bool.false_ne_true (absent.symm.trans (OpenPack.names_iff.mpr ⟨x, inPack, same⟩))

theorem OpenPack.reserve_of_names (joined : p.names charge = true) :
    p.reserve charge =
      { p with
        reserved := p.reserved + 1,
        contributors := updateBy Contributor.charge charge (fun x => { x with reserved := x.reserved + 1 })
          p.contributors } := by
  simp only [OpenPack.reserve, OpenPack.join, joined, if_true, OpenPack.changeContributor]

/-- R146: a charge that joins comes with one place reserved. -/
theorem OpenPack.reserve_of_not_names (absent : p.names charge = false) :
    p.reserve charge =
      { p with reserved := p.reserved + 1, contributors := p.contributors ++ [⟨charge, 0, 1⟩] } := by
  have others := OpenPack.updateBy_of_not_names (fun x => { x with reserved := x.reserved + 1 }) absent
  unfold updateBy at others
  simp only [OpenPack.reserve, OpenPack.join, absent, Bool.false_eq_true, if_false, OpenPack.changeContributor, updateBy,
    List.map_append, List.map_cons, List.map_nil, if_true, others]

theorem OpenPack.stack_eq (mc : Nat) :
    p.stack charge mc =
      { p with
        reserved := p.reserved - 1, stacked := p.stacked + 1, mcSum := p.mcSum + mc,
        mcMax := some (match p.mcMax with | some top => max top mc | none => mc),
        contributors := updateBy Contributor.charge charge
          (fun x => { x with reserved := x.reserved - 1, stacked := x.stacked + 1 }) p.contributors } := by
  unfold OpenPack.stack
  cases p.mcMax <;> rfl

theorem OpenPack.unreserve_eq :
    p.unreserve charge =
      { p with
        reserved := p.reserved - 1,
        contributors := (updateBy Contributor.charge charge (fun x => { x with reserved := x.reserved - 1 })
          p.contributors).filter fun x => x.stacked != 0 || x.reserved != 0 } := by
  simp only [OpenPack.unreserve, OpenPack.dropIdle, OpenPack.changeContributor, Bool.not_and, bne]

end

/-! ### What becomes of the bay -/

section
variable {s : State} {b : BayNo} {p : OpenPack} {species charge : Nat}

theorem Bay.packFor_of_empty {r : Bay} (empty : r.state = .empty) : r.packFor species = .begun species := by
  simp only [Bay.packFor, empty]

theorem Bay.packFor_of_opened {r : Bay} (opened : r.state = .opened) (holds : r.openPack = some p) :
    r.packFor species = p := by
  simp only [Bay.packFor, opened, holds]

/-- R146, for the pack that the reservation is made in. -/
theorem State.reservePlace_of_packFor (pack : (s.bay b).packFor species = p) :
    s.reservePlace b species charge =
      (if p.names charge then s else s.addReference charge).setBay b
        { s.bay b with state := .opened, openPack := some (p.reserve charge) } := by
  simp only [State.reservePlace, pack]
  split_ifs <;> rfl

/-- R147: after the piece is counted, an OPEN bay's pack closes at its target and a CLOSING one's at the last
reservation. -/
theorem State.stackPiece_of_pack {c : BayConfig} (mc : Nat) (holds : (s.bay b).openPack = some p)
    (set : (s.bay b).config = some c) :
    s.stackPiece b charge mc =
      let after := s.setBay b { s.bay b with openPack := some (p.stack charge mc) }
      if ((s.bay b).state = .opened ∧ c.target ≤ (p.stack charge mc).stacked) ∨
          ((s.bay b).state = .closing ∧ (p.stack charge mc).reserved = 0) then
        after.closePack b
      else after := by
  simp only [State.stackPiece, holds, State.modifyBay, State.bay_setBay_same, Bay.target, set]
  cases (s.bay b).state <;> simp

/-- The state after a released reservation took the last place of a charge in a pack, whose reference it drops (R148). -/
def State.leftPack (s : State) (p : OpenPack) (charge : Nat) : State :=
  if p.names charge && !(p.unreserve charge).names charge then s.dropReference charge else s

/-- R148: after the reservation is taken back, an OPEN bay with nothing in its pack is EMPTY and a CLOSING one's pack
closes at the last reservation. -/
theorem State.releasePlace_of_pack (holds : (s.bay b).openPack = some p) :
    s.releasePlace b charge =
      if (s.bay b).state = .opened ∧ (p.unreserve charge).stacked = 0 ∧ (p.unreserve charge).reserved = 0 then
        (s.leftPack p charge).setBay b { s.bay b with state := .empty, openPack := none }
      else
        let after := (s.leftPack p charge).setBay b { s.bay b with openPack := some (p.unreserve charge) }
        if (s.bay b).state = .closing ∧ (p.unreserve charge).reserved = 0 then after.closePack b else after := by
  have left (r : Bay) :
      (if p.names charge && !(p.unreserve charge).names charge then (s.setBay b r).dropReference charge
        else s.setBay b r) = (s.leftPack p charge).setBay b r := by
    unfold State.leftPack
    split_ifs <;> rfl
  simp only [State.releasePlace, holds, State.modifyBay, left, State.bay_setBay_same, State.setBay_setBay]
  cases (s.bay b).state <;> simp

end

end Sys2Proof.Machine
end

section
/-! PROOFS. The statement of the family of packs and labels on the places of a pack. -/
open Sys2Proof Sys2Proof.Machine

/-- Settles O51, from the eligibility of a bay in each of its states, and from what reserving, stacking and releasing
make of the pack and of the bay that holds it. -/
theorem piecesFillTheirPacks : Obligations.PiecesFillTheirPacks := by
  unfold Obligations.PiecesFillTheirPacks
  intro s b length species charge mc eligible
  refine ⟨?choose, fun empty => ?begin, fun p holds => ⟨fun opened => ?reserve, fun c set => ?stack, ?release⟩⟩
  case choose =>
    have same (d : BayNo) : (s.bay d).eligible length species charge = eligible d := by
      unfold eligible
      split
      · next c set empty => exact Bay.eligible_of_empty set empty
      · next c p set opened holds => exact Bay.eligible_of_opened set opened holds
      · next notEmpty notOpened => exact Bay.eligible_of_neither notEmpty notOpened
    simp only [← same]
    exact State.chooseBay_eq ..
  case begin =>
    rw [State.reservePlace_of_packFor (Bay.packFor_of_empty empty), OpenPack.reserve_of_not_names rfl]
    rfl
  case reserve =>
    rw [State.reservePlace_of_packFor (Bay.packFor_of_opened opened holds)]
    cases joined : p.names charge with
    | true =>
      rw [OpenPack.reserve_of_names joined, ← opened]
      exact (if_pos joined).symm
    | false =>
      rw [OpenPack.reserve_of_not_names joined, ← opened]
      exact (if_neg (ne_true_of_eq_false joined)).symm
  case stack =>
    rw [State.stackPiece_of_pack mc holds set, OpenPack.stack_eq]
    rfl
  case release =>
    rw [State.releasePlace_of_pack holds, State.leftPack, OpenPack.unreserve_eq]
    rfl
end

section
/-!
PROOFS. The requests on closed records and on the label timeout: how a record is named, what the pack builder and the
label unit answer (R155, R159, R160), what becomes of a bay, of the label queue and of a freed place (R154, R155, R159),
and how the job at the head is started (R156).
-/
namespace Sys2Proof.Machine

/-! ### Naming a record (R159) -/

theorem inRange_iff {lo hi n : Nat} : inRange lo hi n = true ↔ lo ≤ n ∧ n ≤ hi := by
  simp only [inRange, Bool.and_eq_true, decide_eq_true_eq]

section
variable {s : State} {serial : Nat}

theorem State.namedPack_outOfRange (bad : serial < 1 ∨ 999999 < serial) :
    s.namedPack serial = .error .outOfRange := by
  have outside : ¬inRange 1 999999 serial = true := by rw [inRange_iff]; omega
  simp only [State.namedPack, outside, Bool.not_false, if_true]

theorem State.namedPack_of_inRange (low : 1 ≤ serial) (high : serial ≤ 999999) :
    s.namedPack serial = (s.pack serial).elim (.error .notFound) .ok := by
  simp only [State.namedPack, inRange_iff.mpr ⟨low, high⟩, Bool.not_true, Bool.false_eq_true, if_false]
  cases s.pack serial <;> rfl

/-- A record is named by the closed pack list alone. -/
theorem State.holdRequest_namedPack (kind : Octet) (request : Option Instr) (answered : Bool) :
    (s.holdRequest kind request answered).namedPack serial = s.namedPack serial := rfl

end

theorem LabelState.isFault_iff {label : LabelState} :
    label.isFault = true ↔ label ≠ .queued ∧ label ≠ .printing ∧ label ≠ .confirmed ∧ label ≠ .void := by
  cases label <;> simp [LabelState.isFault]

theorem LabelState.settled_iff {label : LabelState} : label.settled = true ↔ label = .confirmed ∨ label = .void := by
  cases label <;> simp [LabelState.settled]

section
variable (s : State)

/-! ### The bay of a voided label (R159) -/

theorem State.foldl_dropReference (contributors : List (Nat × Nat)) :
    contributors.foldl (fun (t : State) x => t.dropReference x.1) s =
      { s with
        charges := contributors.foldl
          (fun table (x : Nat × Nat) => updateBy Charge.number x.1
            (fun (c : Charge) => { c with openPackRefs := c.openPackRefs - 1 }) table) s.charges } := by
  induction contributors generalizing s with
  | nil => rfl
  | cons x rest ih => exact ih _

theorem State.freeBay_eq (r : PackRecord) :
    s.freeBay r =
      { s with
        charges := r.contributors.foldl
          (fun table (x : Nat × Nat) => updateBy Charge.number x.1
            (fun (c : Charge) => { c with openPackRefs := c.openPackRefs - 1 }) table) s.charges }.setBay r.bay
        { s.bay r.bay with state := .empty } :=
  State.foldl_dropReference _ _

/-! ### The label queue (R155) -/

theorem State.appendJob_eq (serial : Nat) :
    s.appendJob serial =
      let queued :=
        { s with
          label := { s.label with
                     jobs := s.label.jobs ++ [serial],
                     phase := if s.label.jobs = [] then some .unstarted else s.label.phase } }
      if s.label.jobs = [] then queued.startCurrent else queued := by
  simp only [State.appendJob, State.modifyLabel, LabelUnit.append, List.isEmpty_iff]

theorem State.reprintLabel_eq (r : PackRecord) :
    s.reprintLabel r =
      let queued :=
        { s with
          packs := updateBy PackRecord.serial r.serial (fun x => { x with label := .queued, scanBack := none }) s.packs,
          label := { s.label with
                     jobs := s.label.jobs ++ [r.serial],
                     phase := if s.label.jobs = [] then some .unstarted else s.label.phase } }.setBay r.bay
          { s.bay r.bay with state := .labelling }
      if s.label.jobs = [] then queued.startCurrent else queued := by
  rw [State.reprintLabel, State.appendJob_eq]
  rfl

/-! ### Beside the link

The works of COLLECT-PACK and REPRINT read and change nothing of the link, where the request is held. -/

section
variable (g : Link → Link)

theorem State.givePlace_modifyLink (b : BayNo) : (s.modifyLink g).givePlace b = (s.givePlace b).modifyLink g := by
  have written (p : OpenPack) : (s.modifyLink g).writeRecord b p = (s.writeRecord b p).modifyLink g :=
    s.writeRecord_modifyLineLink id g b p
  have bay : (s.modifyLink g).bay b = s.bay b := rfl
  have packs : (s.modifyLink g).packs = s.packs := rfl
  simp only [State.givePlace, bay, packs, written]
  split
  · rw [apply_ite (State.modifyLink · g)]
  · rfl

theorem State.giveFreedPlace_modifyLink : (s.modifyLink g).giveFreedPlace = s.giveFreedPlace.modifyLink g := by
  have given : allBays.foldl State.givePlace (s.modifyLink g) = (allBays.foldl State.givePlace s).modifyLink g :=
    List.foldl_hom (State.modifyLink · g) fun t b => t.givePlace_modifyLink g b
  have waits (t : State) : (t.modifyLink g).someBayWaits = t.someBayWaits := rfl
  have removed (t : State) :
      (t.modifyLink g).removeCause .recordsFull = (t.removeCause .recordsFull).modifyLink g := rfl
  simp only [State.giveFreedPlace, given, waits, removed, apply_ite (State.modifyLink · g)]

theorem State.reprintLabel_modifyLink (r : PackRecord) :
    (s.modifyLink g).reprintLabel r = (s.reprintLabel r).modifyLink g :=
  State.appendJob_modifyLineLink
    ((s.modifyPack r.serial fun r => { r with label := .queued, scanBack := none }).modifyBay r.bay
      fun b => { b with state := .labelling }) id g r.serial

end

end

theorem State.holdRequest_giveFreedPlace (s : State) (kind : Octet) (request : Option Instr) (answered : Bool) :
    (s.holdRequest kind request answered).giveFreedPlace = s.giveFreedPlace.holdRequest kind request answered :=
  s.giveFreedPlace_modifyLink _

theorem State.holdRequest_reprintLabel (s : State) (kind : Octet) (request : Option Instr) (answered : Bool)
    (r : PackRecord) :
    (s.holdRequest kind request answered).reprintLabel r = (s.reprintLabel r).holdRequest kind request answered :=
  s.reprintLabel_modifyLink _ r

/-! ### Starting the job at the head (R156) -/

section
variable {s : State} {r : PackRecord}

theorem State.startCurrent_of_outstanding (outstanding : s.label.outstanding.isSome = true) : s.startCurrent = s := by
  unfold State.startCurrent
  split
  · next _ absent _ _ => simp [absent] at outstanding
  · rfl

theorem State.startCurrent_of_not_taken (answer : s.labelAnswer ≠ .taken) : s.startCurrent = s := by
  unfold State.startCurrent
  split
  · next _ _ _ taken => exact absurd taken answer
  · rfl

theorem State.startCurrent_of_taken (unstarted : s.label.phase = some .unstarted)
    (idle : s.label.outstanding = none) (current : s.currentRecord = some r) (answer : s.labelAnswer = .taken) :
    s.startCurrent =
      { s with
        label := { s.label with
                   phase := some .print, timeout := some (s.label.timeoutSetting * 1000),
                   outstanding := some { status := false, stale := false } } }.askPort 7
        { command := .labelPrint, data := r.labelContent } := by
  have again (f : LabelUnit → LabelUnit) : (s.modifyLabel f).labelAnswer = .taken := answer
  simp only [State.startCurrent, unstarted, idle, current, answer, State.askPrint, again]
  rfl

theorem State.labelAnswer_taken_iff :
    s.labelAnswer = .taken ↔
      ¬((s.port 7).state ≠ .up ∨ (s.port 7).waiting.isSome ∨ (∃ e ∈ (s.port 7).exchange, e.command ≠ .identify)) := by
  have label : labelPort = 7 := rfl
  rw [State.labelAnswer, label, PortRecord.answerTo_eq]
  split_ifs with notUp busy
  · exact iff_of_false nofun (not_not_intro (.inl notUp))
  · exact iff_of_false nofun (not_not_intro (.inr busy))
  · exact iff_of_true rfl (not_or.mpr ⟨notUp, busy⟩)

/-- R156: the current job starts with port 8 taking its LABEL-PRINT while none is outstanding, and waits otherwise. -/
theorem State.startCurrent_of_unstarted (unstarted : s.label.phase = some .unstarted)
    (current : s.currentRecord = some r) :
    s.startCurrent =
      if s.label.outstanding.isSome ∨ (s.port 7).state ≠ .up ∨ (s.port 7).waiting.isSome ∨
          (∃ e ∈ (s.port 7).exchange, e.command ≠ .identify) then s
      else
        { s with
          label := { s.label with
                     phase := some .print, timeout := some (s.label.timeoutSetting * 1000),
                     outstanding := some { status := false, stale := false } } }.askPort 7
          { command := .labelPrint, data := r.labelContent } := by
  split_ifs with waits
  · obtain outstanding | port := waits
    · exact State.startCurrent_of_outstanding outstanding
    · exact State.startCurrent_of_not_taken fun taken => State.labelAnswer_taken_iff.mp taken port
  · obtain ⟨idle, port⟩ := not_or.mp waits
    exact State.startCurrent_of_taken unstarted (Option.not_isSome_iff_eq_none.mp idle) current
      (State.labelAnswer_taken_iff.mpr port)

end

/-! ### The requests (R155, R159, R160) -/

section
variable {s : State} {i : Instr} {owner : State → Answer} (taken : s.takes i = true)
include taken

/-- A request whose owner performs it under a condition and refuses it otherwise. -/
theorem hostRequest_eq_ite {c : Prop} [Decidable c] {content : List Octet} {work : State} {status : Status}
    (answer : owner (s.holdRequest (requestKind i) (some i) true) =
      if c then .ok content (work.holdRequest (requestKind i) (some i) true) else .refuse status) :
    hostRequest i owner s = if c then work.okReply i content else s.refusal i status := by
  split_ifs at answer ⊢
  · exact hostRequest_eq_okReply taken answer
  · exact hostRequest_eq_refusal taken answer

theorem hostRequest_of_namedPack_error {serial : Nat} {status : Status} (named : s.namedPack serial = .error status)
    (refuses : ∀ t : State, t.namedPack serial = .error status → owner t = .refuse status) :
    hostRequest i owner s = s.refusal i status :=
  hostRequest_eq_refusal taken (refuses _ named)

end

section
variable {s : State} {serial : Nat} {r : PackRecord}

theorem exec_labelConfig_of_takes {seconds : Nat} (taken : s.takes (.labelConfig seconds) = true) :
    exec (.labelConfig seconds) s =
      .next (if 5 ≤ seconds ∧ seconds ≤ 120 then
        (s.modifyLabel fun l => { l with timeoutSetting := seconds }).okReply (.labelConfig seconds) []
      else s.refusal (.labelConfig seconds) .outOfRange) := by
  refine congrArg Host.Outcome.next (hostRequest_eq_ite taken ?_)
  simp only [labelConfigAnswer, inRange_iff]
  rfl

/-- The four requests that name a record are refused alike when there is none (R159, R160). -/
theorem exec_of_namedPack_error {status : Status} (named : s.namedPack serial = .error status) {i : Instr}
    (request : i ∈ [Instr.readPack serial, .collectPack serial, .reprint serial, .voidLabel serial])
    (taken : s.takes i = true) : exec i s = .next (s.refusal i status) := by
  simp only [List.mem_cons, List.not_mem_nil, or_false] at request
  obtain rfl | rfl | rfl | rfl := request <;>
    refine congrArg Host.Outcome.next (hostRequest_of_namedPack_error taken named fun t named => ?_)
  · simp only [readPackAnswer, named]
  · simp only [collectPackAnswer, named]
  · simp only [reprintAnswer, named]
  · simp only [voidLabelAnswer, named]

section
variable (named : s.namedPack serial = .ok r)
include named

theorem exec_readPack_of_named (taken : s.takes (.readPack serial) = true) :
    exec (.readPack serial) s = .next (s.okReply (.readPack serial) r.octets) := by
  refine congrArg Host.Outcome.next (hostRequest_eq_okReply taken ?_)
  simp only [readPackAnswer, State.holdRequest_namedPack, named]

theorem exec_collectPack_of_named (taken : s.takes (.collectPack serial) = true) :
    exec (.collectPack serial) s =
      .next (if r.label = .confirmed ∨ r.label = .void then
        { s with packs := eraseBy PackRecord.serial serial s.packs }.giveFreedPlace.okReply (.collectPack serial) r.octets
      else s.refusal (.collectPack serial) .wrongState) := by
  refine congrArg Host.Outcome.next (hostRequest_eq_ite taken ?_)
  simp only [collectPackAnswer, State.holdRequest_namedPack, named, LabelState.settled_iff]
  split_ifs
  · exact congrArg (Answer.ok _)
      (State.holdRequest_giveFreedPlace { s with packs := eraseBy PackRecord.serial serial s.packs } _ _ _)
  · rfl

theorem exec_voidLabel_of_named (taken : s.takes (.voidLabel serial) = true) :
    exec (.voidLabel serial) s =
      .next (if r.label ≠ .queued ∧ r.label ≠ .printing ∧ r.label ≠ .confirmed ∧ r.label ≠ .void then
        ((s.modifyPack serial fun x => { x with label := .void }).freeBay r).okReply (.voidLabel serial) []
      else s.refusal (.voidLabel serial) .wrongState) := by
  refine congrArg Host.Outcome.next (hostRequest_eq_ite taken ?_)
  simp only [voidLabelAnswer, State.holdRequest_namedPack, named, LabelState.isFault_iff, State.freeBay_eq]
  rfl

theorem exec_reprint_of_named (taken : s.takes (.reprint serial) = true) :
    exec (.reprint serial) s =
      .next (if r.label ≠ .queued ∧ r.label ≠ .printing ∧ r.label ≠ .confirmed ∧ r.label ≠ .void then
        (s.reprintLabel r).okReply (.reprint serial) []
      else s.refusal (.reprint serial) .wrongState) := by
  refine congrArg Host.Outcome.next (hostRequest_eq_ite taken ?_)
  simp only [reprintAnswer, State.holdRequest_namedPack, named, LabelState.isFault_iff, State.holdRequest_reprintLabel]

end

end

end Sys2Proof.Machine
end

section
/-! PROOFS. The statement of the family of packs and labels on the requests on closed records. -/
open Sys2Proof Sys2Proof.Machine

/-- Settles O53, from the record that a request names, the owner's answer on it, and the start of the job at the head. -/
theorem packRequestsAnswer : Obligations.PackRequestsAnswer := by
  unfold Obligations.PackRequestsAnswer
  refine fun s serial seconds => ⟨fun taken => ?list, exec_labelConfig_of_takes, fun i request taken =>
    ⟨fun bad => ?outOfRange, fun low high absent => ?notFound⟩, fun r found low high => ?found⟩
  case list => exact congrArg Host.Outcome.next (hostRequest_eq_okReply taken rfl)
  case outOfRange => exact exec_of_namedPack_error (State.namedPack_outOfRange bad) request taken
  case notFound =>
    have named : s.namedPack serial = .error .notFound := by
      rw [State.namedPack_of_inRange low high, absent, Option.elim_none]
    exact exec_of_namedPack_error named request taken
  case found =>
    have named : s.namedPack serial = .ok r := by
      rw [State.namedPack_of_inRange low high, found, Option.elim_some]
    have key : r.serial = serial := (findBy_some PackRecord.serial found).1
    refine ⟨exec_readPack_of_named named, exec_collectPack_of_named named, fun taken => ?void, fun taken => ?reprint,
      fun unstarted head => State.startCurrent_of_unstarted unstarted ?current⟩
    case void =>
      rw [exec_voidLabel_of_named named taken, State.freeBay_eq]
      rfl
    case reprint =>
      rw [exec_reprint_of_named named taken, State.reprintLabel_eq, key]
      rfl
    case current => simp only [State.currentRecord, head, found]
end

section
/-!
PROOFS. The end of a reply on the supervisory link: what the last octet sent makes of the queue of frames, of the input
buffer and of the refusal slot (R185 to R187, log entry 29).
-/
namespace Sys2Proof.Machine

section
variable {s : State} {straps : Straps} {frame : SendFrame} {rest : List SendFrame}

/-! ### The events of the running part -/

theorem exec_replySent_of_isOn (on : s.isOn = true) : exec (.replySent straps) s = .next (s.replyDone straps) :=
  congrArg Host.Outcome.next (State.whenOn_on s (eq_of_beq on))

theorem exec_busyReplySent_of_isOn (on : s.isOn = true) : exec .busyReplySent s = .next s.busyDone :=
  congrArg Host.Outcome.next (State.whenOn_on s (eq_of_beq on))

/-! ### The oldest frame sent -/

variable (oldest : s.link.sending = frame :: rest)
include oldest

theorem State.popFrame_of_cons : s.popFrame = { s with link := { s.link with sending := rest } } := by
  simp only [State.popFrame, State.modifyLink, oldest, List.tail_cons]

theorem State.replyDone_of_cons :
    s.replyDone straps =
      if frame.busy = true then s
      else if s.link.restarting = true then s.resetKept straps
      else { s with link := { s.link with sending := rest, buffer := none } } := by
  simp only [State.replyDone, oldest, State.popFrame_of_cons oldest, State.modifyLink]

theorem State.busyDone_of_cons :
    s.busyDone = if frame.busy = true then { s with link := { s.link with sending := rest } } else s := by
  simp only [State.busyDone, oldest, State.popFrame_of_cons oldest]

end

end Sys2Proof.Machine
end

section
/-! PROOFS. The statement of the family of the supervisory link on the end of a reply. -/
open Sys2Proof Sys2Proof.Machine

/-- Settles O11, from what each of the two events makes of the oldest frame, by whether that frame is a BUSY reply. -/
theorem sentRepliesFreeTheirPlace : Obligations.SentRepliesFreeTheirPlace := by
  unfold Obligations.SentRepliesFreeTheirPlace
  intro s straps frame rest on oldest
  rw [exec_replySent_of_isOn on, exec_busyReplySent_of_isOn on, State.replyDone_of_cons oldest,
    State.busyDone_of_cons oldest]
  refine ⟨fun reply staying => ?emptied, fun busy => ?notItsReply, fun busy => ?freed, fun reply => ?notItsBusy⟩
  case emptied => rw [if_neg (ne_true_of_eq_false reply), if_neg (ne_true_of_eq_false staying)]
  case notItsReply => rw [if_pos busy]
  case freed => rw [if_pos busy]
  case notItsBusy => rw [if_neg (ne_true_of_eq_false reply)]
end

section
/-!
PROOFS. What a command can do to the state beside the link's passage of a request, said once: the works of the owners
and of the events, each with the checks that were passed before it.
-/
namespace Sys2Proof.Machine

/-- `Work i s t`: command i, taken in s, may leave t, but for the composing of a request's reply. -/
inductive Work : Instr → State → State → Prop where
  | nothing (i : Instr) (s : State) : Work i s s
  | clearCounters (subject choice : Nat) (x : CounterSubject) (s : State) :
      Work (.readCounters subject choice) s (s.clearCounters x)
  | takeContinue (s : State) (taken : s.link.buffer = none ∨ s.link.awaits .continueReply = true) :
      Work .continueReply s s.takeContinue
  | refuseContinue (s : State) (held : s.link.buffer ≠ none) : Work .continueReply s (s.refuseBusy 0x04)
  | putSpecies (code kT packLimit : Nat) (curve : List (Nat × Nat)) (check : Nat) (s : State)
      (room : (s.speciesEntry code).isSome = true ∨ s.species.length < 12) :
      Work (.writeSpecies code kT packLimit curve) s (s.putSpecies ⟨code, kT, packLimit, curve, check⟩)
  | eraseSpecies (code : Nat) (s : State) :
      Work (.deleteSpecies code) s { s with species := eraseBy SpeciesEntry.code code s.species }
  | putSchedule (id count : Nat) (fields : List StepFields) (place : Fin 8) (steps : List Step) (check : Nat) (s : State)
      (valid : stepsOf fields = some steps) :
      Work (.writeSchedule id count fields) s (s.setSchedule place (some ⟨steps, check⟩))
  | eraseSchedule (id : Nat) (place : Fin 8) (s : State) : Work (.deleteSchedule id) s (s.setSchedule place none)
  | clearInfeed (number : Nat) (s : State) : Work (.setInfeed number) s s.clearInfeed
  | moveInfeed (number : Nat) (s : State) :
      Work (.setInfeed number) s (s.clearInfeed.modifyCharge number fun c => { c with state := .infeed })
  | closeCharge (number : Nat) (s : State) :
      Work (.closeCharge number) s { s with charges := eraseBy Charge.number number s.charges }
  | load (kiln species id : Nat) (k : KilnNo) (e : SpeciesEntry) (x : Schedule) (s : State)
      (empty : (s.kiln k).state = .empty) (found : s.schedule id = some x) (room : s.charges.length < 16) :
      Work (.load kiln species id) s (s.loadKiln k e id x)
  | start (kiln : Nat) (k : KilnNo) (s : State) (loaded : (s.kiln k).state = .loaded) :
      Work (.start kiln) s ((s.modifyKiln k fun r => r.started (s.firstStep k)).writeSnapshot k)
  | hold (kiln : Nat) (k : KilnNo) (s : State) (occupied : (s.kiln k).state ≠ .empty) :
      Work (.hold kiln) s (s.setHolds k { (s.kiln k).holds with host := true })
  | releaseOvertime (kiln reason : Nat) (k : KilnNo) (s : State) (occupied : (s.kiln k).state ≠ .empty) :
      Work (.release kiln reason) s (s.releaseOvertime k)
  | releaseHost (kiln reason : Nat) (k : KilnNo) (s : State) (occupied : (s.kiln k).state ≠ .empty) :
      Work (.release kiln reason) s (s.releaseHost k)
  | skip (kiln : Nat) (k : KilnNo) (s : State) (going : (s.kiln k).state = .running ∨ (s.kiln k).state = .held) :
      Work (.skip kiln) s (s.advanceStep k false)
  | unload (kiln : Nat) (k : KilnNo) (s : State) : Work (.unload kiln) s (s.unloadKiln k)
  | abandon (kiln : Nat) (k : KilnNo) (s : State) : Work (.abandon kiln) s (s.unloadKiln k)
  | resume (kiln : Nat) (k : KilnNo) (s : State) (recovering : (s.kiln k).state = .recovery) :
      Work (.resume kiln) s ((s.modifyKiln k KilnRecord.resumed).writeSnapshot k)
  | kilnConfig (kiln si ci wet probes learning role loss jump shift : Nat) (k : KilnNo) (c : KilnConfig) (s : State) :
      Work (.kilnConfig kiln si ci wet probes learning role loss jump shift) s
        (s.modifyKiln k fun r => { r with config := c })
  | enablePort (port window limit auto retry : Nat) (p : PortNo) (yes again : Bool) (s : State)
      (low : 2 ≤ limit) (high : limit ≤ 10) (notEstablishing : (s.port p).state ≠ .establishing)
      (notUp : (s.port p).state ≠ .up) :
      Work (.enablePort port window limit auto retry) s (s.modifyPort p fun r => r.enabled window limit yes again)
  | disablePort (port : Nat) (p : PortNo) (s : State) : Work (.disablePort port) s (s.disable p)
  | assign (serial kiln role tag : Nat) (a : Assignment) (s : State) (key : a.serial = serial)
      (room : (s.assignment serial).isSome = true ∨ s.assignments.length < 48) :
      Work (.assignProbe serial kiln role tag) s { s with assignments := insertBy Assignment.serial a s.assignments }
  | unassign (serial : Nat) (s : State) :
      Work (.unassignProbe serial) s { s with assignments := eraseBy Assignment.serial serial s.assignments }
  | chooseFullScan (kiln choice : Nat) (k : KilnNo) (full : Bool) (s : State) :
      Work (.sweepNow kiln choice) s (s.chooseFullScan k full)
  | sweepNow (kiln choice : Nat) (k : KilnNo) (full : Bool) (s : State) :
      Work (.sweepNow kiln choice) s ((s.chooseFullScan k full).planSweep k)
  | emptyEvents (kiln : Nat) (k : KilnNo) (s : State) :
      Work (.readProbes kiln) s (s.modifySweep k fun r => { r with events := .empty })
  | forget (serial : Nat) (e : PresenceEntry) (s : State) (found : s.presenceOf serial = some e) :
      Work (.forgetProbe serial) s (s.forgetEntry e)
  | configureLine (counts divert stack short polarity glitch : Nat) (c : LineConfig) (s : State) :
      Work (.lineConfig counts divert stack short polarity glitch) s (s.modifyLine fun l => l.configure c)
  | clearLine (s : State) : Work .lineClear s s.clearLine
  | configureBay (bay enabled lo hi nominal target : Nat) (b : BayNo) (c : BayConfig) (s : State) :
      Work (.bayConfig bay enabled lo hi nominal target) s
        (s.modifyBay b fun x => { x with config := some c, state := if c.enabled then .empty else .disabled })
  | beginClosing (bay : Nat) (b : BayNo) (s : State) : Work (.closePack bay) s (s.beginClosing b)
  | reprint (serial : Nat) (r : PackRecord) (s : State) : Work (.reprint serial) s (s.reprintLabel r)
  | voidLabel (serial : Nat) (r : PackRecord) (s : State) :
      Work (.voidLabel serial) s ((s.modifyPack serial fun r => { r with label := .void }).freeBay r)
  | collect (serial : Nat) (s : State) :
      Work (.collectPack serial) s
        { s with packs := eraseBy PackRecord.serial serial s.packs }.giveFreedPlace
  | labelConfig (timeout : Nat) (s : State) :
      Work (.labelConfig timeout) s (s.modifyLabel fun l => { l with timeoutSetting := timeout })
  | setClock (year month day hour minute second : Nat) (t : DateTime) (s : State) :
      Work (.setClock year month day hour minute second) s (s.setClock t true)
  | takeNotice (c : NoticeClass) (s : State) : Work .takeNotice s (s.modifyNotices fun n => n.emptied c)
  | setMasks (choices : List Nat) (m : Masks) (s : State) :
      Work (.setMasks choices) s (s.modifyNotices fun n => { n with masks := m })
  | receiveLinkOctet (octet : Octet) (error : Bool) (s : State) :
      Work (.linkOctetReceived octet error) s (s.receiveLinkOctet octet error)
  | linkSilence (s : State) : Work .linkSilenceExpiry s s.linkSilence
  | replyDone (straps : Straps) (s : State) : Work (.replySent straps) s (s.replyDone straps)
  | busyDone (s : State) : Work .busyReplySent s s.busyDone
  | powerOn (straps : Straps) (s : State) : Work (.powerOn straps) s (s.powerOnReset straps)
  | resetPin (edge : ResetEdge) (straps : Straps) (s : State) : Work (.resetPin edge straps) s (s.moveResetPin edge straps)
  | powerFail (s : State) : Work .powerFail s (s.stilled .off)
  | loseKeepLevel (s : State) : Work .keepLevelLoss s s.loseKeepLevel
  | minute (k : KilnNo) (s : State) : Work (.minuteEvent k) s ((s.deliverMinute k).kilnMinute k)
  | clockSecond (s : State) : Work .clockSecond s s.advanceClock
  | requestSent (p : PortNo) (s : State) : Work (.fieldRequestSent p) s (s.requestSent p)
  | windowOver (p : PortNo) (s : State) : Work (.replyWindowExpiry p) s (s.windowOver p)
  | receiveFieldOctet (p : PortNo) (octet : Octet) (error : Bool) (s : State) :
      Work (.fieldOctetReceived p octet error) s (s.receiveFieldOctet p octet error)
  | octetSilence (p : PortNo) (s : State) : Work (.fieldOctetSilence p) s (s.octetSilence p)
  | silentWaitOver (p : PortNo) (s : State) : Work (.fieldSilentWaitExpiry p) s (s.silentWaitOver p)
  | lineFault (p : PortNo) (s : State) : Work (.lineFault p) s (s.takeLineFault p)
  | endWakePulse (p : PortNo) (s : State) : Work (.wakePulseEnd p) s (s.modifyPort p PortRecord.endWakePulse)
  | endWakeWait (p : PortNo) (s : State) : Work (.wakeWaitExpiry p) s (s.modifyPort p PortRecord.endWakeWait)
  | endAttemptGap (p : PortNo) (s : State) : Work (.attemptGapExpiry p) s (s.modifyPort p PortRecord.endAttemptGap)
  | endAutoretry (p : PortNo) (s : State) : Work (.autoretryExpiry p) s (s.modifyPort p PortRecord.endAutoretry)
  | endReestablish (p : PortNo) (s : State) : Work (.reestablishExpiry p) s (s.modifyPort p PortRecord.endReestablish)
  | controllerIntervalOver (k : KilnNo) (s : State) :
      Work (.controllerIntervalExpiry k) s (s.controllerIntervalOver k)
  | idleWaitOver (p : PortNo) (s : State) : Work (.idleWaitExpiry p) s (s.idleWaitOver p)
  | controllerLost (k : KilnNo) (s : State) :
      Work (.controllerLost k) s ((s.takeReport (.controllerLost k)).takeControllerLost k)
  | kilnPortUp (k : KilnNo) (s : State) : Work (.kilnPortUp k) s ((s.takeReport (.kilnPortUp k)).takeKilnPortUp k)
  | probePortUp (k : KilnNo) (s : State) : Work (.probePortUp k) s ((s.takeReport (.probePortUp k)).probePortUp k)
  | probePortLeftUp (k : KilnNo) (s : State) :
      Work (.probePortLeftUp k) s ((s.takeReport (.probePortLeftUp k)).probePortLeftUp k)
  | sweepIntervalOver (k : KilnNo) (s : State) : Work (.sweepIntervalExpiry k) s (s.sweepIntervalOver k)
  | encoderMoves (move : EncoderMove) (s : State) : Work (.encoderStep move) s (s.encoderMoves move)
  | changeEye (level : Bool) (s : State) : Work (.eyeChange level) s (s.changeEye level)
  | moveEyePin (level : Bool) (s : State) : Work (.eyeChange level) s (s.modifyLine fun l => { l with eyePin := level })
  | eyeFilterOver (s : State) : Work .eyeFilterExpiry s s.eyeFilterOver
  | meterPortLost (s : State) : Work .meterPortLeftUp s (s.takeReport .meterPortLeftUp).meterPortLost
  | endDivertPulse (s : State) : Work .divertPulseExpiry s (s.modifyLine fun l => { l with divertPulse := false })
  | labelPauseOver (s : State) : Work .labelPauseExpiry s s.labelPauseOver
  | labelTimeoutOver (s : State) :
      Work .labelTimeoutExpiry s ((s.modifyLabel fun l => { l with timeout := none }).faultCurrent .timeout)
  | labelPortUp (s : State) : Work .labelPortUp s (s.takeReport .labelPortUp).startCurrent
  | labelPortLost (s : State) : Work .labelPortLeftUp s (s.takeReport .labelPortLeftUp).labelPortLost

/-! ### The owners' work -/

section
variable {s t : State} {content : List Octet}

theorem readCountersAnswer_work {subject choice : Nat} (h : readCountersAnswer subject choice s = .ok content t) :
    Work (.readCounters subject choice) s t := by
  unfold readCountersAnswer at h
  split at h
  next x clear _ _ =>
    cases h
    split
    · exact .clearCounters subject choice x s
    · exact .nothing _ s
  next => cases h

theorem writeSpeciesAnswer_work {code kT packLimit : Nat} {curve : List (Nat × Nat)}
    (h : writeSpeciesAnswer code kT packLimit curve s = .ok content t) :
    Work (.writeSpecies code kT packLimit curve) s t := by
  unfold writeSpeciesAnswer at h
  dsimp only at h
  split_ifs at h with badCode invalid used full
  cases h
  refine .putSpecies code kT packLimit curve _ s ?_
  rw [Bool.not_eq_true, Bool.and_eq_false_iff, decide_eq_false_iff_not] at full
  refine full.imp (fun present => ?_) Nat.lt_of_not_le
  rwa [← Option.not_isSome, Bool.not_eq_false'] at present

theorem deleteSpeciesAnswer_work {code : Nat} (h : deleteSpeciesAnswer code s = .ok content t) :
    Work (.deleteSpecies code) s t := by
  unfold deleteSpeciesAnswer at h
  split_ifs at h
  cases h
  exact .eraseSpecies code s

theorem readSpeciesAnswer_work {code : Nat} (h : readSpeciesAnswer code s = .ok content t) :
    Work (.readSpecies code) s t := by
  unfold readSpeciesAnswer at h
  (repeat' split at h) <;> cases h
  exact .nothing _ s

theorem writeScheduleAnswer_work {id count : Nat} {fields : List StepFields}
    (h : writeScheduleAnswer id count fields s = .ok content t) : Work (.writeSchedule id count fields) s t := by
  unfold writeScheduleAnswer at h
  (repeat' split at h) <;> cases h
  exact .putSchedule id count fields _ _ _ s ‹_›

theorem deleteScheduleAnswer_work {id : Nat} (h : deleteScheduleAnswer id s = .ok content t) :
    Work (.deleteSchedule id) s t := by
  unfold deleteScheduleAnswer at h
  (repeat' split at h) <;> cases h
  next place _ _ _ => exact .eraseSchedule id place s

theorem readScheduleAnswer_work {id : Nat} (h : readScheduleAnswer id s = .ok content t) :
    Work (.readSchedule id) s t := by
  unfold readScheduleAnswer at h
  (repeat' split at h) <;> cases h
  exact .nothing _ s

theorem setInfeedAnswer_work {number : Nat} (h : setInfeedAnswer number s = .ok content t) :
    Work (.setInfeed number) s t := by
  unfold setInfeedAnswer at h
  (repeat' split at h) <;> cases h
  · exact .clearInfeed number s
  · exact .nothing _ s
  · exact .moveInfeed number s

theorem closeChargeAnswer_work {number : Nat} (h : closeChargeAnswer number s = .ok content t) :
    Work (.closeCharge number) s t := by
  unfold closeChargeAnswer at h
  split_ifs at h
  split at h
  next => cases h
  next c _ =>
    split_ifs at h
    obtain ⟨-, rfl⟩ := Answer.ok.inj h
    exact .closeCharge number s

theorem readChargeAnswer_work {number : Nat} (h : readChargeAnswer number s = .ok content t) :
    Work (.readCharge number) s t := by
  unfold readChargeAnswer at h
  split_ifs at h
  split at h
  next => cases h
  next c _ =>
    obtain ⟨-, rfl⟩ := Answer.ok.inj h
    exact .nothing _ s

theorem loadAnswer_work {kiln species id : Nat} (h : loadAnswer kiln species id s = .ok content t) :
    Work (.load kiln species id) s t := by
  unfold loadAnswer at h
  (repeat' split at h) <;> cases h
  next k _ _ occupied _ _ e x _ found full =>
    exact .load kiln species id k e x s (not_not.mp occupied) found (Nat.lt_of_not_le full)

theorem startAnswer_work {kiln : Nat} (h : startAnswer kiln s = .ok content t) : Work (.start kiln) s t := by
  unfold startAnswer at h
  (repeat' split at h) <;> cases h
  next k _ loaded _ => exact .start kiln k s (not_not.mp loaded)

theorem holdAnswer_work {kiln : Nat} (h : holdAnswer kiln s = .ok content t) : Work (.hold kiln) s t := by
  unfold holdAnswer at h
  (repeat' split at h) <;> cases h
  all_goals
    next k _ _ state => exact .hold kiln k s (by rw [state]; decide)

theorem releaseAnswer_work {kiln reason : Nat} (h : releaseAnswer kiln reason s = .ok content t) :
    Work (.release kiln reason) s t := by
  unfold releaseAnswer at h
  (repeat' split at h) <;> cases h
  next k _ _ _ occupied _ _ => exact .releaseOvertime kiln reason k s occupied
  next k _ _ _ occupied _ _ => exact .releaseHost kiln reason k s occupied

theorem skipAnswer_work {kiln : Nat} (h : skipAnswer kiln s = .ok content t) : Work (.skip kiln) s t := by
  unfold skipAnswer at h
  (repeat' split at h) <;> cases h
  next k _ _ running => exact .skip kiln k s (.inl running)
  next k _ _ held => exact .skip kiln k s (.inr held)

theorem unloadAnswer_work {kiln : Nat} (h : unloadAnswer kiln s = .ok content t) : Work (.unload kiln) s t := by
  unfold unloadAnswer at h
  (repeat' split at h) <;> cases h
  next k _ _ => exact .unload kiln k s

theorem abandonAnswer_work {kiln : Nat} (h : abandonAnswer kiln s = .ok content t) : Work (.abandon kiln) s t := by
  unfold abandonAnswer at h
  (repeat' split at h) <;> cases h
  next k _ _ => exact .abandon kiln k s

theorem resumeAnswer_work {kiln : Nat} (h : resumeAnswer kiln s = .ok content t) : Work (.resume kiln) s t := by
  unfold resumeAnswer at h
  split at h
  next => cases h
  next k _ =>
    split at h
    next => cases h
    next going =>
      unfold resumeChecked at h
      (repeat' split at h) <;> cases h
      exact .resume kiln k s (not_not.mp fun elsewhere => going (.inl elsewhere))

theorem kilnConfigAnswer_work {kiln si ci wet probes learning role loss jump shift : Nat} {c : Option KilnConfig}
    (h : kilnConfigAnswer kiln c s = .ok content t) :
    Work (.kilnConfig kiln si ci wet probes learning role loss jump shift) s t := by
  unfold kilnConfigAnswer at h
  split at h <;> cases h
  exact .kilnConfig ..

theorem readKilnAnswer_work {kiln : Nat} (h : readKilnAnswer kiln s = .ok content t) : Work (.readKiln kiln) s t := by
  unfold readKilnAnswer at h
  split at h
  next => cases h
  next =>
    obtain ⟨-, rfl⟩ := Answer.ok.inj h
    exact .nothing _ s

theorem enablePortAnswer_work {port window limit auto retry : Nat}
    (h : enablePortAnswer port window limit auto retry s = .ok content t) :
    Work (.enablePort port window limit auto retry) s t := by
  unfold enablePortAnswer at h
  (repeat' split at h) <;> cases h
  next p yes again _ _ _ limitBad _ stateBad =>
    simp only [inRange, Bool.not_eq_true', Bool.and_eq_false_iff, decide_eq_false_iff_not, not_or, not_not] at limitBad
    exact .enablePort port window limit auto retry p yes again s limitBad.1 limitBad.2 (fun h => stateBad (.inl h))
      fun h => stateBad (.inr h)

theorem disablePortAnswer_work {port : Nat} (h : disablePortAnswer port s = .ok content t) :
    Work (.disablePort port) s t := by
  unfold disablePortAnswer at h
  split at h <;> cases h
  next p _ => exact .disablePort port p s

theorem readPortAnswer_work {port : Nat} (h : readPortAnswer port s = .ok content t) : Work (.readPort port) s t := by
  unfold readPortAnswer at h
  split at h <;> cases h
  exact .nothing _ s

theorem assignProbeAnswer_work {serial kiln role tag : Nat}
    (h : assignProbeAnswer serial kiln role tag s = .ok content t) :
    Work (.assignProbe serial kiln role tag) s t := by
  unfold assignProbeAnswer at h
  (repeat' split at h) <;> cases h
  next full =>
    refine .assign serial kiln role tag _ s rfl ?_
    rw [Bool.not_eq_true, Bool.and_eq_false_iff, decide_eq_false_iff_not] at full
    refine full.imp (fun present => ?_) Nat.lt_of_not_le
    rwa [← Option.not_isSome, Bool.not_eq_false'] at present

theorem unassignProbeAnswer_work {serial : Nat} (h : unassignProbeAnswer serial s = .ok content t) :
    Work (.unassignProbe serial) s t := by
  unfold unassignProbeAnswer at h
  split at h <;> cases h
  exact .unassign serial s

theorem sweepNowAnswer_work {kiln choice : Nat} (h : sweepNowAnswer kiln choice s = .ok content t) :
    Work (.sweepNow kiln choice) s t := by
  unfold sweepNowAnswer at h
  (repeat' split at h) <;> cases h
  next k full _ _ _ _ => exact .chooseFullScan kiln choice k full s
  next k full _ _ _ _ => exact .sweepNow kiln choice k full s

theorem readProbesAnswer_work {kiln : Nat} (h : readProbesAnswer kiln s = .ok content t) :
    Work (.readProbes kiln) s t := by
  unfold readProbesAnswer at h
  split at h <;> cases h
  next k _ => exact .emptyEvents kiln k s

theorem forgetProbeAnswer_work {serial : Nat} (h : forgetProbeAnswer serial s = .ok content t) :
    Work (.forgetProbe serial) s t := by
  unfold forgetProbeAnswer at h
  split at h <;> cases h
  next e found => exact .forget serial e s found

theorem lineConfigAnswer_work {counts divert stack short polarity glitch : Nat} {c : Option LineConfig}
    (h : lineConfigAnswer c s = .ok content t) : Work (.lineConfig counts divert stack short polarity glitch) s t := by
  unfold lineConfigAnswer at h
  (repeat' split at h) <;> cases h
  exact .configureLine ..

theorem bayConfigAnswer_work {bay enabled lo hi nominal target : Nat} {c : Option BayConfig}
    (h : bayConfigAnswer bay c s = .ok content t) : Work (.bayConfig bay enabled lo hi nominal target) s t := by
  unfold bayConfigAnswer at h
  split at h
  next b c _ =>
    split at h
    next =>
      obtain ⟨-, rfl⟩ := Answer.ok.inj h
      exact .configureBay bay enabled lo hi nominal target b c s
    next => cases h
  next => cases h

theorem closePackAnswer_work {bay : Nat} (h : closePackAnswer bay s = .ok content t) : Work (.closePack bay) s t := by
  unfold closePackAnswer at h
  (repeat' split at h) <;> cases h
  · exact .nothing _ s
  · exact .beginClosing ..

theorem reprintAnswer_work {serial : Nat} (h : reprintAnswer serial s = .ok content t) : Work (.reprint serial) s t := by
  unfold reprintAnswer at h
  (repeat' split at h) <;> cases h
  exact .reprint ..

theorem voidLabelAnswer_work {serial : Nat} (h : voidLabelAnswer serial s = .ok content t) :
    Work (.voidLabel serial) s t := by
  unfold voidLabelAnswer at h
  (repeat' split at h) <;> cases h
  exact .voidLabel ..

theorem readPackAnswer_work {serial : Nat} (h : readPackAnswer serial s = .ok content t) :
    Work (.readPack serial) s t := by
  unfold readPackAnswer at h
  split at h <;> cases h
  exact .nothing _ s

theorem collectPackAnswer_work {serial : Nat} (h : collectPackAnswer serial s = .ok content t) :
    Work (.collectPack serial) s t := by
  unfold collectPackAnswer at h
  (repeat' split at h) <;> cases h
  exact .collect serial s

theorem readBayAnswer_work {bay : Nat} (h : readBayAnswer bay s = .ok content t) : Work (.readBay bay) s t := by
  unfold readBayAnswer at h
  split at h <;> cases h
  exact .nothing _ s

theorem labelConfigAnswer_work {timeout : Nat} (h : labelConfigAnswer timeout s = .ok content t) :
    Work (.labelConfig timeout) s t := by
  unfold labelConfigAnswer at h
  split at h <;> cases h
  exact .labelConfig timeout s

theorem setClockAnswer_work {year month day hour minute second : Nat} {d : DateTime}
    (h : setClockAnswer d s = .ok content t) : Work (.setClock year month day hour minute second) s t := by
  unfold setClockAnswer at h
  split at h <;> cases h
  exact .setClock ..

theorem takeNoticeAnswer_work (h : takeNoticeAnswer s = .ok content t) : Work .takeNotice s t := by
  unfold takeNoticeAnswer at h
  split at h <;> cases h
  · exact .takeNotice _ s
  · exact .nothing _ s

theorem setMasksAnswer_work {choices : List Nat} (h : setMasksAnswer choices s = .ok content t) :
    Work (.setMasks choices) s t := by
  unfold setMasksAnswer at h
  split at h <;> cases h
  exact .setMasks ..

end

/-! ### The commands' work -/

/-- An owner that answers OK with a work of its command. -/
def OwnerWorks (i : Instr) (owner : State → Answer) : Prop :=
  ∀ (s : State) (content : List Octet) (t : State), owner s = .ok content t → Work i s t

/-- An owner that answers OK and changes nothing. -/
theorem OwnerWorks.reads (i : Instr) (content : State → List Octet) : OwnerWorks i fun s => .ok (content s) s := by
  intro s _ t h
  cases h
  exact .nothing i s

/-- The requests that an owner takes: all but CONTINUE, which the link itself takes. -/
def Owned (i : Instr) : Prop := (kindCode i).isSome = true ∧ i ≠ .continueReply

/-- What a command leaves: a work of its own, or an owned request's passage with such a work. -/
def Outcomes (i : Instr) (s t : State) : Prop :=
  Work i s t ∨ ∃ owner, OwnerWorks i owner ∧ Owned i ∧ t = hostRequest i owner s

/-- An event of the running part is the work that it does there, or nothing. -/
theorem Outcomes.whenOn {i : Instr} {s : State} {f : State → State} (work : Work i s (f s)) :
    Outcomes i s (s.whenOn f) := by
  unfold State.whenOn
  cases s.power
  case on => exact .inl work
  case held => exact .inl (.nothing i s)
  case off => exact .inl (.nothing i s)

/-- A work that a condition lets happen. -/
theorem Work.ite {i : Instr} {s t : State} {c : Prop} [Decidable c] (work : Work i s t) :
    Work i s (if c then t else s) := by
  split
  · exact work
  · exact .nothing i s

/-- A request that an owner takes is the passage of that owner's answer. -/
theorem exec_owned {i : Instr} (owned : Owned i) :
    ∃ owner, OwnerWorks i owner ∧ ∀ s, exec i s = .next (hostRequest i owner s) := by
  obtain ⟨request, other⟩ := owned
  cases i
  case identify => exact ⟨_, .reads _ _, fun _ => rfl⟩
  case readCounters => exact ⟨_, fun _ _ _ => readCountersAnswer_work, fun _ => rfl⟩
  case restart => exact ⟨_, .reads _ _, fun _ => rfl⟩
  case writeSpecies => exact ⟨_, fun _ _ _ => writeSpeciesAnswer_work, fun _ => rfl⟩
  case deleteSpecies => exact ⟨_, fun _ _ _ => deleteSpeciesAnswer_work, fun _ => rfl⟩
  case readSpecies => exact ⟨_, fun _ _ _ => readSpeciesAnswer_work, fun _ => rfl⟩
  case writeSchedule => exact ⟨_, fun _ _ _ => writeScheduleAnswer_work, fun _ => rfl⟩
  case deleteSchedule => exact ⟨_, fun _ _ _ => deleteScheduleAnswer_work, fun _ => rfl⟩
  case readSchedule => exact ⟨_, fun _ _ _ => readScheduleAnswer_work, fun _ => rfl⟩
  case listTables => exact ⟨_, .reads _ _, fun _ => rfl⟩
  case setInfeed => exact ⟨_, fun _ _ _ => setInfeedAnswer_work, fun _ => rfl⟩
  case closeCharge => exact ⟨_, fun _ _ _ => closeChargeAnswer_work, fun _ => rfl⟩
  case readCharge => exact ⟨_, fun _ _ _ => readChargeAnswer_work, fun _ => rfl⟩
  case listCharges => exact ⟨_, .reads _ _, fun _ => rfl⟩
  case load => exact ⟨_, fun _ _ _ => loadAnswer_work, fun _ => rfl⟩
  case start => exact ⟨_, fun _ _ _ => startAnswer_work, fun _ => rfl⟩
  case hold => exact ⟨_, fun _ _ _ => holdAnswer_work, fun _ => rfl⟩
  case release => exact ⟨_, fun _ _ _ => releaseAnswer_work, fun _ => rfl⟩
  case skip => exact ⟨_, fun _ _ _ => skipAnswer_work, fun _ => rfl⟩
  case unload => exact ⟨_, fun _ _ _ => unloadAnswer_work, fun _ => rfl⟩
  case resume => exact ⟨_, fun _ _ _ => resumeAnswer_work, fun _ => rfl⟩
  case abandon => exact ⟨_, fun _ _ _ => abandonAnswer_work, fun _ => rfl⟩
  case kilnConfig => exact ⟨_, fun _ _ _ => kilnConfigAnswer_work, fun _ => rfl⟩
  case readKiln => exact ⟨_, fun _ _ _ => readKilnAnswer_work, fun _ => rfl⟩
  case enablePort => exact ⟨_, fun _ _ _ => enablePortAnswer_work, fun _ => rfl⟩
  case disablePort => exact ⟨_, fun _ _ _ => disablePortAnswer_work, fun _ => rfl⟩
  case readPort => exact ⟨_, fun _ _ _ => readPortAnswer_work, fun _ => rfl⟩
  case assignProbe => exact ⟨_, fun _ _ _ => assignProbeAnswer_work, fun _ => rfl⟩
  case unassignProbe => exact ⟨_, fun _ _ _ => unassignProbeAnswer_work, fun _ => rfl⟩
  case listAssignments => exact ⟨_, .reads _ _, fun _ => rfl⟩
  case sweepNow => exact ⟨_, fun _ _ _ => sweepNowAnswer_work, fun _ => rfl⟩
  case readProbes => exact ⟨_, fun _ _ _ => readProbesAnswer_work, fun _ => rfl⟩
  case forgetProbe => exact ⟨_, fun _ _ _ => forgetProbeAnswer_work, fun _ => rfl⟩
  case lineConfig => exact ⟨_, fun _ _ _ => lineConfigAnswer_work, fun _ => rfl⟩
  case lineClear => exact ⟨_, fun s _ _ h => by cases h; exact .clearLine s, fun _ => rfl⟩
  case readLine => exact ⟨_, .reads _ _, fun _ => rfl⟩
  case bayConfig => exact ⟨_, fun _ _ _ => bayConfigAnswer_work, fun _ => rfl⟩
  case closePack => exact ⟨_, fun _ _ _ => closePackAnswer_work, fun _ => rfl⟩
  case reprint => exact ⟨_, fun _ _ _ => reprintAnswer_work, fun _ => rfl⟩
  case voidLabel => exact ⟨_, fun _ _ _ => voidLabelAnswer_work, fun _ => rfl⟩
  case readPack => exact ⟨_, fun _ _ _ => readPackAnswer_work, fun _ => rfl⟩
  case listPacks => exact ⟨_, .reads _ _, fun _ => rfl⟩
  case collectPack => exact ⟨_, fun _ _ _ => collectPackAnswer_work, fun _ => rfl⟩
  case readBay => exact ⟨_, fun _ _ _ => readBayAnswer_work, fun _ => rfl⟩
  case labelConfig => exact ⟨_, fun _ _ _ => labelConfigAnswer_work, fun _ => rfl⟩
  case setClock => exact ⟨_, fun _ _ _ => setClockAnswer_work, fun _ => rfl⟩
  case readClock => exact ⟨_, .reads _ _, fun _ => rfl⟩
  case readRetained => exact ⟨_, .reads _ _, fun _ => rfl⟩
  case takeNotice => exact ⟨_, fun _ _ _ => takeNoticeAnswer_work, fun _ => rfl⟩
  case peekNotices => exact ⟨_, .reads _ _, fun _ => rfl⟩
  case setMasks => exact ⟨_, fun _ _ _ => setMasksAnswer_work, fun _ => rfl⟩
  case continueReply => exact absurd rfl other
  all_goals exact absurd request Bool.false_ne_true

/-- All that a command can do. -/
theorem exec_outcomes {i : Instr} {s t : State} (h : exec i s = .next t) : Outcomes i s t := by
  by_cases owned : Owned i
  · obtain ⟨owner, works, is⟩ := exec_owned owned
    rw [is s] at h
    exact .inr ⟨owner, works, owned, (Host.Outcome.next.inj h).symm⟩
  · cases i <;> obtain rfl := Host.Outcome.next.inj h
    case continueReply =>
      refine .whenOn ?_
      split
      next taken => exact .takeContinue s (by simpa using taken)
      next refused => exact .refuseContinue s fun empty => refused (by simp [empty])
    case linkOctetReceived => exact .whenOn (.receiveLinkOctet ..)
    case linkSilenceExpiry => exact .whenOn (.linkSilence s)
    case replySent => exact .whenOn (.replyDone ..)
    case busyReplySent => exact .whenOn (.busyDone s)
    case powerOn => exact .inl (.powerOn ..)
    case resetPin => exact .inl (.resetPin ..)
    case powerFail => exact .inl (.powerFail s)
    case keepLevelLoss => exact .inl (.loseKeepLevel s)
    case minuteEvent => exact .whenOn (.minute ..)
    case clockSecond => exact .inl (.clockSecond s)
    case fieldRequestSent => exact .whenOn (.requestSent ..)
    case replyWindowExpiry => exact .whenOn (.windowOver ..)
    case fieldOctetReceived => exact .whenOn (.receiveFieldOctet ..)
    case fieldOctetSilence => exact .whenOn (.octetSilence ..)
    case fieldSilentWaitExpiry => exact .whenOn (.silentWaitOver ..)
    case lineFault => exact .whenOn (.lineFault ..)
    case wakePulseEnd => exact .whenOn (.endWakePulse ..)
    case wakeWaitExpiry => exact .whenOn (.endWakeWait ..)
    case attemptGapExpiry => exact .whenOn (.endAttemptGap ..)
    case autoretryExpiry => exact .whenOn (.endAutoretry ..)
    case reestablishExpiry => exact .whenOn (.endReestablish ..)
    case controllerIntervalExpiry => exact .whenOn (.controllerIntervalOver ..)
    case idleWaitExpiry => exact .whenOn (.idleWaitOver ..)
    case controllerLost => exact .whenOn (.ite (.controllerLost ..))
    case kilnPortUp => exact .whenOn (.ite (.kilnPortUp ..))
    case probePortUp => exact .whenOn (.ite (.probePortUp ..))
    case probePortLeftUp => exact .whenOn (.ite (.probePortLeftUp ..))
    case sweepIntervalExpiry => exact .whenOn (.sweepIntervalOver ..)
    case encoderStep => exact .whenOn (.encoderMoves ..)
    case eyeChange level =>
      refine .inl ?_
      cases s.power
      case on => exact .changeEye level s
      case held => exact .moveEyePin level s
      case off => exact .moveEyePin level s
    case eyeFilterExpiry => exact .whenOn (.eyeFilterOver s)
    case meterPortLeftUp => exact .whenOn (.ite (.meterPortLost s))
    case divertPulseExpiry => exact .whenOn (.endDivertPulse s)
    case labelPauseExpiry => exact .whenOn (.ite (.labelPauseOver s))
    case labelTimeoutExpiry => exact .whenOn (.ite (.labelTimeoutOver s))
    case labelPortUp => exact .whenOn (.ite (.labelPortUp s))
    case labelPortLeftUp => exact .whenOn (.ite (.labelPortLost s))
    all_goals exact absurd ⟨rfl, nofun⟩ owned

/-! ### What every work keeps, every command keeps -/

/-- A property that the link's own changes and the owner's work keep, a request keeps. -/
theorem hostRequest_preserves {P : State → Prop} {i : Instr} {owner : State → Answer}
    (link : ∀ (s : State) (g : Link → Link), P s → P (s.modifyLink g))
    (work : ∀ (s : State) (content : List Octet) (t : State), owner s = .ok content t → P s → P t) {s : State}
    (h : P s) : P (hostRequest i owner s) := by
  obtain ⟨_, eq⟩ | ⟨_, status, _, eq⟩ | ⟨_, content, after, ok, eq⟩ | ⟨_, eq⟩ := hostRequest_cases s i owner
  case inl => rwa [eq]
  case inr.inl =>
    rw [eq, ← State.answerRefused_eq, State.answerRefused, State.compose, State.holdRequest]
    exact link _ _ (link _ _ h)
  case inr.inr.inl =>
    rw [eq, State.answerOk]
    have done : P after := work _ _ _ ok (link _ _ h)
    split
    · exact done
    · exact link _ _ (link _ _ done)
  case inr.inr.inr =>
    rw [eq, ← State.refuseBusy_eq, State.refuseBusy]
    split
    · exact link _ _ h
    · exact link _ _ h

/-- A property that the link's own changes and every work of a command keep, the command keeps. -/
theorem exec_preserves {P : State → Prop} {i : Instr}
    (link : ∀ (s : State) (g : Link → Link), P s → P (s.modifyLink g))
    (work : ∀ s t : State, Work i s t → P s → P t) {s t : State} (h : exec i s = .next t) (hs : P s) : P t := by
  rcases exec_outcomes h with done | ⟨owner, works, -, rfl⟩
  case inl => exact work s t done hs
  case inr => exact hostRequest_preserves link (fun s _ t ok => work s t (works s _ t ok)) hs

/-- What every command keeps and the queue of waiting commands does not touch, every step keeps. -/
theorem step_preserves {P : State → Prop} (queue : ∀ (s : State) (rest : List Instr), P s → P (s.setPending rest))
    (link : ∀ (s : State) (g : Link → Link), P s → P (s.modifyLink g))
    (work : ∀ (i : Instr) (s t : State), Work i s t → P s → P t) {s t : State} (h : step s = .next t) (hs : P s) :
    P t := by
  unfold step at h
  split at h
  next => cases h; exact hs
  next c rest _ => exact exec_preserves link (work c) h (queue s rest hs)

end Sys2Proof.Machine
end

section
/-!
PROOFS. The backup domain through the packs: of all it holds, a pack's work changes the pack-serial counter only (R150,
R167). And what READ-COUNTERS leaves when it clears.
-/
namespace Sys2Proof.Machine

/-- The backup domain but for the pack-serial counter. -/
def Backup.butPackCounter (b : Backup) : Backup := { b with packCounter := 0 }

theorem Backup.snapshots_eq {a b : Backup} (h : a.butPackCounter = b.butPackCounter) : a.snapshots = b.snapshots := by
  have := congrArg Backup.snapshots h
  exact this

section
variable (s : State)

@[simp] theorem State.writeRecord_butPackCounter (b : BayNo) (p : OpenPack) :
    (s.writeRecord b p).backup.butPackCounter = s.backup.butPackCounter := by
  simp [State.writeRecord, Backup.butPackCounter]

@[simp] theorem State.closePack_butPackCounter (b : BayNo) :
    (s.closePack b).backup.butPackCounter = s.backup.butPackCounter :=
  s.closePack_keeps (·.backup.butPackCounter) (fun _ _ _ => rfl) (fun t => by simp) (fun t => t.writeRecord_butPackCounter) b

@[simp] theorem State.releasePlace_butPackCounter (b : BayNo) (charge : Nat) :
    (s.releasePlace b charge).backup.butPackCounter = s.backup.butPackCounter :=
  s.releasePlace_keeps (·.backup.butPackCounter) (fun _ _ _ => rfl) (fun _ _ _ => rfl) (fun t => by simp)
    (fun t => t.writeRecord_butPackCounter) b charge

@[simp] theorem State.clearPiece_butPackCounter (p : Piece) :
    (s.clearPiece p).backup.butPackCounter = s.backup.butPackCounter := by
  unfold State.clearPiece
  cases p.grade <;> simp

@[simp] theorem State.clearLine_butPackCounter : s.clearLine.backup.butPackCounter = s.backup.butPackCounter := by
  simp [State.clearLine, foldl_keeps (·.backup.butPackCounter) State.clearPiece]

@[simp] theorem State.stackPiece_butPackCounter (b : BayNo) (charge mc : Nat) :
    (s.stackPiece b charge mc).backup.butPackCounter = s.backup.butPackCounter := by
  unfold State.stackPiece
  dsimp only
  (repeat' split) <;> simp

@[simp] theorem State.atStacker_butPackCounter (p : Piece) :
    (s.atStacker p).backup.butPackCounter = s.backup.butPackCounter := by
  unfold State.atStacker
  split <;> simp

@[simp] theorem State.encoderMoves_butPackCounter (move : EncoderMove) :
    (s.encoderMoves move).backup.butPackCounter = s.backup.butPackCounter := by
  have moved (counter : Position) : (s.moveCounter counter).backup.butPackCounter = s.backup.butPackCounter := by
    simp [State.moveCounter, foldl_keeps (·.backup.butPackCounter) State.atGate,
      foldl_keeps (·.backup.butPackCounter) State.atStacker]
  cases move
  case forward => exact moved _
  case reverse => exact moved _
  case both => rfl

@[simp] theorem State.givePlace_butPackCounter (b : BayNo) :
    (s.givePlace b).backup.butPackCounter = s.backup.butPackCounter := by
  unfold State.givePlace
  (repeat' split) <;> simp

@[simp] theorem State.giveFreedPlace_butPackCounter :
    s.giveFreedPlace.backup.butPackCounter = s.backup.butPackCounter := by
  unfold State.giveFreedPlace
  dsimp only
  split <;> simp [foldl_keeps (·.backup.butPackCounter) State.givePlace]

@[simp] theorem State.beginClosing_butPackCounter (b : BayNo) :
    (s.beginClosing b).backup.butPackCounter = s.backup.butPackCounter := by
  unfold State.beginClosing
  dsimp only
  (repeat' split) <;> simp

/-- READ-COUNTERS with CLEAR changes counters of a port, of the line or of the link. -/
@[simp] theorem State.clearCounters_frame (x : CounterSubject) :
    (s.clearCounters x).power = s.power ∧ (s.clearCounters x).species = s.species ∧
    (s.clearCounters x).schedules = s.schedules ∧ (s.clearCounters x).charges = s.charges ∧
    (s.clearCounters x).kilns = s.kilns ∧ (s.clearCounters x).reports = s.reports ∧
    (s.clearCounters x).assignments = s.assignments ∧ (s.clearCounters x).presence = s.presence ∧
    (s.clearCounters x).sweeps = s.sweeps ∧ (s.clearCounters x).line.queue = s.line.queue ∧
    (s.clearCounters x).bays = s.bays ∧ (s.clearCounters x).packs = s.packs ∧
    (s.clearCounters x).label = s.label ∧ (s.clearCounters x).minuteCount = s.minuteCount ∧
    (s.clearCounters x).backup = s.backup ∧ (s.clearCounters x).notices = s.notices ∧
    (s.clearCounters x).pending = s.pending := by
  cases x <;> simp [State.clearCounters, State.countLine]

end

end Sys2Proof.Machine
end

section
/-!
PROOFS. The kiln records through every work: a record keeps the shape of its state, and the dry-bulbs and depressions of
records, snapshots and schedules stay in their ranges (R29, R55, R58, R76).
-/
namespace Sys2Proof.Machine

/-! ### A record, and a snapshot, in shape and range -/

/-- A kiln record has the shape of its state, and its setpoints are in their ranges. -/
def KilnRecord.kept (r : KilnRecord) : Prop := r.shape = true ∧ r.dryBulb ≤ 1200 ∧ r.depression ≤ 400

/-- A snapshot's setpoints are in their ranges. -/
def Snapshot.kept (x : Snapshot) : Prop := x.dryBulb ≤ 1200 ∧ x.depression ≤ 400

theorem KilnRecord.shape_iff (r : KilnRecord) :
    r.shape = true ↔ (r.charge.isSome = true ↔ r.state ≠ .empty) ∧ (r.remembered.isSome = true ↔ r.state = .faultHold) ∧
      r.remembered ≠ some .empty ∧ r.remembered ≠ some .faultHold ∧ (r.state = .running → r.holds.isEmpty = true) ∧
      (r.state = .held → r.holds.isEmpty = false) ∧ (r.state = .empty → r.holds.isEmpty = true) := by
  unfold KilnRecord.shape
  cases r.state <;> cases r.charge <;> cases r.remembered <;> simp

section
variable {r : KilnRecord} (h : r.kept)
include h

theorem KilnRecord.kept.withHolds (occupied : r.state ≠ .empty) (holds : HoldSet) : (r.withHolds holds).kept := by
  obtain ⟨shape, range⟩ := h
  refine ⟨?_, range⟩
  rw [shape_iff] at shape ⊢
  unfold KilnRecord.withHolds
  cases state : r.state <;> cases empty : holds.isEmpty <;> simp_all

theorem KilnRecord.kept.complete (going : r.state = .running ∨ r.state = .held) :
    KilnRecord.kept { r with state := .complete } := by
  obtain ⟨shape, range⟩ := h
  refine ⟨?_, range⟩
  rw [shape_iff] at shape ⊢
  rcases going with state | state <;> simp_all

theorem KilnRecord.kept.rampMinute {x : Step} (step : x.inRange = true) : (r.rampMinute x).kept := by
  obtain ⟨shape, dry, depression⟩ := h
  simp only [Step.inRange, decide_eq_true_eq] at step
  refine ⟨shape, ?_, ?_⟩
  · simp only [KilnRecord.rampMinute, rampToward]; split <;> omega
  · simp only [KilnRecord.rampMinute, rampToward]; split <;> omega

/-- A LOADED or recovered record set going runs, or is held by its hold set. -/
theorem KilnRecord.kept.resumed (waiting : r.state = .loaded ∨ r.state = .recovery) : r.resumed.kept := by
  obtain ⟨shape, range⟩ := h
  refine ⟨?_, range⟩
  rw [shape_iff] at shape ⊢
  unfold KilnRecord.resumed
  rcases waiting with state | state <;> cases empty : r.holds.isEmpty <;> simp_all

theorem KilnRecord.kept.started (loaded : r.state = .loaded) {first : Option Step}
    (step : ∀ x, first = some x → x.inRange = true) : (r.started first).kept := by
  obtain ⟨shape, -, -⟩ := KilnRecord.kept.resumed h (.inl loaded)
  obtain ⟨-, dry, depression⟩ := h
  refine ⟨shape, ?_, ?_⟩
  · simp only [KilnRecord.started, KilnRecord.startDryBulb, clampTo]
    split
    · omega
    · split
      next x => have := step x rfl; simp only [Step.inRange, decide_eq_true_eq] at this; exact this.1
      next => exact dry
  · simp only [KilnRecord.started, KilnRecord.startDepression, clampTo]
    split
    · omega
    · split
      next x => have := step x rfl; simp only [Step.inRange, decide_eq_true_eq] at this; exact this.2
      next => exact depression

theorem KilnRecord.kept.faultHold (occupied : r.state ≠ .empty) (other : r.state ≠ .faultHold) :
    KilnRecord.kept { r with remembered := some r.state, state := .faultHold } := by
  obtain ⟨shape, range⟩ := h
  refine ⟨?_, range⟩
  rw [shape_iff] at shape ⊢
  simp_all

theorem KilnRecord.kept.returned {remembered : KilnState} (fault : r.state = .faultHold)
    (was : r.remembered = some remembered) :
    KilnRecord.kept { r with state := r.returnState remembered, remembered := none } := by
  obtain ⟨shape, range⟩ := h
  refine ⟨?_, range⟩
  rw [shape_iff] at shape ⊢
  unfold KilnRecord.returnState
  cases remembered <;> cases empty : r.holds.isEmpty <;> simp_all

theorem KilnRecord.kept.toSnapshot (c : KilnCharge) : (r.toSnapshot c).kept := h.2

end

theorem KilnRecord.emptied_kept (r : KilnRecord) : r.emptied.kept := by
  refine ⟨?_, Nat.zero_le _, Nat.zero_le _⟩
  rw [shape_iff]
  simp [KilnRecord.emptied, KilnRecord.initial, HoldSet.empty, HoldSet.isEmpty]

theorem KilnRecord.initial_kept : KilnRecord.initial.kept := KilnRecord.emptied_kept .initial

theorem KilnRecord.loaded_kept (r : KilnRecord) (c : KilnCharge) {first : Option Step}
    (step : ∀ x, first = some x → x.inRange = true) : (r.loaded c first).kept := by
  refine ⟨?_, ?_, ?_⟩
  · rw [shape_iff]
    simp [KilnRecord.loaded, KilnRecord.emptied, KilnRecord.initial]
  · simp only [KilnRecord.loaded]
    split
    next x => have := step x rfl; simp only [Step.inRange, decide_eq_true_eq] at this; exact this.1
    next => omega
  · simp only [KilnRecord.loaded]
    split
    next x => have := step x rfl; simp only [Step.inRange, decide_eq_true_eq] at this; exact this.2
    next => omega

theorem KilnRecord.recovered_kept (r : KilnRecord) {x : Snapshot} (h : x.kept) : (r.recovered x).kept := by
  refine ⟨?_, h⟩
  rw [shape_iff]
  simp [KilnRecord.recovered]

/-- The fields that the shape and the ranges do not speak of. -/
theorem KilnRecord.kept.congr {r q : KilnRecord} (h : r.kept) (state : q.state = r.state) (charge : q.charge = r.charge)
    (remembered : q.remembered = r.remembered) (holds : q.holds = r.holds) (dry : q.dryBulb = r.dryBulb)
    (depression : q.depression = r.depression) : q.kept := by
  unfold KilnRecord.kept KilnRecord.shape at *
  rwa [state, charge, remembered, holds, dry, depression]

/-! ### Every record, snapshot and schedule -/

/-- Every kiln record, every snapshot and every schedule is in shape and range. -/
structure State.KilnsSound (s : State) : Prop where
  records : ∀ k, (s.kiln k).kept
  snapshots : ∀ k x, s.snapshot k = some x → x.kept
  schedules : ∀ i sch, s.schedules.get i = some sch → ∀ x ∈ sch.steps, x.inRange = true

theorem State.kilnsSound_iff (s : State) : s.KilnsSound ↔ s.kilnsKept ∧ s.setpointsKept := by
  constructor
  · rintro ⟨records, snapshots, schedules⟩
    exact ⟨fun k => (records k).1, fun k => (records k).2, snapshots, schedules⟩
  · rintro ⟨shapes, ranges, snapshots, schedules⟩
    exact ⟨fun k => ⟨shapes k, ranges k⟩, snapshots, schedules⟩

section
variable {s t : State} {k : KilnNo}

/-- What changes neither records nor snapshots nor schedules keeps them sound. -/
theorem State.KilnsSound.congr (h : s.KilnsSound) (kilns : t.kilns = s.kilns)
    (snapshots : t.backup.snapshots = s.backup.snapshots) (schedules : t.schedules = s.schedules) : t.KilnsSound := by
  obtain ⟨r, x, c⟩ := h
  refine ⟨?_, ?_, ?_⟩
  · simpa only [State.kiln, kilns] using r
  · simpa only [State.snapshot, snapshots] using x
  · simpa only [schedules] using c

theorem State.KilnsSound.of_schedule (h : s.KilnsSound) {id : Nat} {sch : Schedule} (found : s.schedule id = some sch) :
    ∀ x ∈ sch.steps, x.inRange = true := by
  unfold State.schedule at found
  split at found
  next i _ => exact h.schedules i sch found
  next => cases found

theorem State.KilnsSound.of_kilnSchedule (h : s.KilnsSound) {sch : Schedule} (found : s.kilnSchedule k = some sch) :
    ∀ x ∈ sch.steps, x.inRange = true := by
  unfold State.kilnSchedule at found
  split at found
  next => exact h.of_schedule found
  next => cases found

theorem State.KilnsSound.of_currentStep (h : s.KilnsSound) {x : Step} (found : s.currentStep k = some x) :
    x.inRange = true := by
  unfold State.currentStep at found
  split at found
  next sch schedule => exact h.of_kilnSchedule schedule x (List.mem_of_getElem? found)
  next => cases found

theorem State.KilnsSound.of_firstStep (h : s.KilnsSound) {x : Step} (found : s.firstStep k = some x) :
    x.inRange = true := by
  unfold State.firstStep at found
  split at found
  next sch schedule => exact h.of_kilnSchedule schedule x (List.mem_of_mem_head? found)
  next => cases found

theorem State.KilnsSound.setKiln (h : s.KilnsSound) {r : KilnRecord} (kept : r.kept) : (s.setKiln k r).KilnsSound := by
  refine ⟨fun j => ?_, h.snapshots, h.schedules⟩
  rw [State.kiln_setKiln]
  split
  · exact kept
  · exact h.records j

theorem State.KilnsSound.modifyKiln (h : s.KilnsSound) {f : KilnRecord → KilnRecord} (kept : (f (s.kiln k)).kept) :
    (s.modifyKiln k f).KilnsSound := h.setKiln kept

/-- A record changed in a state that has the records, snapshots and schedules of a sound one. -/
theorem State.KilnsSound.modifyKiln_of (h : s.KilnsSound) (kilns : t.kilns = s.kilns)
    (snapshots : t.backup.snapshots = s.backup.snapshots) (schedules : t.schedules = s.schedules)
    {f : KilnRecord → KilnRecord} (kept : (f (s.kiln k)).kept) : (t.modifyKiln k f).KilnsSound := by
  refine (h.congr kilns snapshots schedules).modifyKiln ?_
  rwa [State.kiln, kilns]

theorem State.KilnsSound.modifyNotices (h : s.KilnsSound) {f : Notices → Notices} : (s.modifyNotices f).KilnsSound :=
  h.congr rfl rfl rfl

theorem State.KilnsSound.setSnapshot (h : s.KilnsSound) {x : Option Snapshot} (kept : ∀ y, x = some y → y.kept) :
    (s.setSnapshot k x).KilnsSound := by
  refine ⟨h.records, fun j y found => ?_, h.schedules⟩
  rw [State.snapshot_setSnapshot] at found
  split at found
  · exact kept y found
  · exact h.snapshots j y found

theorem State.KilnsSound.writeSnapshot (h : s.KilnsSound) : (s.writeSnapshot k).KilnsSound := by
  unfold State.writeSnapshot
  split
  · split
    next c _ => exact h.setSnapshot fun y eq => Option.some.inj eq ▸ (h.records k).toSnapshot c
    next => exact h
  · exact h

/-! ### The kiln supervisor's operations -/

theorem State.KilnsSound.setHolds (h : s.KilnsSound) (occupied : (s.kiln k).state ≠ .empty) (holds : HoldSet) :
    (s.setHolds k holds).KilnsSound := by
  unfold State.setHolds
  split
  · exact h
  · exact State.KilnsSound.writeSnapshot (h.modifyKiln ((h.records k).withHolds occupied holds))

theorem State.KilnsSound.completeKiln (h : s.KilnsSound) (going : (s.kiln k).state = .running ∨ (s.kiln k).state = .held) :
    (s.completeKiln k).KilnsSound := by
  unfold State.completeKiln
  refine State.KilnsSound.writeSnapshot (State.KilnsSound.modifyNotices ?_)
  refine h.modifyKiln_of ?_ ?_ ?_ ((h.records k).complete going)
  all_goals split <;> rfl

theorem State.KilnsSound.advanceStep (h : s.KilnsSound) (going : (s.kiln k).state = .running ∨ (s.kiln k).state = .held)
    (overtime : Bool) : (s.advanceStep k overtime).KilnsSound := by
  unfold State.advanceStep
  split
  · exact h
  · split
    · refine State.KilnsSound.writeSnapshot (State.KilnsSound.modifyNotices ?_)
      exact h.modifyKiln ((h.records k).congr rfl rfl rfl rfl rfl rfl)
    · exact h.completeKiln going

theorem State.KilnsSound.testStepTime (h : s.KilnsSound) (running : (s.kiln k).state = .running) (x : Step) :
    (s.testStepTime k x).KilnsSound := by
  unfold State.testStepTime
  dsimp only
  split
  · exact h.advanceStep (.inl running) false
  · split
    · split
      · exact h.advanceStep (.inl running) true
      · refine State.KilnsSound.writeSnapshot (State.KilnsSound.modifyNotices ?_)
        exact h.modifyKiln ((h.records k).withHolds (by rw [running]; decide) _)
    · exact h

theorem State.KilnsSound.runMinute (h : s.KilnsSound) (running : (s.kiln k).state = .running) :
    (s.runMinute k).KilnsSound := by
  unfold State.runMinute
  split
  next x step =>
    have ramped : (s.modifyKiln k fun r => r.rampMinute x).KilnsSound :=
      h.modifyKiln ((h.records k).rampMinute (h.of_currentStep step))
    refine ramped.testStepTime ?_ x
    simpa [State.modifyKiln, KilnRecord.rampMinute] using running
  next => exact h

theorem State.KilnsSound.kilnMinute (h : s.KilnsSound) : (s.kilnMinute k).KilnsSound := by
  unfold State.kilnMinute
  split
  · exact h
  · have counted : (s.modifyKiln k fun r => { r with totalMinutes := bump r.totalMinutes }).KilnsSound :=
      h.modifyKiln ((h.records k).congr rfl rfl rfl rfl rfl rfl)
    dsimp only
    split
    next running =>
      split
      · exact (counted.runMinute running).writeSnapshot
      · exact counted.runMinute running
    next =>
      split
      · exact counted.writeSnapshot
      · exact counted

theorem State.KilnsSound.deliverMinute (h : s.KilnsSound) : (s.deliverMinute k).KilnsSound := by
  unfold State.deliverMinute
  exact .congr (h.modifyKiln (k := k) (f := fun r => { r with minuteEvents := bump r.minuteEvents })
    ((h.records k).congr rfl rfl rfl rfl rfl rfl)) rfl rfl rfl

theorem State.KilnsSound.testDryBulb (h : s.KilnsSound) (running : (s.kiln k).state = .running) :
    (s.testDryBulb k).KilnsSound := by
  unfold State.testDryBulb
  split
  · split
    · exact h.advanceStep (.inl running) false
    · exact h
  · exact h

theorem State.KilnsSound.takeControllerReply (h : s.KilnsSound) (dry wet : Int) (status : ControllerStatus) :
    (s.takeControllerReply k dry wet status).KilnsSound := by
  unfold State.takeControllerReply
  have read : (s.modifyKiln k fun r =>
      { r with dryReadback := dry, dryValid := true, wetReadback := wet, wetValid := true, status := status }).KilnsSound :=
    h.modifyKiln ((h.records k).congr rfl rfl rfl rfl rfl rfl)
  dsimp only
  split
  next empty => rw [if_neg (by rw [empty]; decide)]; exact read
  next occupied =>
    split
    next running => exact (read.setHolds occupied _).testDryBulb running
    next => exact read.setHolds occupied _

theorem State.KilnsSound.setpointOutcome (h : s.KilnsSound) (outcome : ExchangeOutcome) (reply : StationReply) :
    (s.setpointOutcome k outcome reply).KilnsSound := by
  unfold State.setpointOutcome
  split
  · exact h.takeControllerReply ..
  · exact h

theorem State.KilnsSound.testMoisture (h : s.KilnsSound) (running : (s.kiln k).state = .running) :
    (s.testMoisture k).KilnsSound := by
  have advanced := h.advanceStep (.inl running) false
  unfold State.testMoisture
  (repeat' split) <;> with_reducible assumption

theorem State.KilnsSound.takeSweepResult (h : s.KilnsSound) (result : SweepResult) :
    (s.takeSweepResult k result).KilnsSound := by
  unfold State.takeSweepResult
  split
  · exact h
  · have stored : (s.modifyKiln k fun r =>
        { r with controllingMc := result.controllingMc, spread := result.spread, driest := result.driest }).KilnsSound :=
      h.modifyKiln ((h.records k).congr rfl rfl rfl rfl rfl rfl)
    dsimp only
    split <;> split
    next running => exact State.KilnsSound.testMoisture stored.modifyNotices running
    next => exact stored.modifyNotices
    next running => exact stored.testMoisture running
    next => exact stored

theorem State.KilnsSound.loseReadbacks (h : s.KilnsSound) : (s.loseReadbacks k).KilnsSound :=
  h.modifyKiln ((h.records k).congr rfl rfl rfl rfl rfl rfl)

theorem State.KilnsSound.takeControllerLost (h : s.KilnsSound) : (s.takeControllerLost k).KilnsSound := by
  unfold State.takeControllerLost
  have lost := h.loseReadbacks (k := k)
  dsimp only
  split
  next => exact lost
  next => exact lost
  all_goals
    next state =>
      have held := (lost.records k).faultHold (by rw [state]; decide) (by rw [state]; decide)
      refine State.KilnsSound.modifyNotices ?_

      exact State.KilnsSound.modifyKiln lost held

theorem State.KilnsSound.takeKilnPortUp (h : s.KilnsSound) : (s.takeKilnPortUp k).KilnsSound := by
  unfold State.takeKilnPortUp
  dsimp only
  split
  next remembered fault was =>
    split
    · exact h.congr rfl rfl rfl
    · exact h.setKiln ((h.records k).returned fault was)
  next => exact h

/-! ### Loading, unloading and recovery -/

theorem State.KilnsSound.loadKiln (h : s.KilnsSound) {id : Nat} {x : Schedule} (found : s.schedule id = some x)
    (e : SpeciesEntry) : (s.loadKiln k e id x).KilnsSound := by
  unfold State.loadKiln
  have filled := h.modifyKiln_of (k := k) (t := (s.writeChargeCounter s.issuedChargeNumber).addCharge
    (.created s.issuedChargeNumber k e.code id s.stamp)) rfl rfl rfl
    (f := fun r => r.loaded ⟨s.issuedChargeNumber, e.code, e.checkValue, id, x.checkValue⟩ x.steps.head?)
    (KilnRecord.loaded_kept (s.kiln k) ⟨s.issuedChargeNumber, e.code, e.checkValue, id, x.checkValue⟩ (first := x.steps.head?)
      fun y first => h.of_schedule found y (List.mem_of_mem_head? first))
  exact State.KilnsSound.writeSnapshot (filled.congr (by simp) (by simp) (by simp))

theorem State.KilnsSound.unloadKiln (h : s.KilnsSound) : (s.unloadKiln k).KilnsSound := by
  unfold State.unloadKiln
  have staged : (s.stageCharge (s.kiln k).chargeNumber).KilnsSound := h.congr (by simp) (by simp) (by simp)
  have invalid := staged.setSnapshot (k := k) (x := none) nofun
  exact State.KilnsSound.modifyKiln (invalid.congr (by simp) (by simp) (by simp)) (KilnRecord.emptied_kept _)

theorem State.KilnsSound.recoverKiln (h : s.KilnsSound) : (s.recoverKiln k).KilnsSound := by
  unfold State.recoverKiln
  split
  next x snapshot =>
    refine State.KilnsSound.modifyNotices ?_

    refine State.KilnsSound.modifyKiln_of (t := s.addCharge _) h rfl rfl rfl ?_
    exact KilnRecord.recovered_kept _ (h.snapshots k x snapshot)
  next => exact h

theorem State.kiln_volatileReset (b : Backup) (eye : Bool) (rate : LinkRate) (queue : List Instr) (k : KilnNo) :
    (State.volatileReset b eye rate queue).kiln k = .initial := by
  simp [State.kiln, State.volatileReset, Vector.get_eq_getElem]

theorem State.volatileReset_kilnsSound {b : Backup} (snapshots : ∀ (k : KilnNo) x, b.snapshots.get k = some x → x.kept)
    (eye : Bool) (rate : LinkRate) (queue : List Instr) : (State.volatileReset b eye rate queue).KilnsSound := by
  refine ⟨fun k => ?_, snapshots, fun i sch found => ?_⟩
  · rw [State.kiln_volatileReset]; exact KilnRecord.initial_kept
  · simp [State.volatileReset, Vector.get_eq_getElem] at found

theorem State.KilnsSound.resetKept (h : s.KilnsSound) (straps : Straps) : (s.resetKept straps).KilnsSound := by
  have start := State.volatileReset_kilnsSound h.snapshots s.line.eyePin (.ofStraps straps) s.pending
  unfold State.resetKept State.recoverKilns
  generalize State.volatileReset _ _ _ _ = t at start
  induction allKilns generalizing t with
  | nil => exact start
  | cons k rest ih => exact ih _ start.recoverKiln

theorem State.cleared_kilnsSound (eye : Bool) (rate : LinkRate) (queue : List Instr) :
    (State.volatileReset .cleared eye rate queue).KilnsSound :=
  State.volatileReset_kilnsSound
    (fun k x found => by simp [Backup.cleared, Vector.get_eq_getElem] at found) eye rate queue

theorem State.KilnsSound.powerOnReset (h : s.KilnsSound) (straps : Straps) : (s.powerOnReset straps).KilnsSound := by
  unfold State.powerOnReset
  split
  · exact h.resetKept straps
  · exact State.KilnsSound.modifyNotices (State.cleared_kilnsSound ..)

theorem State.KilnsSound.stilled (h : s.KilnsSound) (power : Power) : (s.stilled power).KilnsSound :=
  (State.volatileReset_kilnsSound h.snapshots s.line.eyePin s.link.rate s.pending).congr rfl rfl rfl

theorem State.KilnsSound.moveResetPin (h : s.KilnsSound) (edge : ResetEdge) (straps : Straps) :
    (s.moveResetPin edge straps).KilnsSound := by
  unfold State.moveResetPin
  have kept := h.resetKept straps
  have held := h.stilled .held
  split <;> with_reducible assumption

theorem State.KilnsSound.replyDone (h : s.KilnsSound) (straps : Straps) : (s.replyDone straps).KilnsSound := by
  have kept := h.resetKept straps
  have sent : (s.popFrame.modifyLink fun l => { l with buffer := none }).KilnsSound := h.congr rfl rfl rfl
  unfold State.replyDone
  (repeat' split) <;> with_reducible assumption

/-! ### The other blocks, which reach the records by sweep results and lost readbacks -/

theorem State.KilnsSound.completeSweep (h : s.KilnsSound) : (s.completeSweep k).KilnsSound := by
  unfold State.completeSweep
  exact (h.congr (by simp) (by simp) (by simp)).takeSweepResult _

theorem State.KilnsSound.completeIfDone (h : s.KilnsSound) : (s.completeIfDone k).KilnsSound := by
  unfold State.completeIfDone
  split
  · exact h.completeSweep
  · exact h

theorem State.KilnsSound.planSweep (h : s.KilnsSound) : (s.planSweep k).KilnsSound := by
  unfold State.planSweep
  dsimp only
  split
  · exact (h.congr (by simp) (by simp) (by simp)).completeSweep
  · split <;> exact h.congr (by simp) (by simp) (by simp)

theorem State.KilnsSound.sweepIntervalOver (h : s.KilnsSound) : (s.sweepIntervalOver k).KilnsSound := by
  unfold State.sweepIntervalOver
  split
  · have started := h.congr (t := s.modifySweep k fun r => { r with interval := some (s.sweepIntervalOf k) })
      (by simp) (by simp) (by simp)
    dsimp only
    split
    · exact started.planSweep
    · exact started
  · exact h

theorem State.KilnsSound.forgetEntry (h : s.KilnsSound) (e : PresenceEntry) : (s.forgetEntry e).KilnsSound := by
  unfold State.forgetEntry
  exact (h.congr (by simp) (by simp) (by simp)).completeIfDone

theorem State.KilnsSound.probeOutcome (h : s.KilnsSound) (address : Nat) (command : ProbeCommand)
    (outcome : ExchangeOutcome) (data : List Octet) : (s.probeOutcome k address command outcome data).KilnsSound := by
  unfold State.probeOutcome
  split
  · exact h.congr (by simp) (by simp) (by simp)
  · split
    · have handled := (h.congr (t := (s.modifySweep k fun r =>
          { r with outstanding := r.outstanding.erase (address, command) }).handleProbeOutcome k address command outcome
            data) (by simp) (by simp) (by simp)).completeIfDone (k := k)
      dsimp only
      split
      · exact handled.completeIfDone
      · exact handled
    · exact h

theorem State.KilnsSound.handOutcome (h : s.KilnsSound) (p : PortNo) (e : Exchange) (outcome : ExchangeOutcome)
    (reply : StationReply) : (s.handOutcome p e outcome reply).KilnsSound := by
  unfold State.handOutcome
  split
  · exact h.setpointOutcome ..
  · exact h.probeOutcome ..
  · split
    · exact h
    · exact h.probeOutcome ..
  · exact h.congr (by simp) (by simp) (by simp)
  · exact h.congr (by simp) (by simp) (by simp)
  · exact h.congr (by simp) (by simp) (by simp)
  · exact h

theorem State.KilnsSound.reportLeftUp (h : s.KilnsSound) (p : PortNo) : (s.reportLeftUp p).KilnsSound := by
  unfold State.reportLeftUp
  split
  · exact h.loseReadbacks.congr rfl rfl rfl
  · split <;> exact h.congr rfl rfl rfl

theorem State.KilnsSound.stationFailed (h : s.KilnsSound) (p : PortNo) : (s.stationFailed p).KilnsSound := by
  unfold State.stationFailed State.failureLimitReached
  dsimp only
  split
  · exact State.KilnsSound.reportLeftUp (h.congr (by simp) (by simp) (by simp)) p
  · exact h.congr (by simp) (by simp) (by simp)

theorem State.KilnsSound.applyOutcome (h : s.KilnsSound) (p : PortNo) (e : Exchange) (outcome : ExchangeOutcome)
    (reply : StationReply) : (s.applyOutcome p e outcome reply).KilnsSound := by
  have failed := h.stationFailed p
  have applied : (s.modifyPort p fun r => r.stationGood e reply.data).KilnsSound :=
    h.congr (by simp) (by simp) (by simp)
  have established : (s.applyInEstablishing p outcome reply).KilnsSound := h.congr (by simp) (by simp) (by simp)
  unfold State.applyOutcome State.applyInUp
  (repeat' split) <;> with_reducible assumption

theorem State.KilnsSound.endExchange (h : s.KilnsSound) (p : PortNo) (outcome : ExchangeOutcome) (reply : StationReply) :
    (s.endExchange p outcome reply).KilnsSound := by
  unfold State.endExchange
  split
  · exact h
  · exact (State.KilnsSound.handOutcome (h.congr (by simp) (by simp) (by simp)) ..).applyOutcome ..

theorem State.KilnsSound.windowOver (h : s.KilnsSound) (p : PortNo) : (s.windowOver p).KilnsSound := by
  have ended := h.endExchange p .timeout noReplyData
  unfold State.windowOver
  (repeat' split) <;> with_reducible assumption

theorem State.KilnsSound.octetSilence (h : s.KilnsSound) (p : PortNo) : (s.octetSilence p).KilnsSound := by
  have ended := h.endExchange p .truncated noReplyData
  unfold State.octetSilence
  (repeat' split) <;> with_reducible assumption

theorem State.KilnsSound.receiveFieldOctet (h : s.KilnsSound) (p : PortNo) (octet : Octet) (error : Bool) :
    (s.receiveFieldOctet p octet error).KilnsSound := by
  have phase (f : PortRecord → PortRecord) : (s.modifyPort p f).KilnsSound := h.congr (by simp) (by simp) (by simp)
  have ended := fun outcome => h.endExchange p outcome
  unfold State.receiveFieldOctet State.receiveReplyOctet
  dsimp only
  (repeat' split) <;> with_reducible apply_assumption

theorem State.KilnsSound.takeLineFault (h : s.KilnsSound) (p : PortNo) : (s.takeLineFault p).KilnsSound := by
  have ended : (s.faultExchange p).KilnsSound := by
    unfold State.faultExchange
    split
    · exact State.KilnsSound.handOutcome (h.congr (by simp) (by simp) (by simp)) ..
    · exact h
  unfold State.takeLineFault
  dsimp only
  split
  · split
    · exact State.KilnsSound.reportLeftUp (ended.congr (by simp) (by simp) (by simp)) p
    · exact ended.congr (by simp) (by simp) (by simp)
  · exact h

theorem State.KilnsSound.disable (h : s.KilnsSound) (p : PortNo) : (s.disable p).KilnsSound := by
  have disabled : (s.modifyPort p PortRecord.disabled).KilnsSound := h.congr (by simp) (by simp) (by simp)
  unfold State.disable
  dsimp only
  split
  · exact h
  · split
    · exact disabled.reportLeftUp p
    · exact disabled

/-! ### The table store -/

theorem stepsOf_inRange {fields : List StepFields} {steps : List Step} (valid : stepsOf fields = some steps) :
    ∀ x ∈ steps, x.inRange = true := by
  induction fields generalizing steps with
  | nil => cases valid; nofun
  | cons f rest ih =>
    unfold stepsOf at valid
    split at valid
    next x later first restValid =>
      cases valid
      refine List.forall_mem_cons.mpr ⟨?_, ih restValid⟩
      unfold stepOf at first
      split at first
      · split at first
        next range =>
          cases first
          simp only [Step.inRange, decide_eq_true_eq]
          omega
        next => cases first
      · cases first
    next => cases valid

theorem State.KilnsSound.setSchedule (h : s.KilnsSound) {i : Fin 8} {x : Option Schedule}
    (valid : ∀ sch, x = some sch → ∀ y ∈ sch.steps, y.inRange = true) : (s.setSchedule i x).KilnsSound := by
  refine ⟨h.records, h.snapshots, fun j sch found => ?_⟩
  rw [State.setSchedule, get_set] at found
  split at found
  · exact valid sch found
  · exact h.schedules j sch found

end

/-! ### The clock -/

theorem State.loseKeepLevel_snapshots (s : State) : s.loseKeepLevel.backup.snapshots = s.backup.snapshots := by
  unfold State.loseKeepLevel
  split <;> rfl

theorem State.advanceClock_snapshots (s : State) : s.advanceClock.backup.snapshots = s.backup.snapshots := by
  unfold State.advanceClock State.whenOn
  (repeat' split) <;> rfl

/-! ### Every work -/

theorem Work.kilnsSound {i : Instr} {s t : State} (work : Work i s t) (h : s.KilnsSound) : t.KilnsSound := by
  cases work
  case putSchedule valid => exact h.setSchedule fun sch eq => by cases eq; exact stepsOf_inRange valid
  case eraseSchedule => exact h.setSchedule nofun
  case load found _ => exact h.loadKiln found _
  case start loaded =>
    exact State.KilnsSound.writeSnapshot (h.modifyKiln ((h.records _).started loaded fun x first => h.of_firstStep first))
  case hold occupied => exact h.setHolds occupied _
  case releaseOvertime k occupied =>
    refine State.KilnsSound.setHolds (h.modifyKiln ((h.records k).congr rfl rfl rfl rfl rfl rfl)) ?_ _
    simpa [State.modifyKiln] using occupied
  case releaseHost occupied => exact h.setHolds occupied _
  case skip going => exact h.advanceStep going false
  case unload => exact h.unloadKiln
  case abandon => exact h.unloadKiln
  case resume recovering => exact State.KilnsSound.writeSnapshot (h.modifyKiln ((h.records _).resumed (.inr recovering)))
  case kilnConfig => exact h.modifyKiln ((h.records _).congr rfl rfl rfl rfl rfl rfl)
  case disablePort => exact h.disable _
  case sweepNow => exact State.KilnsSound.planSweep (h.congr (by simp) (by simp) (by simp))
  case forget => exact h.forgetEntry _
  case replyDone => exact h.replyDone _
  case powerOn => exact h.powerOnReset _
  case resetPin => exact h.moveResetPin _ _
  case powerFail => exact h.stilled _
  case minute => exact h.deliverMinute.kilnMinute
  case windowOver => exact h.windowOver _
  case receiveFieldOctet => exact h.receiveFieldOctet ..
  case octetSilence => exact h.octetSilence _
  case lineFault => exact h.takeLineFault _
  case controllerLost => exact State.KilnsSound.takeControllerLost (h.congr rfl rfl rfl)
  case kilnPortUp => exact State.KilnsSound.takeKilnPortUp (h.congr rfl rfl rfl)
  case sweepIntervalOver => exact h.sweepIntervalOver
  case clearLine => exact h.congr (by simp) (Backup.snapshots_eq s.clearLine_butPackCounter) (by simp)
  case beginClosing b => exact h.congr (by simp) (Backup.snapshots_eq (s.beginClosing_butPackCounter b)) (by simp)
  case collect => exact h.congr (by simp) (Backup.snapshots_eq (State.giveFreedPlace_butPackCounter _)) (by simp)
  case encoderMoves move =>
    exact h.congr (by simp) (Backup.snapshots_eq (s.encoderMoves_butPackCounter move)) (by simp)
  case setClock => exact h.congr rfl rfl rfl
  case loseKeepLevel => exact h.congr (by simp) s.loseKeepLevel_snapshots (by simp)
  case clockSecond => exact h.congr (by simp) s.advanceClock_snapshots (by simp)
  all_goals exact h.congr (by simp) (by simp) (by simp)

end Sys2Proof.Machine
end

section
/-! PROOFS. The statement that every step keeps the kilns. -/
open Sys2Proof Sys2Proof.Machine

/-- Settles O57, from what every work makes of the kiln records, the snapshots and the schedules. -/
theorem stepsKeepTheKilns : Obligations.StepsKeepTheKilns := by
  unfold Obligations.StepsKeepTheKilns
  intro s t shapes setpoints next
  rw [← State.kilnsSound_iff]
  exact step_preserves (P := State.KilnsSound) (fun _ _ h => h.congr rfl rfl rfl) (fun _ _ h => h.congr rfl rfl rfl)
    (fun _ _ _ => Work.kilnsSound) next ((State.kilnsSound_iff s).mpr ⟨shapes, setpoints⟩)
end

section
/-!
PROOFS. The plan of a sweep: its reads and its discovery share no address, every address is a probe's, and the cursor
stays one (R110).
-/
namespace Sys2Proof.Machine

/-! ### Addresses -/

theorem mem_probeAddresses {a : Nat} : a ∈ probeAddresses ↔ 1 ≤ a ∧ a ≤ 24 := by
  simp only [probeAddresses, List.mem_map, List.mem_range]
  constructor
  · rintro ⟨b, _, rfl⟩; omega
  · rintro ⟨low, high⟩; exact ⟨a - 1, by omega, by omega⟩

theorem probeAddresses_nodup : probeAddresses.Nodup := by decide

/-- Addresses with none twice are at most 24. -/
theorem length_le_of_probeAddresses {l : List Nat} (nodup : l.Nodup) (sub : ∀ a ∈ l, a ∈ probeAddresses) :
    l.length ≤ 24 := (List.subperm_of_subset nodup sub).length_le

/-- From the cursor upward, 24 being followed by 1. -/
theorem addressesFrom_eq {cursor : Nat} (low : 1 ≤ cursor) (high : cursor ≤ 24) :
    addressesFrom cursor = (List.range 24).map fun j => (cursor - 1 + j) % 24 + 1 := by
  interval_cases cursor <;> rfl

theorem addressesFrom_perm (cursor : Nat) : (addressesFrom cursor).Perm probeAddresses := by
  have rest : probeAddresses.filter (fun a => decide (a < cursor)) =
      probeAddresses.filter (fun a => !decide (cursor ≤ a)) :=
    List.filter_congr fun a _ => by rw [← decide_not, decide_eq_decide]; omega
  rw [addressesFrom, rest]
  exact List.filter_append_perm _ _

theorem nextAddress_eq {a : Nat} (low : 1 ≤ a) (high : a ≤ 24) : nextAddress a = a % 24 + 1 := by
  unfold nextAddress
  split <;> omega

theorem nextAddress_mem {a : Nat} (low : 1 ≤ a) : 1 ≤ nextAddress a ∧ nextAddress a ≤ 24 := by
  unfold nextAddress
  split <;> omega

section
variable (s : State) (k : KilnNo)

/-! ### Reads -/

/-- The addresses that a plan reads are those that it would not discover. -/
theorem State.plannedReads_eq :
    s.plannedReads k = (probeAddresses.filter fun a => !s.discoveryAddress k a).map fun a => (a, .read) := by
  unfold State.plannedReads
  induction probeAddresses with
  | nil => rfl
  | cons a rest ih =>
    rw [List.filterMap_cons, List.filter_cons, State.discoveryAddress]
    cases s.presenceAt k a with
    | none => simpa using ih
    | some e =>
      by_cases read : e.state ≠ .foreign ∧ e.role ≠ some .excluded
      · simp [read, ih]
      · have other : (!(e.state == .foreign || e.role == some .excluded)) = false := by
          simpa [not_and_or] using read
        simp only [if_neg read, other, ih]
        rfl

/-! ### Discovery -/

/-- The addresses that a plan discovers are discovery addresses of a probe, none twice. -/
theorem State.planDiscovery_addresses :
    (s.planDiscovery k).2.1.Nodup ∧ ∀ a ∈ (s.planDiscovery k).2.1, a ∈ probeAddresses ∧ s.discoveryAddress k a = true := by
  have full : (s.fullDiscovery k).Nodup ∧ ∀ a ∈ s.fullDiscovery k, a ∈ probeAddresses ∧ s.discoveryAddress k a = true :=
    ⟨probeAddresses_nodup.filter _, fun a => List.mem_filter.mp⟩
  have regular : (s.regularDiscovery k).Nodup ∧
      ∀ a ∈ s.regularDiscovery k, a ∈ probeAddresses ∧ s.discoveryAddress k a = true := by
    have turned := addressesFrom_perm (s.sweep k).cursor
    refine ⟨((turned.nodup_iff.mpr probeAddresses_nodup).filter _).sublist (List.take_sublist ..), fun a taken => ?_⟩
    obtain ⟨member, discovered⟩ := List.mem_filter.mp (List.mem_of_mem_take taken)
    exact ⟨turned.mem_iff.mp member, discovered⟩
  unfold State.planDiscovery
  dsimp only
  split_ifs
  · exact full
  · exact regular
  · exact ⟨List.nodup_nil, nofun⟩

theorem getLastD_mem_of_ne_nil {α : Type} {l : List α} (nonempty : l ≠ []) (a : α) : l.getLastD a ∈ l := by
  rw [List.getLastD_eq_getLast?, List.getLast?_eq_some_getLast nonempty]
  exact List.getLast_mem nonempty

/-- The cursor follows the last address that a REGULAR plan discovers. -/
theorem State.planDiscovery_cursor_eq :
    (s.planDiscovery k).2.2 =
      if (s.sweep k).fullScan = true ∨ (s.planDiscovery k).2.1 = [] then (s.sweep k).cursor
      else nextAddress ((s.planDiscovery k).2.1.getLastD 0) := by
  unfold State.planDiscovery
  dsimp only
  by_cases full : (s.sweep k).fullScan = true
  · simp [full]
  · by_cases learning : (s.kiln k).config.learning = true
    · rw [if_neg full, if_pos learning]
      cases last : (s.regularDiscovery k).getLast? with
      | none => simp [List.getLast?_eq_none_iff.mp last]
      | some a =>
        have nonempty : s.regularDiscovery k ≠ [] := fun empty => by simp [empty] at last
        simp [full, nonempty, last, List.getLastD_eq_getLast?]
    · simp [full, learning]

/-- The cursor that a plan leaves is an address. -/
theorem State.planDiscovery_cursor (low : 1 ≤ (s.sweep k).cursor) (high : (s.sweep k).cursor ≤ 24) :
    1 ≤ (s.planDiscovery k).2.2 ∧ (s.planDiscovery k).2.2 ≤ 24 := by
  rw [s.planDiscovery_cursor_eq k]
  split_ifs with still
  · exact ⟨low, high⟩
  · have last := getLastD_mem_of_ne_nil (fun empty => still (.inr empty)) 0
    exact nextAddress_mem (mem_probeAddresses.mp ((s.planDiscovery_addresses k).2 _ last).1).1

/-! ### The plan -/

theorem State.sweepPlan_addresses :
    (s.sweepPlan k).map Prod.fst =
      (probeAddresses.filter fun a => !s.discoveryAddress k a) ++ (s.planDiscovery k).2.1 := by
  simp [State.sweepPlan, State.plannedReads_eq, Function.comp_def]

theorem State.sweepPlan_inRange : pairsInRange (s.sweepPlan k) = true ∧ (s.sweepPlan k).length ≤ 24 := by
  obtain ⟨nodup, discovered⟩ := s.planDiscovery_addresses k
  have distinct : ((s.sweepPlan k).map Prod.fst).Nodup := by
    rw [State.sweepPlan_addresses]
    refine (probeAddresses_nodup.filter _).append nodup fun a read found => ?_
    have := (List.mem_filter.mp read).2
    simp [(discovered a found).2] at this
  have probes : ∀ a ∈ (s.sweepPlan k).map Prod.fst, a ∈ probeAddresses := by
    rw [State.sweepPlan_addresses]
    exact List.forall_mem_append.mpr ⟨fun a read => (List.mem_filter.mp read).1, fun a found => (discovered a found).1⟩
  constructor
  · simp only [pairsInRange, Bool.and_eq_true, decide_eq_true_eq]
    exact ⟨distinct, fun x member => mem_probeAddresses.mp (probes x.1 (List.mem_map_of_mem member))⟩
  · simpa using length_le_of_probeAddresses distinct probes

end

end Sys2Proof.Machine
end

section
/-! PROOFS. The statement of the family of probes on the plans of sweeps. -/
open Sys2Proof Sys2Proof.Machine

/-- Settles O42, from the reads as the addresses that are not discovered, and the cursor's turn as one round. -/
theorem sweepPlansFollowTheTable : Obligations.SweepPlansFollowTheTable := by
  unfold Obligations.SweepPlansFollowTheTable
  intro s k w all reads discoverable turned found low high
  have discoverable_eq : discoverable = s.discoveryAddress k := rfl
  have reads_eq : reads = probeAddresses.filter fun a => !s.discoveryAddress k a := by
    refine List.filter_congr fun a _ => ?_
    unfold State.discoveryAddress
    cases s.presenceAt k a with
    | none => rfl
    | some e => cases state : e.state <;> simp [state, bne]
  have found_eq : found = (s.planDiscovery k).2.1 := by
    unfold State.planDiscovery State.fullDiscovery State.regularDiscovery
    rw [addressesFrom_eq low high]
    dsimp only
    split_ifs with full learning
    · exact if_pos full
    · exact (if_neg full).trans (if_pos learning)
    · exact (if_neg full).trans (if_neg learning)
  obtain ⟨inRange, length⟩ := s.sweepPlan_inRange k
  refine ⟨?plan, inRange, length, ?kind, ?cursor⟩
  case plan => rw [found_eq, reads_eq, State.sweepPlan, State.plannedReads_eq]
  case kind =>
    unfold State.planDiscovery
    dsimp only
    split_ifs <;> rfl
  case cursor =>
    rw [found_eq, s.planDiscovery_cursor_eq k]
    split_ifs with still
    · rfl
    · have last := getLastD_mem_of_ne_nil (fun empty => still (.inr empty)) 0
      obtain ⟨low, high⟩ := mem_probeAddresses.mp ((s.planDiscovery_addresses k).2 _ last).1
      exact nextAddress_eq low high
end

section
/-!
PROOFS. The probe unit through every work: each sweep record and each presence entry keeps its shape (R106, R107, R110,
R113). While an outcome is handled a sweep may stand with nothing outstanding, until it completes (R111, R116, R117).
-/
namespace Sys2Proof.Machine

/-! ### A sweep record, and an entry, in shape -/

/-- A sweep record's shape but for a completion that is due: its cursor and pairs in range, none outstanding in IDLE. -/
def SweepRecord.bounded (r : SweepRecord) : Prop :=
  (1 ≤ r.cursor ∧ r.cursor ≤ 24) ∧ (pairsInRange r.outstanding = true ∧ r.outstanding.length ≤ 24) ∧
    (r.kind = none → r.outstanding = [])

/-- The sweep is in flight with nothing outstanding: its completion is due (R117). -/
def SweepRecord.due (r : SweepRecord) : Prop := r.kind.isSome = true ∧ r.outstanding = []

theorem SweepRecord.shape_iff (r : SweepRecord) : r.shape = true ↔ r.bounded ∧ ¬r.due := by
  unfold SweepRecord.shape SweepRecord.bounded SweepRecord.due
  cases r.kind <;> cases r.outstanding <;> simp [and_assoc]

theorem pairsInRange.sublist {pairs fewer : List (Nat × ProbeCommand)} (h : pairsInRange pairs = true)
    (sub : fewer.Sublist pairs) : pairsInRange fewer = true := by
  simp only [pairsInRange, Bool.and_eq_true, decide_eq_true_eq] at *
  exact ⟨h.1.sublist (sub.map Prod.fst), fun x member => h.2 x (sub.subset member)⟩

theorem pairsInRange.address {pairs : List (Nat × ProbeCommand)} (h : pairsInRange pairs = true) {address : Nat}
    {command : ProbeCommand} (member : (address, command) ∈ pairs) : 1 ≤ address ∧ address ≤ 24 := by
  simp only [pairsInRange, Bool.and_eq_true, decide_eq_true_eq] at h
  exact h.2 _ member

theorem SweepRecord.bounded.erase {r : SweepRecord} (h : r.bounded) (pair : Nat × ProbeCommand)
    (discard : Option (Nat × ProbeCommand)) :
    SweepRecord.bounded { r with outstanding := r.outstanding.erase pair, discard := discard } := by
  obtain ⟨cursor, ⟨inRange, length⟩, idle⟩ := h
  have sub := List.erase_sublist (a := pair) (l := r.outstanding)
  exact ⟨cursor, ⟨pairsInRange.sublist inRange sub, sub.length_le.trans length⟩, fun none => by simp [idle none]⟩

theorem PresenceEntry.shape_iff (e : PresenceEntry) :
    e.shape = true ↔ (1 ≤ e.address ∧ e.address ≤ 24) ∧ (e.state = .foreign ↔ e.role = none) ∧
      (e.role.isSome = e.source.isSome) ∧ e.missCount ≤ 255 ∧ e.suspectCount ≤ 2 := by
  unfold PresenceEntry.shape
  cases e.state <;> cases e.role <;> cases e.source <;> simp

theorem PresenceEntry.created_shape (serial : Nat) (k : KilnNo) {address : Nat} (low : 1 ≤ address)
    (high : address ≤ 24) (resolved : Option (ProbeRole × RoleSource)) :
    (PresenceEntry.created serial k address resolved).shape = true := by
  rw [shape_iff]
  cases resolved <;> simp [PresenceEntry.created, low, high]

section
variable {e : PresenceEntry} (h : e.shape = true)
include h

theorem PresenceEntry.resolved_shape (resolved : Option (ProbeRole × RoleSource)) :
    (e.resolved resolved).1.shape = true := by
  unfold PresenceEntry.resolved
  split
  · split
    · exact h
    · rw [shape_iff] at h ⊢
      simp_all
  · split
    · rw [shape_iff] at h ⊢
      simp_all
    · rw [shape_iff] at h ⊢
      simp_all

theorem PresenceEntry.miss_shape (known : e.state ≠ .foreign) (lossLimit : Nat) : (e.miss lossLimit).1.shape = true := by
  rw [shape_iff] at h
  obtain ⟨address, foreign, source, misses, suspects⟩ := h
  have count : (if e.missCount < 255 then e.missCount + 1 else e.missCount) ≤ 255 := by split <;> omega
  unfold PresenceEntry.miss
  generalize (if e.missCount < 255 then e.missCount + 1 else e.missCount) = missed at count ⊢
  dsimp only
  split
  · rw [shape_iff]
    exact ⟨address, by simpa using fun none => known (foreign.mpr none), source, count, suspects⟩
  · rw [shape_iff]
    exact ⟨address, foreign, source, count, suspects⟩

theorem PresenceEntry.takeUsable_shape (known : e.state ≠ .foreign) (reading : Reading) (mc shift jumpLimit : Nat) :
    (e.takeUsable reading mc shift jumpLimit).shape = true := by
  rw [shape_iff] at h ⊢
  obtain ⟨address, foreign, source, -, -⟩ := h
  refine ⟨address, ?_, source, Nat.zero_le _, ?_⟩
  · simpa [PresenceEntry.takeUsable] using fun none => known (foreign.mpr none)
  · simp only [PresenceEntry.takeUsable, smooth]
    (repeat' split) <;> dsimp only <;> omega

theorem PresenceEntry.takeUnusable_shape (reading : Reading) : (e.takeUnusable reading).shape = true := h

end

/-! ### Every record and entry -/

/-- Every sweep record and every presence entry is in shape, but that the sweeps of the kilns `open` may be due to
complete. -/
structure State.SweepsBut (s : State) (due : KilnNo → Prop) : Prop where
  bounded : ∀ k, (s.sweep k).bounded
  settled : ∀ k, ¬due k → ¬(s.sweep k).due
  entries : s.presenceShaped

/-- No completion is due. -/
def nowhere : KilnNo → Prop := fun _ => False

theorem State.sweepsBut_nowhere_iff (s : State) : s.SweepsBut nowhere ↔ s.sweepsKept := by
  unfold State.sweepsKept
  simp only [SweepRecord.shape_iff]
  exact ⟨fun h => ⟨fun k => ⟨h.bounded k, h.settled k not_false⟩, h.entries⟩,
    fun h => ⟨fun k => (h.1 k).1, fun k _ => (h.1 k).2, h.2⟩⟩

section
variable {s t : State} {k : KilnNo} {due : KilnNo → Prop}

theorem State.SweepsBut.congr (h : s.SweepsBut due) (sweeps : t.sweeps = s.sweeps) (presence : t.presence = s.presence) :
    t.SweepsBut due := by
  obtain ⟨bounded, settled, entries⟩ := h
  refine ⟨?_, ?_, ?_⟩
  · simpa only [State.sweep, sweeps] using bounded
  · simpa only [State.sweep, sweeps] using settled
  · simpa only [State.presenceShaped, presence] using entries

theorem State.SweepsBut.setSweep (h : s.SweepsBut due) {r : SweepRecord} (bounded : r.bounded) (settled : ¬due k → ¬r.due) :
    (s.setSweep k r).SweepsBut due := by
  refine ⟨fun j => ?_, fun j notDue => ?_, h.entries⟩
  · rw [State.sweep_setSweep]
    split
    · exact bounded
    · exact h.bounded j
  · rw [State.sweep_setSweep]
    split
    next same => exact settled (same ▸ notDue)
    next => exact h.settled j notDue

/-- A change of a sweep record that leaves its kind, its pairs and its cursor. -/
theorem State.SweepsBut.modifySweep (h : s.SweepsBut due) {f : SweepRecord → SweepRecord}
    (kind : (f (s.sweep k)).kind = (s.sweep k).kind) (outstanding : (f (s.sweep k)).outstanding = (s.sweep k).outstanding)
    (cursor : (f (s.sweep k)).cursor = (s.sweep k).cursor) : (s.modifySweep k f).SweepsBut due := by
  refine h.setSweep ?_ fun notDue => ?_
  · have := h.bounded k
    rwa [SweepRecord.bounded, kind, outstanding, cursor]
  · have := h.settled k notDue
    rwa [SweepRecord.due, kind, outstanding]

theorem State.SweepsBut.withPresence (h : s.SweepsBut due) {entries : List PresenceEntry}
    (shaped : ∀ e ∈ entries, e.shape = true) : State.SweepsBut { s with presence := entries } due :=
  ⟨h.bounded, h.settled, shaped⟩

theorem State.SweepsBut.putPresence (h : s.SweepsBut due) {e : PresenceEntry} (shaped : e.shape = true) :
    (s.putPresence e).SweepsBut due :=
  h.withPresence fun x member => (mem_insertBy PresenceEntry.place member).elim (· ▸ shaped) (h.entries x)

theorem State.SweepsBut.removePresence (h : s.SweepsBut due) (k : KilnNo) (address : Nat) :
    (s.removePresence k address).SweepsBut due :=
  h.withPresence fun x member => h.entries x (List.mem_of_mem_filter member)

theorem State.SweepsBut.clearPresence (h : s.SweepsBut due) : (s.clearPresence k).SweepsBut due :=
  h.withPresence fun x member => h.entries x (List.mem_of_mem_filter member)

theorem State.SweepsBut.presenceAt (h : s.SweepsBut due) {address : Nat} {e : PresenceEntry}
    (found : s.presenceAt k address = some e) : e.shape = true :=
  h.entries e (findBy_some PresenceEntry.place found).2

theorem State.SweepsBut.addProbeEvent (h : s.SweepsBut due) (event : ProbeEvent) : (s.addProbeEvent k event).SweepsBut due := by
  have added : (s.modifySweep k fun r => { r with events := r.events.add event }).SweepsBut due :=
    h.modifySweep rfl rfl rfl
  unfold State.addProbeEvent
  dsimp only
  split
  · exact added.congr rfl rfl
  · exact added

theorem State.SweepsBut.modifyPort (h : s.SweepsBut due) {p : PortNo} {f : PortRecord → PortRecord} :
    (s.modifyPort p f).SweepsBut due := h.congr rfl rfl

theorem State.SweepsBut.writeSnapshot (h : s.SweepsBut due) : (s.writeSnapshot k).SweepsBut due :=
  h.congr (by simp) (by simp)

theorem State.SweepsBut.sendNext (h : s.SweepsBut due) {p : PortNo} : (s.sendNext p).SweepsBut due :=
  h.congr (by simp) (by simp)

/-! ### Completion and dropping -/

theorem State.SweepsBut.completeSweep (h : s.SweepsBut due) (nothing : (s.sweep k).outstanding = []) :
    (s.completeSweep k).SweepsBut fun j => due j ∧ j ≠ k := by
  have idle : (s.modifySweep k fun r => { r with kind := none }).SweepsBut fun j => due j ∧ j ≠ k := by
    refine ⟨fun j => ?_, fun j notDue => ?_, h.entries⟩
    · rw [State.modifySweep, State.sweep_setSweep]
      split
      · exact ⟨(h.bounded k).1, (h.bounded k).2.1, fun _ => nothing⟩
      · exact h.bounded j
    · rw [State.modifySweep, State.sweep_setSweep]
      split
      · exact fun isDue => Bool.false_ne_true isDue.1
      next other => exact h.settled j fun isDue => notDue ⟨isDue, Ne.symm other⟩
  unfold State.completeSweep
  exact idle.congr (by simp) (by simp)

/-- A sweep that is due completes, and no other is touched (R117). -/
theorem State.SweepsBut.completeIfDone (h : s.SweepsBut due) : (s.completeIfDone k).SweepsBut fun j => due j ∧ j ≠ k := by
  unfold State.completeIfDone
  split
  next isDue =>
    rw [Bool.and_eq_true, List.isEmpty_iff] at isDue
    exact h.completeSweep isDue.2
  next notDue =>
    rw [Bool.and_eq_true, List.isEmpty_iff] at notDue
    refine ⟨h.bounded, fun j other => ?_, h.entries⟩
    by_cases same : j = k
    · exact same ▸ notDue
    · exact h.settled j fun isDue => other ⟨isDue, same⟩

theorem State.SweepsBut.mono (h : s.SweepsBut due) {more : KilnNo → Prop} (sub : ∀ j, due j → more j) : s.SweepsBut more :=
  ⟨h.bounded, fun j notMore => h.settled j fun isDue => notMore (sub j isDue), h.entries⟩

/-- A planned exchange dropped may leave its kiln's sweep due (R116). -/
theorem State.SweepsBut.dropPlanned (h : s.SweepsBut due) (mayBeDue : due k) (address : Nat) :
    (s.dropPlanned k address).SweepsBut due := by
  unfold State.dropPlanned
  split
  · split
    · dsimp only
      refine State.SweepsBut.modifyPort ?_
      exact h.setSweep ((h.bounded k).erase ..) fun notDue => absurd mayBeDue notDue
    · exact h
  · exact h

/-! ### Identity resolution -/

theorem State.SweepsBut.leaveOldPlace (h : s.SweepsBut due) {address serial : Nat}
    (mayBeDue : ∀ e, s.presenceOf serial = some e → due e.port) : (s.leaveOldPlace k address serial).SweepsBut due := by
  unfold State.leaveOldPlace
  split
  next e found =>
    split
    · exact h
    · have dropped := (h.removePresence e.port e.address).dropPlanned (mayBeDue e found) e.address
      dsimp only
      split <;> exact dropped.addProbeEvent _
  next => exact h

theorem State.SweepsBut.leavePlace (h : s.SweepsBut due) (address serial : Nat) :
    (s.leavePlace k address serial).SweepsBut due := by
  unfold State.leavePlace
  split
  · split
    · exact h
    · exact (h.removePresence k address).addProbeEvent _
  · exact h

theorem State.SweepsBut.settleEntry (h : s.SweepsBut due) {address : Nat} (low : 1 ≤ address) (high : address ≤ 24)
    (serial : Nat) : (s.settleEntry k address serial).SweepsBut due := by
  unfold State.settleEntry
  dsimp only
  split
  next e found =>
    have put := h.putPresence (e.resolved_shape (h.presenceAt found) (s.resolveRole k serial))
    split
    · exact put.addProbeEvent _
    · exact put
  next =>
    split
    · exact h.addProbeEvent _
    · exact (h.putPresence (PresenceEntry.created_shape serial k low high _)).addProbeEvent _

theorem State.SweepsBut.resolveIdentity (h : s.SweepsBut due) {address serial : Nat} (low : 1 ≤ address)
    (high : address ≤ 24) (mayBeDue : ∀ e, s.presenceOf serial = some e → due e.port) :
    (s.resolveIdentity k address serial).SweepsBut due :=
  ((h.leaveOldPlace mayBeDue).leavePlace address serial).settleEntry low high serial

/-! ### Readings and misses -/

theorem State.SweepsBut.countMiss (h : s.SweepsBut due) (address : Nat) : (s.countMiss k address).SweepsBut due := by
  unfold State.countMiss
  split
  next e found =>
    split
    · exact h
    next known =>
      have put := h.putPresence (e.miss_shape (h.presenceAt found) known (s.kiln k).config.lossLimit)
      dsimp only
      split
      · exact put.addProbeEvent _
      · exact put
  next => exact h

theorem State.SweepsBut.recordReading (h : s.SweepsBut due) {e : PresenceEntry} (shaped : e.shape = true)
    (known : e.state ≠ .foreign) (reading : Reading) : (s.recordReading k e reading).SweepsBut due := by
  have unusable := h.putPresence (e.takeUnusable_shape shaped reading)
  unfold State.recordReading
  split
  next mc _ _ =>
    have put := h.putPresence (e.takeUsable_shape shaped known reading mc (s.kiln k).config.smoothingShift
      (s.kiln k).config.jumpLimit)
    dsimp only
    split
    · exact put.addProbeEvent _
    · exact put
  next => exact unusable
  all_goals exact unusable.countMiss _

theorem State.SweepsBut.probeReading (h : s.SweepsBut due) (address lCode : Nat) (fault : Bool) :
    (s.probeReading k address lCode fault).SweepsBut due := by
  unfold State.probeReading
  split
  next e found =>
    split
    · exact h
    next known => exact h.recordReading (h.presenceAt found) known _
  next => exact h

/-! ### Outcomes of sweep exchanges -/

/-- The kilns whose sweeps an outcome may leave due: its own, and that of the port its serial leaves. -/
def State.touched (s : State) (k : KilnNo) (command : ProbeCommand) (outcome : ExchangeOutcome) (data : List Octet)
    (j : KilnNo) : Prop := j = k ∨ s.leftKiln k command outcome data = some j

theorem State.touched_of_presenceOf {command : ProbeCommand} {data : List Octet} {serial : Nat}
    (heard : replySerial command data = some serial) {e : PresenceEntry} (found : s.presenceOf serial = some e) :
    s.touched k command .good data e.port := by
  unfold State.touched State.leftKiln
  by_cases same : e.port = k
  · exact .inl same
  · simp [heard, found, same]

theorem State.SweepsBut.handleProbeOutcome {command : ProbeCommand} {outcome : ExchangeOutcome} {data : List Octet}
    {address : Nat} (h : s.SweepsBut (s.touched k command outcome data)) (low : 1 ≤ address) (high : address ≤ 24) :
    (s.handleProbeOutcome k address command outcome data).SweepsBut (s.touched k command outcome data) := by
  unfold State.handleProbeOutcome State.goodProbeOutcome
  split
  next =>
    split
    · exact h
    next serial heard =>
      have settled := h.resolveIdentity (k := k) (serial := serial) low high fun e found =>
        State.touched_of_presenceOf heard found
      dsimp only
      split
      · exact settled.probeReading ..
      · exact settled
  next => exact h.countMiss _
  next => exact h

theorem State.SweepsBut.probeOutcome (h : s.SweepsBut nowhere) (address : Nat) (command : ProbeCommand)
    (outcome : ExchangeOutcome) (data : List Octet) : (s.probeOutcome k address command outcome data).SweepsBut nowhere := by
  unfold State.probeOutcome
  split
  · exact h.modifySweep rfl rfl rfl
  · split
    next outstanding =>
      obtain ⟨low, high⟩ := pairsInRange.address (h.bounded k).2.1.1 outstanding
      let erased := s.modifySweep k fun r => { r with outstanding := r.outstanding.erase (address, command) }
      have open' : erased.SweepsBut (erased.touched k command outcome data) :=
        (h.mono (fun _ => False.elim)).setSweep ((h.bounded k).erase _ _) fun other => absurd (.inl rfl) other
      have handled := (open'.handleProbeOutcome low high).completeIfDone (k := k)
      have left : erased.leftKiln k command outcome data = s.leftKiln k command outcome data := rfl
      dsimp only
      split
      next j other =>
        refine handled.completeIfDone.mono fun i isDue => ?_
        obtain ⟨⟨same | elsewhere, notOwn⟩, notOther⟩ := isDue
        · exact notOwn same
        · exact notOther (Option.some.inj (elsewhere.symm.trans (left.trans other)))
      next other =>
        refine handled.mono fun i isDue => ?_
        obtain ⟨same | elsewhere, notOwn⟩ := isDue
        · exact notOwn same
        · exact Option.some_ne_none i (elsewhere.symm.trans (left.trans other))
    next => exact h

/-! ### Beginning, forgetting and ending -/

theorem State.SweepsBut.planSweep (h : s.SweepsBut nowhere) : (s.planSweep k).SweepsBut nowhere := by
  obtain ⟨inRange, length⟩ := s.sweepPlan_inRange k
  have cursor := s.planDiscovery_cursor k (h.bounded k).1.1 (h.bounded k).1.2
  unfold State.planSweep
  dsimp only
  split
  next =>
    refine .mono (.completeSweep (due := (· = k)) ?_ ?_) fun j isDue => isDue.2 isDue.1
    · exact (h.mono fun _ => False.elim).setSweep ⟨cursor, ⟨rfl, Nat.zero_le _⟩, fun _ => rfl⟩ (absurd rfl)
    · simp [State.modifySweep]
  next nonempty =>
    split
    · refine State.SweepsBut.sendNext (State.SweepsBut.modifyPort (h.setSweep ?_ ?_))
      · exact ⟨cursor, ⟨inRange, length⟩, nofun⟩
      · exact fun _ isDue => nonempty (List.isEmpty_iff.mpr isDue.2)
    · exact h.setSweep ⟨cursor, (h.bounded k).2⟩ fun _ => h.settled k not_false

theorem State.SweepsBut.chooseFullScan (h : s.SweepsBut nowhere) (full : Bool) :
    (s.chooseFullScan k full).SweepsBut nowhere := by
  unfold State.chooseFullScan
  split
  · exact h.modifySweep rfl rfl rfl
  · exact h

theorem State.SweepsBut.sweepIntervalOver (h : s.SweepsBut nowhere) : (s.sweepIntervalOver k).SweepsBut nowhere := by
  unfold State.sweepIntervalOver
  split
  · have started : (s.modifySweep k fun r => { r with interval := some (s.sweepIntervalOf k) }).SweepsBut nowhere :=
      h.modifySweep rfl rfl rfl
    dsimp only
    split
    · exact started.planSweep
    · exact started
  · exact h

theorem State.SweepsBut.forgetEntry (h : s.SweepsBut nowhere) (e : PresenceEntry) : (s.forgetEntry e).SweepsBut nowhere := by
  have open' := (h.mono (more := (· = e.port)) fun _ => False.elim).removePresence e.port e.address
  exact (open'.dropPlanned rfl e.address).completeIfDone.mono fun _ isDue => isDue.2 isDue.1

theorem SweepRecord.bounded.aborted {r : SweepRecord} (h : r.bounded) : r.aborted.bounded :=
  ⟨h.1, ⟨rfl, Nat.zero_le _⟩, fun _ => rfl⟩

theorem State.SweepsBut.probePortLeftUp (h : s.SweepsBut nowhere) : (s.probePortLeftUp k).SweepsBut nowhere := by
  have aborted : (s.abortSweep k).SweepsBut nowhere :=
    h.setSweep (h.bounded k).aborted fun _ isDue => Bool.false_ne_true isDue.1
  unfold State.probePortLeftUp
  dsimp only
  split
  · exact aborted.modifySweep rfl rfl rfl
  · exact h.modifySweep rfl rfl rfl

theorem State.SweepsBut.abortForUnload (h : s.SweepsBut nowhere) : (s.abortForUnload k).SweepsBut nowhere := by
  unfold State.abortForUnload
  split
  · dsimp only
    refine State.SweepsBut.modifyPort (h.setSweep ?_ ?_)
    · exact (h.bounded k).aborted
    · exact fun _ isDue => Bool.false_ne_true isDue.1
  · exact h

theorem State.SweepsBut.unloadKiln (h : s.SweepsBut nowhere) : (s.unloadKiln k).SweepsBut nowhere := by
  have ended : ((s.stageCharge (s.kiln k).chargeNumber).setSnapshot k none).SweepsBut nowhere :=
    h.congr (by simp) (by simp)
  have emptied := (ended.abortForUnload (k := k)).clearPresence (k := k)
  unfold State.unloadKiln State.probesUnloaded
  exact (emptied.modifySweep (k := k) (f := fun r => { r with events := .empty }) rfl rfl rfl).congr (by simp) (by simp)

theorem State.SweepsBut.loadKiln (h : s.SweepsBut nowhere) (e : SpeciesEntry) (id : Nat) (x : Schedule) :
    (s.loadKiln k e id x).SweepsBut nowhere := by
  have told {t : State} (h : t.SweepsBut nowhere) : (t.probesLoaded k).SweepsBut nowhere :=
    h.clearPresence.setSweep ⟨⟨Nat.le_refl 1, (by decide : 1 ≤ 24)⟩, (h.bounded k).2⟩ fun _ => h.settled k not_false
  have filled {f : KilnRecord → KilnRecord} : (((s.writeChargeCounter s.issuedChargeNumber).addCharge
      (.created s.issuedChargeNumber k e.code id s.stamp)).modifyKiln k f).SweepsBut nowhere := h.congr rfl rfl
  exact State.SweepsBut.writeSnapshot (told filled)

/-! ### The ports' events -/

theorem State.SweepsBut.handOutcome (h : s.SweepsBut nowhere) (p : PortNo) (e : Exchange) (outcome : ExchangeOutcome)
    (reply : StationReply) : (s.handOutcome p e outcome reply).SweepsBut nowhere := by
  unfold State.handOutcome
  split
  · exact h.congr (by simp) (by simp)
  · exact h.probeOutcome ..
  · split
    · exact h
    · exact h.probeOutcome ..
  · exact h.congr (by simp) (by simp)
  · exact h.congr (by simp) (by simp)
  · exact h.congr (by simp) (by simp)
  · exact h

theorem State.SweepsBut.endExchange (h : s.SweepsBut nowhere) (p : PortNo) (outcome : ExchangeOutcome)
    (reply : StationReply) : (s.endExchange p outcome reply).SweepsBut nowhere := by
  unfold State.endExchange
  split
  · exact h
  next e _ =>
    have closed : (s.closeExchange p outcome).SweepsBut nowhere := h.congr (by simp) (by simp)
    exact (closed.handOutcome p e outcome reply).congr (by simp) (by simp)

theorem State.SweepsBut.windowOver (h : s.SweepsBut nowhere) (p : PortNo) : (s.windowOver p).SweepsBut nowhere := by
  have ended := h.endExchange p .timeout noReplyData
  unfold State.windowOver
  (repeat' split) <;> with_reducible assumption

theorem State.SweepsBut.octetSilence (h : s.SweepsBut nowhere) (p : PortNo) : (s.octetSilence p).SweepsBut nowhere := by
  have ended := h.endExchange p .truncated noReplyData
  unfold State.octetSilence
  (repeat' split) <;> with_reducible assumption

theorem State.SweepsBut.receiveFieldOctet (h : s.SweepsBut nowhere) (p : PortNo) (octet : Octet) (error : Bool) :
    (s.receiveFieldOctet p octet error).SweepsBut nowhere := by
  have phase (f : PortRecord → PortRecord) : (s.modifyPort p f).SweepsBut nowhere := h.congr (by simp) (by simp)
  have ended := fun outcome => h.endExchange p outcome
  unfold State.receiveFieldOctet State.receiveReplyOctet
  dsimp only
  (repeat' split) <;> with_reducible apply_assumption

theorem State.SweepsBut.takeLineFault (h : s.SweepsBut nowhere) (p : PortNo) : (s.takeLineFault p).SweepsBut nowhere := by
  have ended : (s.faultExchange p).SweepsBut nowhere := by
    unfold State.faultExchange
    split
    next e _ =>
      have closed : (s.closeExchange p .framing).SweepsBut nowhere := h.congr (by simp) (by simp)
      exact closed.handOutcome ..
    next => exact h
  unfold State.takeLineFault
  dsimp only
  split
  · split <;> exact ended.congr (by simp) (by simp)
  · exact h

/-! ### Resets -/

theorem State.volatileReset_sweeps (b : Backup) (eye : Bool) (rate : LinkRate) (queue : List Instr) :
    (State.volatileReset b eye rate queue).SweepsBut nowhere := by
  have initial (k : KilnNo) : (State.volatileReset b eye rate queue).sweep k = .initial := by
    simp [State.sweep, State.volatileReset, Vector.get_eq_getElem]
  refine ⟨fun k => ?_, fun k _ => ?_, fun e member => absurd member List.not_mem_nil⟩
  · rw [initial k]
    exact ⟨⟨Nat.le_refl 1, (by decide : 1 ≤ 24)⟩, ⟨rfl, Nat.zero_le _⟩, fun _ => rfl⟩
  · rw [initial k]
    exact fun isDue => Bool.false_ne_true isDue.1

theorem State.resetKept_sweeps (s : State) (straps : Straps) : (s.resetKept straps).SweepsBut nowhere := by
  have start := State.volatileReset_sweeps s.backup s.line.eyePin (.ofStraps straps) s.pending
  exact start.congr (by simp [State.resetKept]) (by simp [State.resetKept])

theorem State.powerOnReset_sweeps (s : State) (straps : Straps) : (s.powerOnReset straps).SweepsBut nowhere := by
  unfold State.powerOnReset
  split
  · exact s.resetKept_sweeps straps
  · exact (State.volatileReset_sweeps .cleared s.line.eyePin (.ofStraps straps) s.pending).congr rfl rfl

theorem State.stilled_sweeps (s : State) (power : Power) : (s.stilled power).SweepsBut nowhere :=
  (State.volatileReset_sweeps s.backup s.line.eyePin s.link.rate s.pending).congr rfl rfl

theorem State.SweepsBut.moveResetPin (h : s.SweepsBut nowhere) (edge : ResetEdge) (straps : Straps) :
    (s.moveResetPin edge straps).SweepsBut nowhere := by
  have kept := s.resetKept_sweeps straps
  have held := s.stilled_sweeps .held
  unfold State.moveResetPin
  split <;> with_reducible assumption

theorem State.SweepsBut.replyDone (h : s.SweepsBut nowhere) (straps : Straps) : (s.replyDone straps).SweepsBut nowhere := by
  have kept := s.resetKept_sweeps straps
  have sent : (s.popFrame.modifyLink fun l => { l with buffer := none }).SweepsBut nowhere := h.congr rfl rfl
  unfold State.replyDone
  (repeat' split) <;> with_reducible assumption

end

/-! ### Every work -/

theorem Work.sweeps {i : Instr} {s t : State} (work : Work i s t) (h : s.SweepsBut nowhere) : t.SweepsBut nowhere := by
  cases work
  case load => exact h.loadKiln ..
  case unload => exact h.unloadKiln
  case abandon => exact h.unloadKiln
  case chooseFullScan full => exact h.chooseFullScan full
  case sweepNow full => exact (h.chooseFullScan full).planSweep
  case emptyEvents => exact h.modifySweep rfl rfl rfl
  case forget => exact h.forgetEntry _
  case replyDone => exact h.replyDone _
  case powerOn => exact s.powerOnReset_sweeps _
  case resetPin => exact h.moveResetPin _ _
  case powerFail => exact s.stilled_sweeps .off
  case windowOver => exact h.windowOver _
  case receiveFieldOctet => exact h.receiveFieldOctet ..
  case octetSilence => exact h.octetSilence _
  case lineFault => exact h.takeLineFault _
  case probePortUp k =>
    have taken : (s.takeReport (.probePortUp k)).SweepsBut nowhere := h.congr rfl rfl
    exact taken.modifySweep rfl rfl rfl
  case probePortLeftUp k =>
    have taken : (s.takeReport (.probePortLeftUp k)).SweepsBut nowhere := h.congr rfl rfl
    exact taken.probePortLeftUp
  case sweepIntervalOver => exact h.sweepIntervalOver
  all_goals exact h.congr (by simp) (by simp)

end Sys2Proof.Machine
end

section
/-! PROOFS. The statement that every step keeps the probe unit. -/
open Sys2Proof Sys2Proof.Machine

/-- Settles O59, from what every work makes of the sweep records and the presence table: a sweep that an outcome or a
dropped exchange leaves with nothing outstanding completes within the same work. -/
theorem stepsKeepTheProbeUnit : Obligations.StepsKeepTheProbeUnit := by
  unfold Obligations.StepsKeepTheProbeUnit
  intro s t kept next
  rw [← State.sweepsBut_nowhere_iff] at kept ⊢
  exact step_preserves (P := fun s => s.SweepsBut nowhere) (fun _ _ h => h.congr rfl rfl) (fun _ _ h => h.congr rfl rfl)
    (fun _ _ _ => Work.sweeps) next kept
end

section
/-!
PROOFS. The port records through every work: each keeps the shape of its state (R87, R90, R93, R96). A block that asks for
an exchange changes a port in UP only, and only in what waits and what is in flight there (R97).
-/
namespace Sys2Proof.Machine

/-! ### A port record in shape -/

/-- A port record has the shape of its state, said field by field. -/
structure PortRecord.Shaped (r : PortRecord) : Prop where
  rate : r.rate.isSome = true ↔ r.state = .up
  attempt : r.attempt.isSome = true ↔ r.state = .establishing
  number : ∀ n, r.attempt = some n → 1 ≤ n ∧ n ≤ 4
  limit : 2 ≤ r.failureLimit ∧ r.failureLimit ≤ 10
  failures : r.failureCount < r.failureLimit
  faults : r.lineFaultCount ≤ 5
  outsideUp : r.state ≠ .up → r.sweepQueue = [] ∧ r.waiting = none ∧ r.setpointDue = false ∧ r.idleWait = false ∧
    r.healthDue = false ∧ r.controllerInterval = none
  exchange : r.exchange ≠ none → r.state = .up ∨ r.state = .establishing
  wake : r.wake ≠ .none → r.state = .establishing ∧ r.exchange = none
  gap : r.attemptGap = true → r.state = .establishing ∧ r.exchange = none ∧ r.wake = .none ∧
    ∀ n, r.attempt = some n → n < 4
  autoretry : r.autoretryWait = true → r.state = .lineFault
  reestablish : r.reestablishWait = true → r.state = .down

theorem PortRecord.shape_iff (r : PortRecord) : r.shape = true ↔ r.Shaped := by
  have imp (a b : Bool) : (!a || b) = true ↔ (a = true → b = true) := by cases a <;> simp
  have upOr (b : Bool) : (r.state == .up || b) = true ↔ (r.state ≠ .up → b = true) := by cases r.state <;> simp
  have wakeOr (b : Bool) : (r.wake == .none || b) = true ↔ (r.wake ≠ .none → b = true) := by cases r.wake <;> simp
  have flight : (r.exchange.isNone || r.state == .up || r.state == .establishing) = true ↔
      (r.exchange ≠ none → r.state = .up ∨ r.state = .establishing) := by cases r.exchange <;> simp
  have both (a b : Bool) : (a == b) = true ↔ (a = true ↔ b = true) := by cases a <;> cases b <;> decide
  unfold PortRecord.shape
  simp only [Bool.and_eq_true, imp, upOr, wakeOr, flight, both, beq_iff_eq, decide_eq_true_eq, Bool.not_eq_true',
    List.isEmpty_iff, Option.isNone_iff_eq_none, Option.mem_def]
  constructor
  · rintro ⟨⟨⟨⟨⟨⟨⟨⟨⟨⟨⟨rate, attempt⟩, number⟩, limit⟩, failures⟩, faults⟩, outside⟩, exchange⟩, wake⟩, gap⟩, auto⟩, again⟩
    refine ⟨rate, attempt, number, limit, failures, faults, fun notUp => ?_, exchange, wake, fun isGap => ?_, auto, again⟩
    · obtain ⟨⟨⟨⟨⟨queue, waiting⟩, due⟩, idle⟩, health⟩, interval⟩ := outside notUp
      exact ⟨queue, waiting, due, idle, health, interval⟩
    · obtain ⟨⟨⟨state, none⟩, still⟩, before⟩ := gap isGap
      exact ⟨state, none, still, before⟩
  · rintro ⟨rate, attempt, number, limit, failures, faults, outside, exchange, wake, gap, auto, again⟩
    refine ⟨⟨⟨⟨⟨⟨⟨⟨⟨⟨⟨rate, attempt⟩, number⟩, limit⟩, failures⟩, faults⟩, fun notUp => ?_⟩, exchange⟩, wake⟩, fun isGap => ?_⟩, auto⟩,
      again⟩
    · obtain ⟨queue, waiting, due, idle, health, interval⟩ := outside notUp
      exact ⟨⟨⟨⟨⟨queue, waiting⟩, due⟩, idle⟩, health⟩, interval⟩
    · obtain ⟨state, none, still, before⟩ := gap isGap
      exact ⟨⟨⟨state, none⟩, still⟩, before⟩

section
variable {r : PortRecord} (h : r.Shaped)
include h

theorem PortRecord.Shaped.not_autoretry (other : r.state ≠ .lineFault) : r.autoretryWait = false :=
  Bool.eq_false_iff.mpr fun waits => other (h.autoretry waits)

theorem PortRecord.Shaped.not_reestablish (other : r.state ≠ .down) : r.reestablishWait = false :=
  Bool.eq_false_iff.mpr fun waits => other (h.reestablish waits)

theorem PortRecord.Shaped.rate_none (notUp : r.state ≠ .up) : r.rate = none := by
  have := mt h.rate.mp notUp
  simpa using this

/-- With an exchange in flight there is neither a wake nor a gap. -/
theorem PortRecord.Shaped.awake_of_exchange (flying : r.exchange ≠ none) : r.wake = .none ∧ r.attemptGap = false :=
  ⟨not_not.mp fun waking => flying (h.wake waking).2, Bool.eq_false_iff.mpr fun gap => flying (h.gap gap).2.1⟩

/-- A port drives its line in UP and ESTABLISHING only. -/
theorem PortRecord.Shaped.not_down_of_driving (driving : r.driving = true) : r.state ≠ .down := by
  intro down
  rw [PortRecord.driving, Bool.or_eq_true, beq_iff_eq] at driving
  rcases driving with pulse | sending
  · obtain ⟨establishing, -⟩ := h.wake (by rw [pulse]; decide)
    rw [down] at establishing
    cases establishing
  · have flying : r.exchange ≠ none := fun none => by simp [none] at sending
    have := h.exchange flying
    rw [down] at this
    simp at this

end

/-! ### What a block's asking changes -/

/-- The record but for what waits and what is in flight in UP. -/
def PortRecord.standing (r : PortRecord) : PortRecord :=
  { r with exchange := none, idleWait := false, healthDue := false, setpointDue := false, sweepQueue := [],
           waiting := none }

/-- A block's asking turns r into q: in UP only, in what waits and what is in flight, and with nothing sent while the line
must be silent. -/
structure PortRecord.Served (r q : PortRecord) : Prop where
  standing : q.standing = r.standing
  outsideUp : r.state ≠ .up → q = r
  silent : r.silentWait = true → q.exchange = r.exchange

section
variable {r q : PortRecord}

theorem PortRecord.Served.refl (r : PortRecord) : r.Served r := ⟨rfl, fun _ => rfl, fun _ => rfl⟩

section
variable (h : r.Served q)
include h

theorem PortRecord.Served.state : q.state = r.state := (congrArg PortRecord.state h.standing :)
theorem PortRecord.Served.rate : q.rate = r.rate := (congrArg PortRecord.rate h.standing :)
theorem PortRecord.Served.attempt : q.attempt = r.attempt := (congrArg PortRecord.attempt h.standing :)
theorem PortRecord.Served.failureLimit : q.failureLimit = r.failureLimit := (congrArg PortRecord.failureLimit h.standing :)
theorem PortRecord.Served.failureCount : q.failureCount = r.failureCount := (congrArg PortRecord.failureCount h.standing :)
theorem PortRecord.Served.lineFaultCount : q.lineFaultCount = r.lineFaultCount :=
  (congrArg PortRecord.lineFaultCount h.standing :)
theorem PortRecord.Served.wake : q.wake = r.wake := (congrArg PortRecord.wake h.standing :)
theorem PortRecord.Served.attemptGap : q.attemptGap = r.attemptGap := (congrArg PortRecord.attemptGap h.standing :)
theorem PortRecord.Served.silentWait : q.silentWait = r.silentWait := (congrArg PortRecord.silentWait h.standing :)
theorem PortRecord.Served.autoretryWait : q.autoretryWait = r.autoretryWait := (congrArg PortRecord.autoretryWait h.standing :)
theorem PortRecord.Served.reestablishWait : q.reestablishWait = r.reestablishWait :=
  (congrArg PortRecord.reestablishWait h.standing :)

theorem PortRecord.Served.trans {x : PortRecord} (next : q.Served x) : r.Served x where
  standing := next.standing.trans h.standing
  outsideUp notUp := (next.outsideUp (h.state ▸ notUp)).trans (h.outsideUp notUp)
  silent wait := (next.silent (h.silentWait.trans wait)).trans (h.silent wait)

theorem PortRecord.Shaped.of_served (shaped : r.Shaped) : q.Shaped := by
  by_cases up : r.state = .up
  · have notEstablishing : r.state ≠ .establishing := by rw [up]; decide
    have asleep : r.wake = .none := not_not.mp fun waking => notEstablishing (shaped.wake waking).1
    have noGap : r.attemptGap = false := Bool.eq_false_iff.mpr fun gap => notEstablishing (shaped.gap gap).1
    exact {
      rate := by rw [h.rate, h.state]; exact shaped.rate
      attempt := by rw [h.attempt, h.state]; exact shaped.attempt
      number := by rw [h.attempt]; exact shaped.number
      limit := by rw [h.failureLimit]; exact shaped.limit
      failures := by rw [h.failureCount, h.failureLimit]; exact shaped.failures
      faults := by rw [h.lineFaultCount]; exact shaped.faults
      outsideUp := fun notUp => absurd (h.state.trans up) notUp
      exchange := fun _ => .inl (h.state.trans up)
      wake := fun waking => absurd (h.wake.trans asleep) waking
      gap := fun gap => absurd (gap.symm.trans (h.attemptGap.trans noGap)) (by decide)
      autoretry := by rw [h.autoretryWait, h.state]; exact shaped.autoretry
      reestablish := by rw [h.reestablishWait, h.state]; exact shaped.reestablish }
  · rw [h.outsideUp up]; exact shaped

end

theorem PortRecord.served_of_up (up : r.state = .up) (standing : q.standing = r.standing)
    (silent : r.silentWait = true → q.exchange = r.exchange) : r.Served q :=
  ⟨standing, fun notUp => absurd up notUp, silent⟩

theorem PortRecord.lineFree_iff : r.lineFree = true ↔ r.state = .up ∧ r.exchange = none ∧ r.silentWait = false := by
  simp [PortRecord.lineFree, and_assoc]

theorem PortRecord.sendOnKilnPort_served (free : r.lineFree = true) (x : Setpoint) : r.Served (r.sendOnKilnPort x) := by
  obtain ⟨up, -, silent⟩ := lineFree_iff.mp free
  refine served_of_up up ?_ fun wait => absurd (silent.symm.trans wait) (by decide)
  unfold PortRecord.sendOnKilnPort
  (repeat' split) <;> rfl

theorem PortRecord.sendOnDevicePort_served (free : r.lineFree = true) : r.Served r.sendOnDevicePort := by
  obtain ⟨up, -, silent⟩ := lineFree_iff.mp free
  refine served_of_up up ?_ fun wait => absurd (silent.symm.trans wait) (by decide)
  unfold PortRecord.sendOnDevicePort
  (repeat' split) <;> rfl

end

/-! ### Every port record -/

/-- Every port record has its shape. -/
def State.PortsShaped (s : State) : Prop := ∀ p, (s.port p).Shaped

theorem State.portsShaped_iff (s : State) : s.PortsShaped ↔ s.portsKept := by
  unfold State.PortsShaped State.portsKept
  simp only [PortRecord.shape_iff]

/-- The ports are in shape, and are those of `from` but for what blocks have asked since. -/
structure State.PortsFrom (origin s : State) : Prop where
  shaped : s.PortsShaped
  served : ∀ p, (origin.port p).Served (s.port p)

section
variable {o s t : State} {p : PortNo} {k : KilnNo}

theorem State.PortsShaped.portsFrom (h : s.PortsShaped) : s.PortsFrom s := ⟨h, fun _ => .refl _⟩

theorem State.PortsShaped.congr (h : s.PortsShaped) (ports : t.ports = s.ports) : t.PortsShaped := by
  simpa only [State.PortsShaped, State.port, ports] using h

theorem State.PortsFrom.congr (h : o.PortsFrom s) (ports : t.ports = s.ports) : o.PortsFrom t :=
  ⟨h.shaped.congr ports, by simpa only [State.port, ports] using h.served⟩

theorem State.portsShaped_modifyPort {f : PortRecord → PortRecord} (others : ∀ q, q ≠ p → (s.port q).Shaped)
    (shaped : (f (s.port p)).Shaped) : (s.modifyPort p f).PortsShaped := by
  intro q
  rw [State.modifyPort, State.port_setPort]
  split
  next => exact shaped
  next other => exact others q (Ne.symm other)

theorem State.PortsShaped.modifyPort (h : s.PortsShaped) {f : PortRecord → PortRecord} (shaped : (f (s.port p)).Shaped) :
    (s.modifyPort p f).PortsShaped := s.portsShaped_modifyPort (fun q _ => h q) shaped

theorem State.PortsFrom.modifyPort (h : o.PortsFrom s) {f : PortRecord → PortRecord}
    (served : (s.port p).Served (f (s.port p))) : o.PortsFrom (s.modifyPort p f) := by
  refine ⟨h.shaped.modifyPort ((h.shaped p).of_served served), fun q => ?_⟩
  rw [State.modifyPort, State.port_setPort]
  split
  next same => exact same ▸ (h.served p).trans served
  next => exact h.served q

theorem State.PortsFrom.sendNext (h : o.PortsFrom s) : o.PortsFrom (s.sendNext p) := by
  unfold State.sendNext
  split
  next free =>
    split
    · exact h.modifyPort (PortRecord.sendOnKilnPort_served free _)
    · exact h.modifyPort (PortRecord.sendOnDevicePort_served free)
  next => exact h

theorem PortRecord.answerTo_taken_up {r : PortRecord} (taken : r.answerTo = .taken) : r.state = .up := by
  unfold PortRecord.answerTo at taken
  split at taken
  · cases taken
  next up => simpa using up

theorem State.PortsFrom.askPort (h : o.PortsFrom s) (w : WaitingExchange) : o.PortsFrom (s.askPort p w) := by
  unfold State.askPort
  split
  next taken =>
    refine State.PortsFrom.sendNext (h.modifyPort ?_)
    exact PortRecord.served_of_up (PortRecord.answerTo_taken_up taken) rfl fun _ => rfl
  next => exact h
  next => exact h

/-- Nothing waits outside UP, so a withdrawal or a discard changes a port in UP only. -/
theorem PortRecord.Shaped.served_sweepQueue {r : PortRecord} (h : r.Shaped) {queue : List (Nat × ProbeCommand)}
    (sub : r.sweepQueue = [] → queue = []) : r.Served { r with sweepQueue := queue } := by
  by_cases up : r.state = .up
  · exact PortRecord.served_of_up up rfl fun _ => rfl
  · have empty := (h.outsideUp up).1
    have same : ({ r with sweepQueue := queue } : PortRecord) = r := by rw [sub empty, ← empty]
    rw [same]
    exact .refl r

theorem State.PortsFrom.withdraw (h : o.PortsFrom s) (address : Nat) : o.PortsFrom (s.withdraw p address) :=
  h.modifyPort ((h.shaped p).served_sweepQueue fun empty => by simp [empty])

theorem State.PortsFrom.discardSweep (h : o.PortsFrom s) : o.PortsFrom (s.discardSweep p) :=
  h.modifyPort ((h.shaped p).served_sweepQueue fun _ => rfl)

theorem State.PortsFrom.putPlan (h : o.PortsFrom s) (accepts : (s.port p).acceptsPlan = true)
    (plan : List (Nat × ProbeCommand)) : o.PortsFrom (s.putPlan p plan) := by
  have up : (s.port p).state = .up := by
    rw [PortRecord.acceptsPlan, Bool.and_eq_true, beq_iff_eq] at accepts
    exact accepts.1
  exact State.PortsFrom.sendNext (h.modifyPort (PortRecord.served_of_up up rfl fun _ => rfl))

/-! ### The label unit and the packs -/

theorem State.PortsFrom.askPrint (h : o.PortsFrom s) (record : PackRecord) : o.PortsFrom (s.askPrint record) := by
  unfold State.askPrint
  split
  · refine State.PortsFrom.askPort ?_ _
    exact h.congr rfl
  · exact h
  · exact h

theorem State.PortsFrom.askStatus (h : o.PortsFrom s) : o.PortsFrom s.askStatus := by
  unfold State.askStatus
  split
  · refine State.PortsFrom.askPort ?_ _
    exact h.congr rfl
  · exact h
  · exact h

theorem State.PortsFrom.startCurrent (h : o.PortsFrom s) : o.PortsFrom s.startCurrent := by
  unfold State.startCurrent
  split
  · refine State.PortsFrom.askPrint ?_ _
    exact h.congr rfl
  · exact h

theorem State.PortsFrom.appendJob (h : o.PortsFrom s) (serial : Nat) : o.PortsFrom (s.appendJob serial) := by
  have appended : o.PortsFrom (s.modifyLabel fun l => l.append serial) := h.congr rfl
  unfold State.appendJob
  dsimp only
  split
  · exact appended.startCurrent
  · exact appended

theorem State.PortsFrom.faultCurrent (h : o.PortsFrom s) (reason : LabelFaultReason) :
    o.PortsFrom (s.faultCurrent reason) := by
  unfold State.faultCurrent
  split
  · refine State.PortsFrom.startCurrent ?_
    exact h.congr (by simp)
  · exact h

theorem State.PortsFrom.statusOutcome (h : o.PortsFrom s) (record : PackRecord) (outcome : ExchangeOutcome)
    (reply : StationReply) : o.PortsFrom (s.statusOutcome record outcome reply) := by
  have fault (reason : LabelFaultReason) (scanBack : Option (List Octet)) :
      o.PortsFrom (s.faultLabel record reason scanBack) := State.PortsFrom.startCurrent (h.congr (by simp))
  have confirmed : o.PortsFrom (s.confirmLabel record) := State.PortsFrom.startCurrent (h.congr (by simp))
  have paused : o.PortsFrom s.startPause := h.congr rfl
  unfold State.statusOutcome
  (repeat' split) <;> with_reducible apply_assumption

theorem State.PortsFrom.labelOutcome (h : o.PortsFrom s) (isStatus : Bool) (outcome : ExchangeOutcome)
    (reply : StationReply) : o.PortsFrom (s.labelOutcome isStatus outcome reply) := by
  unfold State.labelOutcome
  split
  · exact h.startCurrent
  · have ended : o.PortsFrom (s.modifyLabel fun l => { l with outstanding := none }) := h.congr rfl
    dsimp only
    split
    · exact ended.startCurrent
    · split
      · exact ended
      · split
        · exact ended.statusOutcome ..
        · exact ended.congr (by simp)

theorem State.PortsFrom.labelPauseOver (h : o.PortsFrom s) : o.PortsFrom s.labelPauseOver := by
  have stopped : o.PortsFrom (s.modifyLabel fun l => { l with pause := false }) := h.congr rfl
  unfold State.labelPauseOver
  dsimp only
  split
  · exact stopped.askPrint _
  · exact stopped.askStatus
  · exact stopped

theorem State.PortsFrom.labelPortLost (h : o.PortsFrom s) : o.PortsFrom s.labelPortLost := by
  have ended : o.PortsFrom (s.modifyLabel fun l => { l with outstanding := none }) := h.congr rfl
  unfold State.labelPortLost
  dsimp only
  split
  · exact ended.faultCurrent _
  · exact ended.faultCurrent _
  · exact ended.startCurrent
  · exact ended.startCurrent

theorem State.PortsFrom.writeRecord (h : o.PortsFrom s) (b : BayNo) (x : OpenPack) : o.PortsFrom (s.writeRecord b x) := by
  have queued := State.PortsFrom.appendJob (s := (State.modifyBay
    { s with
      backup := { s.backup with packCounter := s.issuedSerial }
      packs := s.packs ++ [x.closedRecord s.issuedSerial b (s.bay b).nominal s.dateDigits] } b
    fun bay => { bay with state := .labelling, openPack := none })) (h.congr rfl) s.issuedSerial
  exact queued.congr rfl

theorem State.PortsFrom.closePack (h : o.PortsFrom s) (b : BayNo) : o.PortsFrom (s.closePack b) := by
  unfold State.closePack
  split
  · exact h
  · dsimp only
    split_ifs
    · exact h.congr rfl
    · exact h.congr (by simp)
    · exact h.congr rfl
    · exact h.writeRecord ..

theorem State.PortsFrom.stackPiece (h : o.PortsFrom s) (b : BayNo) (charge mc : Nat) :
    o.PortsFrom (s.stackPiece b charge mc) := by
  unfold State.stackPiece
  split
  · exact h
  next x _ =>
    have stacked : o.PortsFrom (s.modifyBay b fun bay => { bay with openPack := some (x.stack charge mc) }) := h.congr rfl
    have closed := stacked.closePack b
    dsimp only
    (repeat' split) <;> with_reducible assumption

theorem State.PortsFrom.releasePlace (h : o.PortsFrom s) (b : BayNo) (charge : Nat) :
    o.PortsFrom (s.releasePlace b charge) := by
  unfold State.releasePlace
  split
  · exact h
  next x _ =>
    have released : o.PortsFrom (if x.names charge && !(x.unreserve charge).names charge then
        (s.modifyBay b fun bay => { bay with openPack := some (x.unreserve charge) }).dropReference charge
        else s.modifyBay b fun bay => { bay with openPack := some (x.unreserve charge) }) := by
      split <;> exact h.congr rfl
    have closed := released.closePack b
    dsimp only
    split
    · split
      · exact released.congr rfl
      · exact released
    · split
      · exact closed
      · exact released
    all_goals exact released

theorem State.PortsFrom.clearLine (h : o.PortsFrom s) : o.PortsFrom s.clearLine := by
  have cleared (t : State) (x : Piece) (ht : o.PortsFrom t) : o.PortsFrom (t.clearPiece x) := by
    have settled : o.PortsFrom (t.settlePiece x.charge .cleared) := ht.congr (by simp)
    unfold State.clearPiece
    cases x.grade with
    | dry b => exact (settled.releasePlace b x.charge).congr rfl
    | _ => exact settled.congr rfl
  have all : o.PortsFrom (s.line.queue.foldl State.clearPiece (s.modifyLine fun l => { l with queue := [] })) :=
    List.foldlRecOn _ _ (h.congr rfl) fun t ht x _ => cleared t x ht
  exact all.congr (by simp [State.clearLine])

theorem State.PortsFrom.encoderMoves (h : o.PortsFrom s) (move : EncoderMove) : o.PortsFrom (s.encoderMoves move) := by
  have stacked (t : State) (x : Piece) (ht : o.PortsFrom t) : o.PortsFrom (t.atStacker x) := by
    unfold State.atStacker
    split
    · refine State.PortsFrom.stackPiece ?_ ..
      exact ht.congr (by simp)
    · exact ht
  have moved (counter : Position) : o.PortsFrom (s.moveCounter counter) := by
    unfold State.moveCounter
    dsimp only
    refine List.foldlRecOn _ _ (h.congr ?_) fun t ht x _ => stacked t x ht
    rw [foldl_keeps (·.ports) State.atGate (fun t x => by simp)]
    rfl
  cases move
  case forward => exact moved _
  case reverse => exact moved _
  case both => exact h

theorem State.PortsFrom.giveFreedPlace (h : o.PortsFrom s) : o.PortsFrom s.giveFreedPlace := by
  have given (t : State) (b : BayNo) (ht : o.PortsFrom t) : o.PortsFrom (t.givePlace b) := by
    unfold State.givePlace
    split
    · split
      · exact ht.writeRecord ..
      · exact ht
    · exact ht
  have all : o.PortsFrom (allBays.foldl State.givePlace s) := List.foldlRecOn _ _ h fun t ht b _ => given t b ht
  unfold State.giveFreedPlace
  dsimp only
  split
  · exact all
  · exact all.congr rfl

theorem State.PortsFrom.beginClosing (h : o.PortsFrom s) (b : BayNo) : o.PortsFrom (s.beginClosing b) := by
  have closing : o.PortsFrom (s.modifyBay b fun x => { x with state := .closing }) := h.congr rfl
  have closed := closing.closePack b
  unfold State.beginClosing
  dsimp only
  (repeat' split) <;> with_reducible assumption

/-! ### The tracker -/

theorem State.PortsFrom.triggerSample (h : o.PortsFrom s) (sequence : Nat) : o.PortsFrom (s.triggerSample sequence) := by
  unfold State.triggerSample
  split
  · refine State.PortsFrom.askPort ?_ _
    exact h.congr rfl
  · exact h.congr (by simp)
  · exact h.congr (by simp)

theorem State.PortsFrom.filteredEdge (h : o.PortsFrom s) (blocked : Bool) (x : Position) :
    o.PortsFrom (s.filteredEdge blocked x) := by
  have appended (t : State) (ht : o.PortsFrom t) : o.PortsFrom (t.appendPiece x) := by
    unfold State.appendPiece
    dsimp only
    split
    · refine State.PortsFrom.triggerSample (ht.congr ?_) _
      split <;> simp
    · refine ht.congr ?_
      split <;> simp
  have led (t : State) (ht : o.PortsFrom t) : o.PortsFrom (t.takeLead x) := by
    unfold State.takeLead
    dsimp only
    split
    · exact ht.congr (by simp)
    · exact appended _ (ht.congr rfl)
  have seen : o.PortsFrom (s.modifyLine fun l => { l with capture := { l.capture with blocked := blocked } }) := h.congr rfl
  unfold State.filteredEdge
  dsimp only
  split
  · split
    · exact led _ seen
    · exact seen
  · split
    · exact seen.congr (by simp)
    · exact seen

theorem State.PortsFrom.changeEye (h : o.PortsFrom s) (level : Bool) : o.PortsFrom (s.changeEye level) := by
  have moved : o.PortsFrom (s.modifyLine fun l => { l with eyePin := level }) := h.congr rfl
  unfold State.changeEye
  dsimp only
  split_ifs
  · exact h
  · exact moved.congr rfl
  · exact moved.filteredEdge ..
  · exact moved.congr rfl
  · exact moved

theorem State.PortsFrom.eyeFilterOver (h : o.PortsFrom s) : o.PortsFrom s.eyeFilterOver := by
  unfold State.eyeFilterOver
  split
  · refine State.PortsFrom.filteredEdge ?_ ..
    exact h.congr rfl
  · exact h

/-! ### The probe unit -/

theorem State.PortsFrom.dropPlanned (h : o.PortsFrom s) (address : Nat) : o.PortsFrom (s.dropPlanned k address) := by
  unfold State.dropPlanned
  split
  · split
    · refine State.PortsFrom.withdraw ?_ address
      exact h.congr rfl
    · exact h
  · exact h

theorem State.PortsFrom.leaveOldPlace (h : o.PortsFrom s) (address serial : Nat) :
    o.PortsFrom (s.leaveOldPlace k address serial) := by
  unfold State.leaveOldPlace
  split
  next e _ =>
    split
    · exact h
    · have removed : o.PortsFrom (s.removePresence e.port e.address) := h.congr rfl
      have dropped := removed.dropPlanned (k := e.port) e.address
      dsimp only
      split <;> exact dropped.congr (by simp)
  next => exact h

theorem State.PortsFrom.probeOutcome (h : o.PortsFrom s) (address : Nat) (command : ProbeCommand)
    (outcome : ExchangeOutcome) (data : List Octet) : o.PortsFrom (s.probeOutcome k address command outcome data) := by
  have handled (t : State) (ht : o.PortsFrom t) : o.PortsFrom (t.handleProbeOutcome k address command outcome data) := by
    unfold State.handleProbeOutcome State.goodProbeOutcome
    split
    · split
      · exact ht
      next serial _ =>
        have resolved : o.PortsFrom (t.resolveIdentity k address serial) :=
          (ht.leaveOldPlace (k := k) address serial).congr (by simp [State.resolveIdentity])
        dsimp only
        split
        · exact resolved.congr (by simp)
        · exact resolved
    · exact ht.congr (by simp)
    · exact ht
  unfold State.probeOutcome
  split
  · exact h.congr rfl
  · split
    · have done := handled (s.modifySweep k fun r => { r with outstanding := r.outstanding.erase (address, command) })
        (h.congr rfl)
      dsimp only
      split <;> exact done.congr (by simp)
    · exact h

theorem State.PortsFrom.planSweep (h : o.PortsFrom s) : o.PortsFrom (s.planSweep k) := by
  unfold State.planSweep
  dsimp only
  split
  · exact h.congr (by simp)
  · split
    next accepts =>
      refine State.PortsFrom.putPlan ?_ ?_ _
      · exact h.congr rfl
      · exact accepts
    next => exact h.congr rfl

theorem State.PortsFrom.sweepIntervalOver (h : o.PortsFrom s) : o.PortsFrom (s.sweepIntervalOver k) := by
  unfold State.sweepIntervalOver
  split
  · have started : o.PortsFrom (s.modifySweep k fun r => { r with interval := some (s.sweepIntervalOf k) }) := h.congr rfl
    dsimp only
    split
    · exact started.planSweep
    · exact started
  · exact h

theorem State.PortsFrom.forgetEntry (h : o.PortsFrom s) (e : PresenceEntry) : o.PortsFrom (s.forgetEntry e) := by
  have removed : o.PortsFrom (s.removePresence e.port e.address) := h.congr rfl
  exact (removed.dropPlanned (k := e.port) e.address).congr (by simp [State.forgetEntry])

theorem State.PortsFrom.unloadKiln (h : o.PortsFrom s) : o.PortsFrom (s.unloadKiln k) := by
  have staged : o.PortsFrom ((s.stageCharge (s.kiln k).chargeNumber).setSnapshot k none) := h.congr (by simp)
  have aborted : o.PortsFrom (((s.stageCharge (s.kiln k).chargeNumber).setSnapshot k none).abortForUnload k) := by
    unfold State.abortForUnload
    split
    · exact State.PortsFrom.discardSweep (staged.congr rfl)
    · exact staged
  exact aborted.congr (by simp [State.unloadKiln, State.probesUnloaded])

/-! ### The second step of an exchange's end (R86) -/

theorem State.PortsFrom.handOutcome (h : o.PortsFrom s) (e : Exchange) (outcome : ExchangeOutcome) (reply : StationReply) :
    o.PortsFrom (s.handOutcome p e outcome reply) := by
  unfold State.handOutcome
  split
  · exact h.congr (by simp)
  · exact h.probeOutcome ..
  · split
    · exact h
    · exact h.probeOutcome ..
  · exact h.congr (by simp)
  · exact h.labelOutcome ..
  · exact h.labelOutcome ..
  · exact h

end

/-! ### What the port's own procedures make of a record -/

/-- Nothing of UP is left in the record, and its counts are below their limits. -/
structure PortRecord.Emptied (r : PortRecord) : Prop where
  rate : r.rate = none
  limit : 2 ≤ r.failureLimit ∧ r.failureLimit ≤ 10
  faults : r.lineFaultCount ≤ 5
  waiting : r.sweepQueue = [] ∧ r.waiting = none ∧ r.setpointDue = false ∧ r.idleWait = false ∧ r.healthDue = false ∧
    r.controllerInterval = none

/-- No exchange is in flight, and the port neither wakes its station nor waits between attempts. -/
structure PortRecord.Resting (r : PortRecord) : Prop where
  exchange : r.exchange = none
  wake : r.wake = .none
  attemptGap : r.attemptGap = false

section
variable {r : PortRecord}

theorem PortRecord.Shaped.emptied (h : r.Shaped) (notUp : r.state ≠ .up) : r.Emptied :=
  ⟨h.rate_none notUp, h.limit, h.faults, h.outsideUp notUp⟩

theorem PortRecord.Shaped.clearUp_emptied (h : r.Shaped) : r.clearUp.Emptied := by
  exact ⟨rfl, h.limit, h.faults, rfl, rfl, rfl, rfl, rfl, rfl⟩

theorem PortRecord.Emptied.beginEstablishment (h : r.Emptied) (free : r.exchange = none) :
    r.beginEstablishment.Shaped where
  rate := by simp [PortRecord.beginEstablishment, PortRecord.beginAttempt, h.rate]
  attempt := by simp [PortRecord.beginEstablishment, PortRecord.beginAttempt]
  number n eq := by cases eq; decide
  limit := h.limit
  failures := Nat.lt_of_lt_of_le Nat.two_pos h.limit.1
  faults := h.faults
  outsideUp _ := h.waiting
  exchange flying := absurd free flying
  wake _ := ⟨rfl, free⟩
  gap gap := absurd gap Bool.false_ne_true
  autoretry waits := absurd waits Bool.false_ne_true
  reestablish waits := absurd waits Bool.false_ne_true

/-- A port at rest in a state in which it establishes nothing has its shape when its wait is that state's. -/
theorem PortRecord.Emptied.shaped_of_resting (h : r.Emptied) (rest : r.Resting) (none : r.attempt = none)
    (failures : r.failureCount < r.failureLimit) (notUp : r.state ≠ .up) (notEstablishing : r.state ≠ .establishing)
    (autoretry : r.autoretryWait = true → r.state = .lineFault)
    (reestablish : r.reestablishWait = true → r.state = .down) : r.Shaped where
  rate := by simp [h.rate, notUp]
  attempt := by simp [none, notEstablishing]
  number n eq := by rw [none] at eq; cases eq
  limit := h.limit
  failures := failures
  faults := h.faults
  outsideUp _ := h.waiting
  exchange flying := absurd rest.exchange flying
  wake waking := absurd rest.wake waking
  gap gap := absurd (gap.symm.trans rest.attemptGap) (by decide)
  autoretry := autoretry
  reestablish := reestablish

theorem PortRecord.Shaped.closeExchange (h : r.Shaped) (flying : r.exchange ≠ none) (outcome : ExchangeOutcome)
    (device : Bool) : (r.closeExchange outcome device).Shaped ∧ (r.closeExchange outcome device).Resting := by
  obtain ⟨wake, gap⟩ := h.awake_of_exchange flying
  refine ⟨{ h with outsideUp := ?_, exchange := ?_, wake := ?_, gap := ?_ }, rfl, wake, gap⟩
  · intro notUp
    obtain ⟨queue, waiting, due, -, health, interval⟩ := h.outsideUp notUp
    exact ⟨queue, waiting, due, by simpa [PortRecord.closeExchange] using fun _ => notUp, health, interval⟩
  · exact fun flying => absurd rfl flying
  · exact fun waking => absurd wake waking
  · exact fun waits => absurd (waits.symm.trans gap) (by decide)

theorem PortRecord.Shaped.stationGood (h : r.Shaped) (e : Exchange) (data : List Octet) : (r.stationGood e data).Shaped :=
  { h with failures := Nat.lt_of_lt_of_le Nat.two_pos h.limit.1 }

/-- An attempt's IDENTIFY that fails before the last attempt leaves the gap; the next rate changes no shape. -/
theorem PortRecord.Shaped.waitGap (h : r.Shaped) (establishing : r.state = .establishing) (rest : r.Resting)
    (before : r.attempt.getD 1 < 4) : PortRecord.Shaped { r with attemptGap := true } :=
  { h with
    wake := fun waking => absurd rest.wake waking
    gap := fun _ => ⟨establishing, rest.exchange, rest.wake, fun n eq => by
      have is : r.attempt = some n := eq
      rwa [is] at before⟩ }

theorem PortRecord.Shaped.tryNextRate (h : r.Shaped) (rate : FieldRate) :
    PortRecord.Shaped { r with nextRate := rate } := { h with }

theorem PortRecord.Shaped.enterUp (h : r.Shaped) (establishing : r.state = .establishing) (rest : r.Resting)
    (identity : Identity) (interval : Option Nat) : (r.enterUp identity interval).Shaped where
  rate := by simp [PortRecord.enterUp]
  attempt := by simp [PortRecord.enterUp]
  number _ eq := by cases eq
  limit := h.limit
  failures := Nat.lt_of_lt_of_le Nat.two_pos h.limit.1
  faults := Nat.zero_le 5
  outsideUp notUp := absurd rfl notUp
  exchange _ := .inl rfl
  wake waking := absurd rest.wake waking
  gap gap := absurd (gap.symm.trans rest.attemptGap) (by decide)
  autoretry waits := absurd (waits.symm.trans (h.not_autoretry (by rw [establishing]; decide))) (by decide)
  reestablish waits := absurd (waits.symm.trans (h.not_reestablish (by rw [establishing]; decide))) (by decide)

/-- The record as it enters DOWN (R91, R96). -/
def PortRecord.downed (r : PortRecord) : PortRecord :=
  { r with state := .down, attempt := none, exchange := none, wake := .none, attemptGap := false,
           reestablishWait := r.autoReestablish }

theorem PortRecord.Emptied.downed (h : r.Emptied) (failures : r.failureCount < r.failureLimit)
    (noAutoretry : r.autoretryWait = false) : r.downed.Shaped := by
  have emptied : r.downed.Emptied := ⟨h.rate, h.limit, h.faults, h.waiting⟩
  exact emptied.shaped_of_resting ⟨rfl, rfl, rfl⟩ rfl failures (fun up => nomatch up) (fun up => nomatch up)
    (fun waits => absurd (waits.symm.trans noAutoretry) (by decide)) fun _ => rfl

theorem PortRecord.Emptied.faulted (h : r.Emptied) : r.faulted.Emptied :=
  ⟨h.rate, h.limit, Nat.min_le_left 5 _, h.waiting⟩

theorem PortRecord.Emptied.faulted_shaped (h : r.Emptied) (failures : r.failureCount < r.failureLimit)
    (noReestablish : r.reestablishWait = false) : r.faulted.Shaped :=
  h.faulted.shaped_of_resting ⟨rfl, rfl, rfl⟩ rfl failures (fun up => nomatch up) (fun up => nomatch up) (fun _ => rfl)
    fun waits => absurd (waits.symm.trans noReestablish) (by decide)

theorem PortRecord.Shaped.enabled (h : r.Shaped) (notUp : r.state ≠ .up) (notEstablishing : r.state ≠ .establishing)
    {limit : Nat} (low : 2 ≤ limit) (high : limit ≤ 10) (window : Nat) (auto retry : Bool) :
    (r.enabled window limit auto retry).Shaped := by
  have free : r.exchange = none := not_not.mp fun flying => (h.exchange flying).elim notUp notEstablishing
  exact PortRecord.Emptied.beginEstablishment ⟨h.rate_none notUp, ⟨low, high⟩, Nat.zero_le 5, h.outsideUp notUp⟩ free

theorem PortRecord.Shaped.disabled (h : r.Shaped) : r.disabled.Shaped := by
  have emptied : r.disabled.Emptied := ⟨rfl, h.limit, Nat.zero_le 5, rfl, rfl, rfl, rfl, rfl, rfl⟩
  exact emptied.shaped_of_resting ⟨rfl, rfl, rfl⟩ rfl (Nat.lt_of_lt_of_le Nat.two_pos h.limit.1) (fun up => nomatch up)
    (fun up => nomatch up) (fun waits => absurd waits Bool.false_ne_true) fun waits => absurd waits Bool.false_ne_true

theorem PortRecord.Shaped.setPhase (h : r.Shaped) (phase : ExchangePhase) : (r.setPhase phase).Shaped := by
  have none : (r.setPhase phase).exchange = none ↔ r.exchange = none := by simp [PortRecord.setPhase]
  exact { h with
    exchange := fun flying => h.exchange (mt none.mpr flying)
    wake := fun waking => ⟨(h.wake waking).1, none.mpr (h.wake waking).2⟩
    gap := fun gap => ⟨(h.gap gap).1, none.mpr (h.gap gap).2.1, (h.gap gap).2.2⟩ }

theorem PortRecord.Shaped.endSilentWait (h : r.Shaped) : PortRecord.Shaped { r with silentWait := false } := { h with }

theorem PortRecord.Shaped.sendIdentify (h : r.Shaped) : r.sendIdentify.Shaped := by
  unfold PortRecord.sendIdentify
  split
  next may =>
    obtain ⟨establishing, wake, gap, -, -⟩ := may
    have notUp : r.state ≠ .up := by rw [establishing]; decide
    obtain ⟨queue, waiting, due, -, -, interval⟩ := h.outsideUp notUp
    exact { h with
      outsideUp := fun _ => ⟨queue, waiting, due, rfl, rfl, interval⟩
      exchange := fun _ => .inr establishing
      wake := fun waking => absurd wake waking
      gap := fun waits => absurd (waits.symm.trans gap) (by decide) }
  next => exact h

theorem PortRecord.Shaped.endWakePulse (h : r.Shaped) : r.endWakePulse.Shaped := by
  unfold PortRecord.endWakePulse
  split
  next pulse =>
    have waking : r.wake ≠ .none := by rw [pulse]; decide
    exact { h with
      wake := fun _ => h.wake waking
      gap := fun gap => absurd (h.gap gap).2.2.1 waking }
  next => exact h
  next => exact h

theorem PortRecord.Shaped.endWakeWait (h : r.Shaped) : r.endWakeWait.Shaped := by
  unfold PortRecord.endWakeWait
  split
  next wait =>
    have waking : r.wake ≠ .none := by rw [wait]; decide
    have over' : PortRecord.Shaped { r with wake := .none } :=
      { h with
        wake := fun waking => absurd rfl waking
        gap := fun gap => absurd (h.gap gap).2.2.1 waking }
    exact over'.sendIdentify
  next => exact h
  next => exact h

theorem PortRecord.Shaped.endAttemptGap (h : r.Shaped) : r.endAttemptGap.Shaped := by
  unfold PortRecord.endAttemptGap
  split
  next waits =>
    obtain ⟨establishing, free, -, before⟩ := h.gap waits
    obtain ⟨n, attempt⟩ := Option.isSome_iff_exists.mp (h.attempt.mpr establishing)
    obtain ⟨low, -⟩ := h.number n attempt
    have less := before n attempt
    rw [attempt, Option.getD_some]
    exact { h with
      attempt := ⟨fun _ => establishing, fun _ => rfl⟩
      number := fun m eq => by obtain rfl := Option.some.inj eq; omega
      wake := fun _ => ⟨establishing, free⟩
      gap := fun gap => absurd gap Bool.false_ne_true }
  next => exact h

/-- A port that is neither UP nor ESTABLISHING begins establishment. -/
theorem PortRecord.Shaped.beginEstablishment (h : r.Shaped) (notUp : r.state ≠ .up)
    (notEstablishing : r.state ≠ .establishing) : r.beginEstablishment.Shaped :=
  (h.emptied notUp).beginEstablishment (not_not.mp fun flying => (h.exchange flying).elim notUp notEstablishing)

theorem PortRecord.Shaped.endAutoretry (h : r.Shaped) : r.endAutoretry.Shaped := by
  unfold PortRecord.endAutoretry
  split
  next waits =>
    have state := h.autoretry waits
    exact h.beginEstablishment (by rw [state]; decide) (by rw [state]; decide)
  next => exact h

theorem PortRecord.Shaped.endReestablish (h : r.Shaped) : r.endReestablish.Shaped := by
  unfold PortRecord.endReestablish
  split
  next waits =>
    have state := h.reestablish waits
    exact h.beginEstablishment (by rw [state]; decide) (by rw [state]; decide)
  next => exact h

theorem PortRecord.Shaped.served_inUp {q : PortRecord} (h : r.Shaped) (served : r.Served q) (rest : r.Resting)
    (silent : r.silentWait = true) : q.Shaped ∧ q.Resting :=
  ⟨h.of_served served, (served.silent silent).trans rest.exchange, served.wake.trans rest.wake,
    served.attemptGap.trans rest.attemptGap⟩

end

/-! ### The port's own events -/

section
variable {o s t : State} {p : PortNo} {k : KilnNo}

theorem State.port_modifyPort_same (s : State) (p : PortNo) (f : PortRecord → PortRecord) :
    (s.modifyPort p f).port p = f (s.port p) := s.port_setPort_same p _

theorem State.modifyPort_modifyPort (s : State) (p : PortNo) (f g : PortRecord → PortRecord) :
    (s.modifyPort p f).modifyPort p g = s.modifyPort p fun r => g (f r) := by
  rw [State.modifyPort, State.modifyPort, State.modifyPort, s.port_setPort_same, s.setPort_setPort]

theorem State.postPortDown_ports (s : State) (p : PortNo) : (s.postPortDown p).ports = s.ports := by simp

/-- The first two steps of R86 leave the ports in shape and port p at rest in the state that it was in. -/
theorem State.PortsShaped.handOver (h : s.PortsShaped) {e : Exchange} (flying : (s.port p).exchange = some e)
    (outcome : ExchangeOutcome) (reply : StationReply) :
    let t := (s.closeExchange p outcome).handOutcome p e outcome reply
    t.PortsShaped ∧ (t.port p).Resting ∧ (t.port p).state = (s.port p).state := by
  have some : (s.port p).exchange ≠ none := by rw [flying]; exact Option.some_ne_none e
  obtain ⟨shaped, rest⟩ := (h p).closeExchange some outcome (portKiln p).isNone
  have closed : (s.closeExchange p outcome).PortsShaped := h.modifyPort shaped
  have record : (s.closeExchange p outcome).port p = (s.port p).closeExchange outcome (portKiln p).isNone :=
    s.port_modifyPort_same p _
  have given := closed.portsFrom.handOutcome (p := p) e outcome reply
  have served := given.served p
  rw [record] at served
  exact ⟨given.shaped, (shaped.served_inUp served rest rfl).2, served.state⟩

theorem State.PortsShaped.reportLeftUp (h : s.PortsShaped) : (s.reportLeftUp p).PortsShaped := h.congr (by simp)

theorem State.PortsShaped.stationFailed (h : s.PortsShaped) (rest : (s.port p).Resting) :
    (s.stationFailed p).PortsShaped := by
  unfold State.stationFailed
  dsimp only
  rw [State.port_modifyPort_same]
  split
  next =>
    refine State.PortsShaped.reportLeftUp ?_
    rw [State.modifyPort_modifyPort]
    have emptied : PortRecord.Emptied { s.port p with failureCount := (s.port p).failureCount + 1 }.clearUp :=
      ⟨rfl, (h p).limit, (h p).faults, rfl, rfl, rfl, rfl, rfl, rfl⟩
    exact h.modifyPort (emptied.beginEstablishment rest.exchange)
  next below => exact h.modifyPort { h p with failures := Nat.lt_of_not_le below }

theorem State.PortsShaped.enterDown (h : s.PortsShaped) (notUp : (s.port p).state ≠ .up)
    (notFaulted : (s.port p).state ≠ .lineFault) : (s.enterDown p).PortsShaped := by
  have down : (s.modifyPort p PortRecord.downed).PortsShaped :=
    h.modifyPort (((h p).emptied notUp).downed (h p).failures ((h p).not_autoretry notFaulted))
  exact down.congr (State.postPortDown_ports _ p)

theorem State.PortsShaped.identifyFailed (h : s.PortsShaped) (establishing : (s.port p).state = .establishing)
    (rest : (s.port p).Resting) : (s.identifyFailed p).PortsShaped := by
  unfold State.identifyFailed
  split
  · exact h.modifyPort ((h p).tryNextRate _)
  · split
    next before => exact h.modifyPort ((h p).waitGap establishing rest before)
    next => exact h.enterDown (by rw [establishing]; decide) (by rw [establishing]; decide)

theorem State.PortsShaped.enterUp (h : s.PortsShaped) (establishing : (s.port p).state = .establishing)
    (rest : (s.port p).Resting) (identity : Identity) : (s.enterUp p identity).PortsShaped := by
  have entered (interval : Option Nat) : (s.modifyPort p fun r => r.enterUp identity interval).PortsShaped :=
    h.modifyPort ((h p).enterUp establishing rest identity interval)
  unfold State.enterUp
  split
  next k _ => exact (entered (some (s.controllerIntervalOf k))).congr (by simp)
  next =>
    dsimp only
    split
    · exact (entered none).congr (by simp)
    · exact entered none

theorem State.PortsShaped.applyOutcome (h : s.PortsShaped) (rest : (s.port p).Resting) (e : Exchange)
    (outcome : ExchangeOutcome) (reply : StationReply) : (s.applyOutcome p e outcome reply).PortsShaped := by
  unfold State.applyOutcome
  split
  next =>
    unfold State.applyInUp
    split_ifs
    · exact h
    · exact h.modifyPort ((h p).stationGood e reply.data)
    · exact h.stationFailed rest
  next establishing =>
    unfold State.applyInEstablishing
    split
    · exact h.enterUp establishing rest _
    · exact h.identifyFailed establishing rest
  all_goals exact h

theorem State.PortsShaped.endExchange (h : s.PortsShaped) (outcome : ExchangeOutcome) (reply : StationReply) :
    (s.endExchange p outcome reply).PortsShaped := by
  unfold State.endExchange
  split
  next => exact h
  next e flying =>
    obtain ⟨given, rest, -⟩ := h.handOver flying outcome reply
    exact given.applyOutcome rest e outcome reply

theorem State.PortsShaped.setPhase (h : s.PortsShaped) (phase : ExchangePhase) :
    (s.modifyPort p fun r => r.setPhase phase).PortsShaped := h.modifyPort ((h p).setPhase phase)

theorem State.PortsShaped.requestSent (h : s.PortsShaped) : (s.requestSent p).PortsShaped := by
  unfold State.requestSent
  (repeat' split)
  · exact h.setPhase _
  · exact h
  · exact h

theorem State.PortsShaped.windowOver (h : s.PortsShaped) : (s.windowOver p).PortsShaped := by
  unfold State.windowOver
  (repeat' split)
  · exact h.endExchange _ _
  · exact h
  · exact h

theorem State.PortsShaped.octetSilence (h : s.PortsShaped) : (s.octetSilence p).PortsShaped := by
  unfold State.octetSilence
  (repeat' split)
  · exact h.endExchange _ _
  · exact h
  · exact h
  · exact h

theorem State.PortsShaped.receiveFieldOctet (h : s.PortsShaped) (octet : Octet) (error : Bool) :
    (s.receiveFieldOctet p octet error).PortsShaped := by
  unfold State.receiveFieldOctet
  split
  · exact h
  · split
    · exact h
    · split
      · exact h.setPhase _
      · exact h
    · unfold State.receiveReplyOctet
      dsimp only
      split_ifs
      · exact h.endExchange _ _
      · exact h.endExchange _ _
      · exact h.endExchange _ _
      · exact h.setPhase _

/-- A port at which a line fault is found, with nothing of UP left, is in LINE_FAULT or, at the fifth fault, in DOWN (R95,
R96). -/
theorem State.enterFaulted_portsShaped (others : ∀ q, q ≠ p → (s.port q).Shaped) (emptied : (s.port p).Emptied)
    (failures : (s.port p).failureCount < (s.port p).failureLimit) (noReestablish : (s.port p).reestablishWait = false) :
    (s.enterFaulted p).PortsShaped := by
  unfold State.enterFaulted
  dsimp only
  rw [State.port_modifyPort_same]
  split
  next =>
    have noRetry : PortRecord.Emptied { (s.port p).faulted with autoretryWait := false } :=
      ⟨emptied.faulted.rate, emptied.faulted.limit, emptied.faulted.faults, emptied.faulted.waiting⟩
    have down := State.portsShaped_modifyPort (f := fun r => { r.faulted with autoretryWait := false }.downed) others
      (noRetry.downed failures rfl)
    refine down.congr ?_
    rw [State.enterDown, State.postPortDown_ports, State.modifyPort_modifyPort, State.modifyPort_modifyPort]
    rfl
  next => exact State.portsShaped_modifyPort others (emptied.faulted_shaped failures noReestablish)

/-- The exchange in flight ends FRAMING in the state that the port was in. -/
theorem State.PortsShaped.faultExchange (h : s.PortsShaped) :
    (s.faultExchange p).PortsShaped ∧ ((s.faultExchange p).port p).state = (s.port p).state := by
  unfold State.faultExchange
  split
  next e flying =>
    obtain ⟨given, -, state⟩ := h.handOver flying .framing noReplyData
    exact ⟨given, state⟩
  next => exact ⟨h, rfl⟩

theorem State.PortsShaped.takeLineFault (h : s.PortsShaped) : (s.takeLineFault p).PortsShaped := by
  obtain ⟨given, state⟩ := h.faultExchange (p := p)
  unfold State.takeLineFault
  split
  next driving =>
    have notDown : ((s.faultExchange p).port p).state ≠ .down := by
      rw [state]
      exact (h p).not_down_of_driving driving
    have noReestablish := (given p).not_reestablish notDown
    dsimp only
    split
    next =>
      refine State.PortsShaped.reportLeftUp (State.enterFaulted_portsShaped (fun q other => ?_) ?_ ?_ ?_)
      · rw [State.modifyPort_port_ne _ other.symm]
        exact given q
      · rw [State.port_modifyPort_same]
        exact (given p).clearUp_emptied
      · rw [State.port_modifyPort_same]
        exact (given p).failures
      · rw [State.port_modifyPort_same]
        exact noReestablish
    next notUp =>
      have outside : ((s.faultExchange p).port p).state ≠ .up := by
        rw [state]
        simpa using notUp
      exact State.enterFaulted_portsShaped (fun q _ => given q) ((given p).emptied outside) (given p).failures
        noReestablish
  next => exact h

theorem State.PortsShaped.disable (h : s.PortsShaped) : (s.disable p).PortsShaped := by
  have disabled : (s.modifyPort p PortRecord.disabled).PortsShaped := h.modifyPort (h p).disabled
  unfold State.disable
  dsimp only
  split_ifs
  · exact h
  · exact disabled.reportLeftUp
  · exact disabled

theorem State.PortsShaped.sendNext (h : s.PortsShaped) : (s.sendNext p).PortsShaped := h.portsFrom.sendNext.shaped

theorem State.PortsShaped.silentWaitOver (h : s.PortsShaped) : (s.silentWaitOver p).PortsShaped := by
  unfold State.silentWaitOver
  split
  · exact State.PortsShaped.sendNext (h.modifyPort (h p).endSilentWait.sendIdentify)
  · exact h

theorem State.PortsShaped.controllerIntervalOver (h : s.PortsShaped) : (s.controllerIntervalOver k).PortsShaped := by
  unfold State.controllerIntervalOver
  split
  next n runs =>
    refine State.PortsShaped.sendNext (h.modifyPort ?_)
    have up : (s.port (kilnPort k)).state = .up := not_not.mp fun notUp => by
      obtain ⟨-, -, -, -, -, stopped⟩ := (h (kilnPort k)).outsideUp notUp
      rw [runs] at stopped
      cases stopped
    exact { h (kilnPort k) with outsideUp := fun notUp => absurd up notUp }
  next => exact h

theorem State.PortsShaped.idleWaitOver (h : s.PortsShaped) : (s.idleWaitOver p).PortsShaped := by
  unfold State.idleWaitOver
  split
  next runs =>
    have up : (s.port p).state = .up := not_not.mp fun notUp => by
      obtain ⟨-, -, -, stopped, -, -⟩ := (h p).outsideUp notUp
      exact absurd (runs.symm.trans stopped) (by decide)
    dsimp only
    split_ifs
    · exact h.modifyPort { h p with outsideUp := fun notUp => absurd up notUp }
    · rw [State.modifyPort_modifyPort]
      exact h.modifyPort { h p with outsideUp := fun notUp => absurd up notUp }
    · rw [State.modifyPort_modifyPort]
      exact State.PortsShaped.sendNext (h.modifyPort { h p with outsideUp := fun notUp => absurd up notUp })
  next => exact h

theorem State.PortsShaped.probePortLeftUp (h : s.PortsShaped) : (s.probePortLeftUp k).PortsShaped := h.congr (by simp)

end

/-! ### Resets -/

theorem State.reset_portsKept : State.reset.portsKept := by
  unfold State.portsKept
  decide

theorem State.volatileReset_ports (b : Backup) (eye : Bool) (rate : LinkRate) (queue : List Instr) :
    (State.volatileReset b eye rate queue).PortsShaped := by
  have first := State.reset.portsShaped_iff.mpr State.reset_portsKept
  exact first.congr rfl

theorem State.resetKept_ports (s : State) (straps : Straps) : (s.resetKept straps).PortsShaped := by
  have start := State.volatileReset_ports s.backup s.line.eyePin (.ofStraps straps) s.pending
  exact start.congr (by simp [State.resetKept])

theorem State.powerOnReset_ports (s : State) (straps : Straps) : (s.powerOnReset straps).PortsShaped := by
  unfold State.powerOnReset
  split
  · exact s.resetKept_ports straps
  · exact (State.volatileReset_ports .cleared s.line.eyePin (.ofStraps straps) s.pending).congr rfl

theorem State.stilled_ports (s : State) (power : Power) : (s.stilled power).PortsShaped :=
  (State.volatileReset_ports s.backup s.line.eyePin s.link.rate s.pending).congr rfl

theorem State.PortsShaped.moveResetPin {s : State} (h : s.PortsShaped) (edge : ResetEdge) (straps : Straps) :
    (s.moveResetPin edge straps).PortsShaped := by
  have kept := s.resetKept_ports straps
  have held := s.stilled_ports .held
  unfold State.moveResetPin
  split <;> with_reducible assumption

theorem State.PortsShaped.replyDone {s : State} (h : s.PortsShaped) (straps : Straps) :
    (s.replyDone straps).PortsShaped := by
  have kept := s.resetKept_ports straps
  have sent : (s.popFrame.modifyLink fun l => { l with buffer := none }).PortsShaped := h.congr rfl
  unfold State.replyDone
  (repeat' split) <;> with_reducible assumption

/-! ### Every work -/

theorem Work.portsShaped {i : Instr} {s t : State} (work : Work i s t) (h : s.PortsShaped) : t.PortsShaped := by
  have from_ := h.portsFrom
  cases work
  case clearCounters x =>
    cases x
    case port p => exact h.modifyPort { h p with }
    case line => exact h.congr rfl
    case link => exact h.congr rfl
  case unload => exact from_.unloadKiln.shaped
  case abandon => exact from_.unloadKiln.shaped
  case enablePort p _ _ low high notEstablishing notUp =>
    exact h.modifyPort ((h p).enabled notUp notEstablishing low high _ _ _)
  case disablePort => exact h.disable
  case sweepNow k full =>
    have chosen : s.PortsFrom (s.chooseFullScan k full) := from_.congr (by simp)
    exact chosen.planSweep.shaped
  case forget => exact (from_.forgetEntry _).shaped
  case clearLine => exact from_.clearLine.shaped
  case beginClosing => exact (from_.beginClosing _).shaped
  case reprint r =>
    have queued : s.PortsFrom ((s.modifyPack r.serial fun r => { r with label := .queued, scanBack := none }).modifyBay
        r.bay fun b => { b with state := .labelling }) := from_.congr rfl
    exact (queued.appendJob r.serial).shaped
  case collect serial =>
    have taken : s.PortsFrom { s with packs := eraseBy PackRecord.serial serial s.packs } := from_.congr rfl
    exact taken.giveFreedPlace.shaped
  case replyDone => exact h.replyDone _
  case powerOn => exact s.powerOnReset_ports _
  case resetPin => exact h.moveResetPin _ _
  case powerFail => exact s.stilled_ports .off
  case requestSent => exact h.requestSent
  case windowOver => exact h.windowOver
  case receiveFieldOctet => exact h.receiveFieldOctet _ _
  case octetSilence => exact h.octetSilence
  case silentWaitOver => exact h.silentWaitOver
  case lineFault => exact h.takeLineFault
  case endWakePulse p => exact h.modifyPort (h p).endWakePulse
  case endWakeWait p => exact h.modifyPort (h p).endWakeWait
  case endAttemptGap p => exact h.modifyPort (h p).endAttemptGap
  case endAutoretry p => exact h.modifyPort (h p).endAutoretry
  case endReestablish p => exact h.modifyPort (h p).endReestablish
  case controllerIntervalOver => exact h.controllerIntervalOver
  case idleWaitOver => exact h.idleWaitOver
  case sweepIntervalOver => exact from_.sweepIntervalOver.shaped
  case encoderMoves => exact (from_.encoderMoves _).shaped
  case changeEye => exact (from_.changeEye _).shaped
  case eyeFilterOver => exact from_.eyeFilterOver.shaped
  case labelPauseOver => exact from_.labelPauseOver.shaped
  case labelTimeoutOver =>
    have stopped : s.PortsFrom (s.modifyLabel fun l => { l with timeout := none }) := from_.congr rfl
    exact (stopped.faultCurrent .timeout).shaped
  case labelPortUp =>
    have taken : s.PortsFrom (s.takeReport .labelPortUp) := from_.congr rfl
    exact taken.startCurrent.shaped
  case labelPortLost =>
    have taken : s.PortsFrom (s.takeReport .labelPortLeftUp) := from_.congr rfl
    exact taken.labelPortLost.shaped
  all_goals exact h.congr (by simp)

end Sys2Proof.Machine
end

section
/-!
PROOFS. The supervisory link through every command: at most one BUSY reply waits, the reply of the held request waits exactly
while it is answered (R185 to R187), and the reply store's next number is 0 exactly when it is empty (R190).
-/
namespace Sys2Proof.Machine

/-- What O58 says of the link, said of the link alone. -/
structure Link.Kept (l : Link) : Prop where
  refusals : l.sending.countP SendFrame.busy ≤ 1
  replies : l.sending.countP (fun f => !f.busy) =
    match l.buffer with
    | some h => if h.answered then 1 else 0
    | none => 0
  store : l.store.segments = [] ↔ l.store.next = 0

theorem State.linkKept_iff (s : State) : s.linkKept ↔ s.link.Kept :=
  ⟨fun ⟨refusals, replies, store⟩ => ⟨refusals, replies, store⟩, fun ⟨refusals, replies, store⟩ => ⟨refusals, replies, store⟩⟩

theorem ReplyStore.ofSegments_kept (rest : List (List Octet)) :
    (ReplyStore.ofSegments rest).segments = [] ↔ (ReplyStore.ofSegments rest).next = 0 := by
  cases rest <;> simp [ReplyStore.ofSegments]

theorem ReplyStore.advance_kept (x : ReplyStore) : x.advance.segments = [] ↔ x.advance.next = 0 := by
  cases rest : x.segments.tail <;> simp [ReplyStore.advance, rest]

section
variable {l : Link} (h : l.Kept)
include h

/-- Nothing composed, held or stored is changed. -/
theorem Link.Kept.congr {m : Link} (sending : m.sending = l.sending) (buffer : m.buffer = l.buffer)
    (store : m.store = l.store) : m.Kept := by
  obtain ⟨refusals, replies, kept⟩ := h
  exact ⟨by rwa [sending], by rw [sending, buffer, replies], by rwa [store]⟩

/-- Without an answered request no reply waits. -/
theorem Link.Kept.no_reply {i : Instr} (may : l.buffer = none ∨ l.awaits i = true) :
    l.sending.countP (fun f => !f.busy) = 0 := by
  rw [h.replies]
  rcases may with empty | awaits
  · rw [empty]
  · unfold Link.awaits at awaits
    split at awaits
    next held is => simp_all
    next => cases awaits

/-- The reply of a request that is answered joins the frames. -/
theorem Link.Kept.reply (free : l.sending.countP (fun f => !f.busy) = 0) (kind : Octet) (request : Option Instr)
    (octets : List Octet) {x : ReplyStore} (kept : x.segments = [] ↔ x.next = 0) :
    Link.Kept { l with buffer := some { kind := kind, request := request, answered := true }, store := x,
                       sending := l.sending ++ [{ busy := false, octets := octets }] } where
  refusals := by simpa using h.refusals
  replies := by simpa using free
  store := kept

end

/-! ### The passage of a request -/

section
variable {s t : State}

theorem State.refuseBusy_linkKept (h : s.link.Kept) (kind : Octet) : (s.refuseBusy kind).link.Kept := by
  unfold State.refuseBusy
  split
  next => exact h.congr rfl rfl rfl
  next free =>
    have none : s.link.sending.countP SendFrame.busy = 0 := by
      rw [List.countP_eq_zero]
      intro f member busy
      exact free (List.any_eq_true.mpr ⟨f, member, busy⟩)
    exact {
      refusals := by simp [State.compose, State.modifyLink, none]
      replies := by simpa [State.compose, State.modifyLink] using h.replies
      store := h.store }

/-- What an owner that takes a request leaves of the link: all but its own counter. -/
theorem Work.link_of_owned {i : Instr} (work : Work i s t) (owned : Owned i) :
    t.link.sending = s.link.sending ∧ t.link.buffer = s.link.buffer ∧ t.link.store = s.link.store := by
  obtain ⟨isRequest, other⟩ := owned
  cases work
  case clearCounters x => cases x <;> exact ⟨rfl, rfl, rfl⟩
  case takeContinue => exact absurd rfl other
  case refuseContinue => exact absurd rfl other
  case receiveLinkOctet => exact absurd isRequest Bool.false_ne_true
  case linkSilence => exact absurd isRequest Bool.false_ne_true
  case replyDone => exact absurd isRequest Bool.false_ne_true
  case busyDone => exact absurd isRequest Bool.false_ne_true
  case powerOn => exact absurd isRequest Bool.false_ne_true
  case resetPin => exact absurd isRequest Bool.false_ne_true
  case powerFail => exact absurd isRequest Bool.false_ne_true
  all_goals simp

theorem hostRequest_linkKept {i : Instr} {owner : State → Answer} (works : OwnerWorks i owner) (owned : Owned i)
    (h : s.link.Kept) : (hostRequest i owner s).link.Kept := by
  obtain ⟨_, eq⟩ | ⟨takes, status, _, eq⟩ | ⟨takes, content, after, ok, eq⟩ | ⟨_, eq⟩ := hostRequest_cases s i owner
  case inl => rwa [eq]
  case inr.inl =>
    rw [eq]
    exact h.reply (h.no_reply ((s.takes_iff i).mp takes).2) _ _ _ h.store
  case inr.inr.inl =>
    obtain ⟨sending, buffer, -⟩ := (works _ _ _ ok).link_of_owned owned
    have reply := h.reply (h.no_reply ((s.takes_iff i).mp takes).2)
    rw [eq, State.answerOk]
    split
    next empty => exact absurd empty (segmentsOf_ne_nil content)
    next first rest _ =>
      refine (reply (requestKind i) (some i) (hostFrame (okPayload (requestKind i) after.notices rest.length first))
        (ReplyStore.ofSegments_kept rest)).congr ?_ buffer rfl
      rw [State.compose, State.modifyLink, State.modifyLink]
      exact congrArg (· ++ _) sending
  case inr.inr.inr =>
    rw [eq, ← State.refuseBusy_eq]
    exact State.refuseBusy_linkKept h _

theorem State.takeContinue_linkKept (h : s.link.Kept)
    (taken : s.link.buffer = none ∨ s.link.awaits .continueReply = true) : s.takeContinue.link.Kept := by
  unfold State.takeContinue
  dsimp only
  split
  next => exact h.reply (h.no_reply taken) _ _ _ h.store
  next => exact h.reply (h.no_reply taken) _ _ _ (ReplyStore.advance_kept s.link.store)

/-! ### The link's events -/

theorem State.handOn_linkKept (h : s.link.Kept) (payload : List Octet) : (s.handOn payload).link.Kept := by
  unfold State.handOn
  dsimp only
  split
  next => exact s.refuseBusy_linkKept h _
  next empty =>
    have free : s.link.buffer = none := by simpa using empty
    have noReply := h.no_reply (i := .identify) (.inl free)
    split
    next i _ =>
      exact { refusals := h.refusals, replies := noReply, store := h.store }
    next => exact h.reply noReply _ _ _ h.store

theorem State.receiveFrameOctet_linkKept (h : s.link.Kept) (octets : List Octet) (octet : Octet) :
    (s.receiveFrameOctet octets octet).link.Kept := by
  have hunting : (s.modifyLink fun l => { l with receiver := .hunt }).link.Kept := h.congr rfl rfl rfl
  unfold State.receiveFrameOctet
  dsimp only
  split_ifs
  · exact h.congr rfl rfl rfl
  · exact State.handOn_linkKept hunting _
  · exact h.congr rfl rfl rfl
  · exact h.congr rfl rfl rfl

theorem State.receiveLinkOctet_linkKept (h : s.link.Kept) (octet : Octet) (error : Bool) :
    (s.receiveLinkOctet octet error).link.Kept := by
  have woken : (s.modifyLink fun l => { l with silenceWait := true }).link.Kept := h.congr rfl rfl rfl
  unfold State.receiveLinkOctet
  dsimp only
  split
  · exact woken
  · split
    · exact h.congr rfl rfl rfl
    · exact woken
  · split
    · exact h.congr rfl rfl rfl
    · exact State.receiveFrameOctet_linkKept woken _ _

theorem State.linkSilence_linkKept (h : s.link.Kept) : s.linkSilence.link.Kept := by
  unfold State.linkSilence
  dsimp only
  (repeat' split) <;> exact h.congr rfl rfl rfl

theorem State.busyDone_linkKept (h : s.link.Kept) : s.busyDone.link.Kept := by
  unfold State.busyDone
  split
  next frame rest sending =>
    split
    next busy =>
      obtain ⟨refusals, replies, store⟩ := h
      rw [sending] at refusals replies
      exact {
        refusals := by
          simp only [State.popFrame, State.modifyLink, sending, List.tail_cons]
          exact ((List.sublist_cons_self frame rest).countP_le).trans refusals
        replies := by
          simpa [State.popFrame, State.modifyLink, sending, busy] using replies
        store := store }
    next => exact h
  next => exact h

theorem State.reset_linkKept (b : Backup) (eye : Bool) (rate : LinkRate) (queue : List Instr) :
    (State.volatileReset b eye rate queue).link.Kept :=
  ⟨Nat.zero_le 1, rfl, ⟨fun _ => rfl, fun _ => rfl⟩⟩

theorem State.resetKept_linkKept (s : State) (straps : Straps) : (s.resetKept straps).link.Kept := by
  have start := State.reset_linkKept s.backup s.line.eyePin (.ofStraps straps) s.pending
  have same : (s.resetKept straps).link =
    (State.volatileReset s.backup s.line.eyePin (.ofStraps straps) s.pending).link := by simp [State.resetKept]
  rwa [same]

theorem State.replyDone_linkKept (h : s.link.Kept) (straps : Straps) : (s.replyDone straps).link.Kept := by
  unfold State.replyDone
  split
  next frame rest sending =>
    split_ifs with busy
    · exact h
    · exact s.resetKept_linkKept straps
    · obtain ⟨refusals, replies, store⟩ := h
      rw [sending] at refusals replies
      have one : rest.countP (fun f => !f.busy) + 1 ≤ 1 := by
        rw [List.countP_cons_of_pos (by simpa using busy)] at replies
        rw [replies]
        split
        · split <;> decide
        · decide
      exact {
        refusals := by
          simp only [State.popFrame, State.modifyLink, sending, List.tail_cons]
          exact ((List.sublist_cons_self frame rest).countP_le).trans refusals
        replies := by
          simp only [State.popFrame, State.modifyLink, sending, List.tail_cons]
          omega
        store := store }
  next => exact h

theorem Work.linkKept {i : Instr} (work : Work i s t) (h : s.link.Kept) : t.link.Kept := by
  have stilled (power : Power) : (s.stilled power).link.Kept := ⟨Nat.zero_le 1, rfl, ⟨fun _ => rfl, fun _ => rfl⟩⟩
  have kept := s.resetKept_linkKept
  cases work
  case clearCounters x => cases x <;> exact h.congr rfl rfl rfl
  case takeContinue taken => exact State.takeContinue_linkKept h taken
  case refuseContinue => exact State.refuseBusy_linkKept h _
  case receiveLinkOctet => exact State.receiveLinkOctet_linkKept h _ _
  case linkSilence => exact State.linkSilence_linkKept h
  case replyDone => exact State.replyDone_linkKept h _
  case busyDone => exact State.busyDone_linkKept h
  case powerOn straps =>
    unfold State.powerOnReset
    split
    · exact kept straps
    · exact State.reset_linkKept .cleared s.line.eyePin (.ofStraps straps) s.pending
  case resetPin straps =>
    have reset := kept straps
    have held := stilled .held
    unfold State.moveResetPin
    split <;> with_reducible assumption
  case powerFail => exact stilled .off
  all_goals exact h.congr (by simp) (by simp) (by simp)

theorem step_linkKept (next : step s = .next t) (h : s.link.Kept) : t.link.Kept := by
  unfold step at next
  split at next
  next => cases next; exact h
  next c rest _ =>
    rcases exec_outcomes next with work | ⟨owner, works, owned, rfl⟩
    · exact work.linkKept h
    · exact hostRequest_linkKept works owned h

end

end Sys2Proof.Machine
end

section
/-! PROOFS. The statement that every step keeps the ports and the link. -/
open Sys2Proof Sys2Proof.Machine

/-- Settles O58: the ports through every work of a command, the link through the passage of every request as well. -/
theorem stepsKeepThePortsAndTheLink : Obligations.StepsKeepThePortsAndTheLink := by
  unfold Obligations.StepsKeepThePortsAndTheLink
  constructor
  · intro s t kept next
    rw [← State.portsShaped_iff] at kept ⊢
    exact step_preserves (P := State.PortsShaped) (fun _ _ h => h.congr rfl) (fun _ _ h => h.congr rfl)
      (fun _ _ _ => Work.portsShaped) next kept
  · intro s t kept next
    rw [State.linkKept_iff] at kept ⊢
    exact step_linkKept next kept
end

section
/-! PROOFS. The statements about the step itself, the part that does not run, and the first reset. -/
open Sys2Proof Sys2Proof.Machine

/-- Settles O1: the step reads the queue and nothing else. -/
theorem stepTakesTheFrontCommand : Obligations.StepTakesTheFrontCommand := by
  unfold Obligations.StepTakesTheFrontCommand
  exact fun s c rest => ⟨rfl, rfl⟩

/-- Settles O3: a request finds no owner on a part that does not run, and an event of the running part does not happen. -/
theorem stillPartTakesNothing : Obligations.StillPartTakesNothing := by
  unfold Obligations.StillPartTakesNothing
  intro c s still
  have request (i : Instr) (owner : State → Answer) : Host.Outcome.next (hostRequest i owner s) =
      (.next s : Host.Outcome State Fault Refusal) := congrArg _ (hostRequest_still s i still)
  have event (f : State → State) : Host.Outcome.next (s.whenOn f) = (.next s : Host.Outcome State Fault Refusal) :=
    congrArg _ (s.whenOn_still still)
  cases c
  case powerOn | resetPin | powerFail | keepLevelLoss | clockSecond | eyeChange => trivial
  case continueReply | linkOctetReceived | linkSilenceExpiry | replySent | busyReplySent | minuteEvent |
      fieldRequestSent | replyWindowExpiry | fieldOctetReceived | fieldOctetSilence | fieldSilentWaitExpiry | lineFault |
      wakePulseEnd | wakeWaitExpiry | attemptGapExpiry | autoretryExpiry | reestablishExpiry |
      controllerIntervalExpiry | idleWaitExpiry | controllerLost | kilnPortUp | probePortUp | probePortLeftUp |
      sweepIntervalExpiry | encoderStep | eyeFilterExpiry | meterPortLeftUp | divertPulseExpiry | labelPauseExpiry |
      labelTimeoutExpiry | labelPortUp | labelPortLeftUp => exact event _
  all_goals exact request _ _

/-- Settles O17: the reset state's own values, read off field by field. -/
theorem resetLeavesTheStatedValues : Obligations.ResetLeavesTheStatedValues := by
  unfold Obligations.ResetLeavesTheStatedValues
  dsimp only
  refine ⟨rfl, ?schedules, rfl, rfl, rfl, rfl, rfl, rfl, rfl, rfl, rfl, rfl, rfl, rfl, ?kilns, ?ports, ?sweeps, ?bays, rfl,
    rfl, rfl, rfl, rfl, rfl, rfl, ?classes, rfl, rfl⟩
  case schedules => decide
  case kilns => decide
  case ports => decide
  case sweeps => decide
  case bays => decide
  case classes => intro k; cases k <;> rfl

/-- Settles O60: the tables of the reset state are empty, and its records are their initial ones. -/
theorem resetMeetsTheInvariants : Obligations.ResetMeetsTheInvariants := by
  unfold Obligations.ResetMeetsTheInvariants
  dsimp only
  refine ⟨?tables, fun c member => absurd member List.not_mem_nil, ?kilns, ⟨?setpoints, ?snapshots, ?schedules⟩,
    State.reset_portsKept, ⟨?sweeps, fun e member => absurd member List.not_mem_nil⟩, ?link⟩
  case tables => unfold State.tablesKept; decide
  case kilns => unfold State.kilnsKept; decide
  case setpoints => decide
  case snapshots =>
    have none : ∀ k, State.reset.snapshot k = none := by decide
    intro k x valid
    rw [none k] at valid
    cases valid
  case schedules =>
    have none : ∀ i, State.reset.schedules.get i = none := by decide
    intro i schedule held
    rw [none i] at held
    cases held
  case sweeps => decide
  case link => exact ⟨Nat.zero_le 1, rfl, fun _ => rfl, fun _ => rfl⟩
end

section
/-!
PROOFS. The supervisory link: what the receiver makes of an octet and of its silence (R183, R184), what a whole frame becomes
(R185, R186, R188), and how the contents of replies are cut and sent (R189, R190).
-/
namespace Sys2Proof.Machine

/-! ### Numbered records -/

theorem numbered_eq_none_iff {n id : Nat} : numbered n id = none ↔ id = 0 ∨ n < id := by
  cases id with
  | zero => simp [numbered]
  | succ i => simp [numbered]

/-! ### Frames -/

theorem octetSum_append (a b : List Octet) : octetSum (a ++ b) = octetSum a + octetSum b := by
  induction a with
  | nil => simp [octetSum]
  | cons x a ih =>
    have step (l : List Octet) : octetSum (x :: l) = x + octetSum l := rfl
    rw [List.cons_append, step, step, ih, BitVec.add_assoc]

section
variable (payload : List Octet)

/-- The octets of a host frame before its check. -/
def frameBody : List Octet := 0xB5 :: BitVec.ofNat 8 payload.length :: payload

theorem hostFrame_eq : hostFrame payload = frameBody payload ++ [checkOctet 0xA5 (frameBody payload)] := rfl

theorem hostFrame_length : (hostFrame payload).length = payload.length + 3 := by
  rw [hostFrame_eq, List.length_append, frameBody]
  rfl

theorem octetSum_hostFrame : octetSum (hostFrame payload) = 0xA5 := by
  have alone (x : Octet) : octetSum [x] = x := BitVec.add_zero x
  rw [hostFrame_eq, octetSum_append, alone, checkOctet, BitVec.add_comm, BitVec.sub_add_cancel]

variable {payload}

theorem hostFrame_lengthOctet (fits : payload.length ≤ 240) :
    ((hostFrame payload).getD 1 0).toNat = payload.length := by
  have : (hostFrame payload).getD 1 0 = BitVec.ofNat 8 payload.length := rfl
  rw [this, BitVec.toNat_ofNat]
  omega

theorem hostFrame_payload : ((hostFrame payload).drop 2).take payload.length = payload := by
  have : (hostFrame payload).drop 2 = payload ++ [checkOctet 0xA5 (frameBody payload)] := rfl
  rw [this, List.take_left']
  rfl

end

/-! ### The receiver (R183, R184) -/

theorem exec_linkOctetReceived_of_isOn {s : State} (on : s.isOn = true) (octet : Octet) (error : Bool) :
    exec (.linkOctetReceived octet error) s = .next (s.receiveLinkOctet octet error) :=
  congrArg Host.Outcome.next (s.whenOn_on (eq_of_beq on))

/-- The state after an octet that leaves the receiver in r. -/
def State.received (s : State) (r : Receiver) : State :=
  { s with link := { s.link with silenceWait := true, receiver := r } }

/-- The state after an octet with which the frame is dropped and counted. -/
def State.dropped (s : State) (r : Receiver) : State :=
  { s with link := { s.link with silenceWait := true, receiver := r, discarded := bump s.link.discarded } }

section
variable {s : State} {octet : Octet}

theorem State.receiveLinkOctet_of_resync (error : Bool) (resync : s.link.receiver = .resync) :
    s.receiveLinkOctet octet error = s.received .resync := by
  simp only [State.receiveLinkOctet, State.modifyLink_link, resync, State.received]
  rw [← resync]
  rfl

theorem State.receiveLinkOctet_of_hunt (error : Bool) (hunt : s.link.receiver = .hunt) :
    s.receiveLinkOctet octet error = s.received (if octet = 0xB5 ∧ error = false then .receiving [octet] else .hunt) := by
  simp only [State.receiveLinkOctet, State.modifyLink_link, hunt]
  split
  next => rfl
  next =>
    rw [← hunt]
    rfl

variable {octets : List Octet} (receiving : s.link.receiver = .receiving octets)
include receiving

theorem State.receiveLinkOctet_of_error : s.receiveLinkOctet octet true = s.dropped .resync := by
  simp only [State.receiveLinkOctet, State.modifyLink_link, receiving, if_pos]
  rfl

theorem State.receiveLinkOctet_of_receiving :
    s.receiveLinkOctet octet false =
      (s.modifyLink fun l => { l with silenceWait := true }).receiveFrameOctet octets octet := by
  simp only [State.receiveLinkOctet, State.modifyLink_link, receiving]
  rfl

/-- The length octet is out of its range: the frame is dropped. -/
theorem State.receiveLinkOctet_of_badLength (second : octets.length = 1)
    (bad : ((octets ++ [octet]).getD 1 0).toNat = 0 ∨ 240 < ((octets ++ [octet]).getD 1 0).toNat) :
    s.receiveLinkOctet octet false = s.dropped .resync := by
  have two : (octets ++ [octet]).length = 2 := by rw [List.length_append, second]; rfl
  rw [State.receiveLinkOctet_of_receiving receiving, State.receiveFrameOctet, if_pos ⟨two, bad⟩]
  rfl

/-- The octet is not yet the frame's last. -/
theorem State.receiveLinkOctet_of_within
    (ranged : octets.length = 1 →
      1 ≤ ((octets ++ [octet]).getD 1 0).toNat ∧ ((octets ++ [octet]).getD 1 0).toNat ≤ 240)
    (within : 2 ≤ octets.length → (octets ++ [octet]).length ≠ ((octets ++ [octet]).getD 1 0).toNat + 3) :
    s.receiveLinkOctet octet false = s.received (.receiving (octets ++ [octet])) := by
  have long : (octets ++ [octet]).length = octets.length + 1 := List.length_append
  have notBad : ¬((octets ++ [octet]).length = 2 ∧ (((octets ++ [octet]).getD 1 0).toNat = 0 ∨
      Config.maxPayload < ((octets ++ [octet]).getD 1 0).toNat)) := by
    unfold Config.maxPayload
    omega
  have notLast : ¬((octets ++ [octet]).length = ((octets ++ [octet]).getD 1 0).toNat + 3 ∧
      2 < (octets ++ [octet]).length) := by omega
  rw [State.receiveLinkOctet_of_receiving receiving, State.receiveFrameOctet, if_neg notBad, if_neg notLast]
  rfl

/-- The octet is the frame's last, and the sum is not 0xA5. -/
theorem State.receiveLinkOctet_of_badSum
    (nonempty : 2 < (octets ++ [octet]).length)
    (last : (octets ++ [octet]).length = ((octets ++ [octet]).getD 1 0).toNat + 3)
    (bad : octetSum (octets ++ [octet]) ≠ 0xA5) : s.receiveLinkOctet octet false = s.dropped .hunt := by
  rw [State.receiveLinkOctet_of_receiving receiving, State.receiveFrameOctet, if_neg (by omega),
    if_pos ⟨last, by omega⟩, if_neg bad]
  rfl

/-- The octet is the last of a good frame, whose payload is handed on. -/
theorem State.receiveLinkOctet_of_whole (nonempty : 1 ≤ ((octets ++ [octet]).getD 1 0).toNat)
    (last : (octets ++ [octet]).length = ((octets ++ [octet]).getD 1 0).toNat + 3)
    (good : octetSum (octets ++ [octet]) = 0xA5) :
    s.receiveLinkOctet octet false =
      (s.received .hunt).handOn (((octets ++ [octet]).drop 2).take ((octets ++ [octet]).getD 1 0).toNat) := by
  rw [State.receiveLinkOctet_of_receiving receiving, State.receiveFrameOctet, if_neg (by omega),
    if_pos ⟨last, by omega⟩, if_pos good]
  rfl

/-- The check octet of a payload's frame: the payload is handed on. -/
theorem State.receiveLinkOctet_of_check {payload : List Octet} (frame : octets ++ [octet] = hostFrame payload)
    (nonempty : 1 ≤ payload.length) (fits : payload.length ≤ 240) :
    s.receiveLinkOctet octet false = (s.received .hunt).handOn payload := by
  have length := hostFrame_lengthOctet fits
  have whole := State.receiveLinkOctet_of_whole (octet := octet) receiving
  rw [frame, length, hostFrame_length, octetSum_hostFrame, hostFrame_payload] at whole
  exact whole nonempty rfl rfl

end

/-! ### Requests and their refusals -/

/-- CONTINUE of the running part, by what the buffer holds. -/
theorem exec_continueReply_of_on {s : State} (on : s.power = .on) :
    exec .continueReply s =
      .next (if s.link.buffer.isNone || s.link.awaits .continueReply then s.takeContinue else s.refuseBusy 0x04) :=
  congrArg Host.Outcome.next (s.whenOn_on on)

theorem exec_busy {s : State} {i : Instr} (request : (kindCode i).isSome = true) (busy : s.busyFor i = true) :
    exec i s = .next (s.busyReply (requestKind i)) := by
  by_cases own : i = .continueReply
  · subst own
    simp only [State.busyFor, Bool.and_eq_true, beq_iff_eq, Bool.not_eq_true'] at busy
    obtain ⟨⟨on, held⟩, another⟩ := busy
    have full : s.link.buffer.isNone = false := by simpa using held
    rw [exec_continueReply_of_on on, full, another]
    rfl
  · obtain ⟨owner, -, is⟩ := exec_owned ⟨request, own⟩
    rw [is s, hostRequest_busy s i busy, State.refuseBusy_eq]

/-- The frame that an OK reply composes carries OK. -/
theorem okPayload_status (kind : Octet) (n : Notices) (remaining : Nat) (segment : List Octet) :
    (hostFrame (okPayload kind n remaining segment)).getD 3 0 = 0x00 := rfl

/-- An OK reply joins the frames. -/
theorem State.answerOk_sending (s : State) (kind : Octet) (content : List Octet) :
    ∃ n segment, (s.answerOk kind content).link.sending =
      s.link.sending ++ [{ busy := false, octets := hostFrame (okPayload kind s.notices n segment) }] := by
  unfold State.answerOk
  split
  next none => exact absurd none (segmentsOf_ne_nil content)
  next first rest _ => exact ⟨rest.length, first, rfl⟩

/-- CONTINUE taken by the link, by what the reply store holds. -/
theorem State.takeContinue_eq (s : State) :
    s.takeContinue =
      match s.link.store.segments with
      | [] => s.refusal .continueReply .wrongState
      | segment :: rest =>
        { s with
          link := { s.link with
                    buffer := some { kind := 0x04, request := some .continueReply, answered := true },
                    sending := s.link.sending ++
                      [{ busy := false, octets := hostFrame (okPayload 0x04 s.notices rest.length segment) }],
                    store := { segments := rest, next := if rest = [] then 0 else s.link.store.next + 1 } } } := by
  have held : (s.holdRequest 0x04 (some .continueReply) true).link.store = s.link.store := rfl
  unfold State.takeContinue
  dsimp only
  rw [held]
  cases segments : s.link.store.segments with
  | nil => rfl
  | cons segment rest =>
    simp only [State.compose, State.holdRequest, State.modifyLink, ReplyStore.advance, segments, List.tail_cons,
      List.isEmpty_iff]

theorem exec_continueReply_of_takes {s : State} (taken : s.takes .continueReply = true) :
    exec .continueReply s = .next s.takeContinue := by
  obtain ⟨on, may⟩ := (s.takes_iff .continueReply).mp taken
  rw [exec_continueReply_of_on on, if_pos (by simpa using may)]

/-! ### Segments -/

theorem cutSegments_flatten (fuel : Nat) (content : List Octet) : (cutSegments fuel content).flatten = content := by
  induction fuel generalizing content with
  | zero => exact List.append_nil content
  | succ fuel ih =>
    rw [cutSegments]
    split
    · exact List.append_nil content
    · rw [List.flatten_cons, ih, List.take_append_drop]

theorem cutSegments_dropLast (fuel : Nat) (content : List Octet) :
    ∀ x ∈ (cutSegments fuel content).dropLast, x.length = 235 := by
  induction fuel generalizing content with
  | zero => exact fun x member => absurd member List.not_mem_nil
  | succ fuel ih =>
    rw [cutSegments]
    split
    next => exact fun x member => absurd member List.not_mem_nil
    next long =>
      rw [List.dropLast_cons_of_ne_nil (cutSegments_ne_nil fuel _)]
      intro x member
      rcases List.mem_cons.mp member with rfl | later
      · rw [List.length_take]
        exact Nat.min_eq_left (Nat.le_of_not_le long)
      · exact ih _ x later

/-- With fuel for every octet every segment is cut short enough. -/
theorem cutSegments_length_le (fuel : Nat) (content : List Octet) (enough : content.length ≤ fuel) :
    ∀ x ∈ cutSegments fuel content, x.length ≤ 235 := by
  induction fuel generalizing content with
  | zero =>
    intro x member
    obtain rfl := List.mem_singleton.mp member
    omega
  | succ fuel ih =>
    rw [cutSegments]
    split
    next short =>
      intro x member
      obtain rfl := List.mem_singleton.mp member
      exact short
    next long =>
      intro x member
      rcases List.mem_cons.mp member with rfl | later
      · exact List.length_take_le 235 content
      · refine ih _ ?_ x later
        rw [List.length_drop]
        unfold Config.segmentLength at long ⊢
        omega

theorem segmentsOf_length_eq_one_iff (content : List Octet) :
    (segmentsOf content).length = 1 ↔ content.length ≤ 235 := by
  constructor
  · intro one
    obtain ⟨x, is⟩ := List.length_eq_one_iff.mp one
    have whole : (segmentsOf content).flatten = content := cutSegments_flatten _ _
    have short := cutSegments_length_le content.length content (Nat.le_refl _)
    have same : x = content := by simpa [is] using whole
    exact same ▸ short x (by rw [← segmentsOf, is]; exact List.mem_singleton_self x)
  · intro short
    rw [segmentsOf_short short]
    rfl

/-! ### Counters -/

theorem State.holdRequest_clearCounters (s : State) (kind : Octet) (request : Option Instr) (answered : Bool)
    (x : CounterSubject) :
    (s.holdRequest kind request answered).clearCounters x = (s.clearCounters x).holdRequest kind request answered := by
  cases x <;> rfl

section
variable {s : State} {subject choice : Nat} (taken : s.takes (.readCounters subject choice) = true)
include taken

theorem exec_readCounters_of_named {x : CounterSubject} {clear : Bool} (named : counterSubject subject = some x)
    (chosen : flagOf choice = some clear) :
    exec (.readCounters subject choice) s =
      .next ((if clear then s.clearCounters x else s).okReply (.readCounters subject choice)
        (u8 subject ++ s.counterOctets x)) := by
  refine congrArg Host.Outcome.next (hostRequest_eq_okReply taken ?_)
  rw [readCountersAnswer, named, chosen]
  have octets : (s.holdRequest (requestKind (.readCounters subject choice)) (some (.readCounters subject choice))
      true).counterOctets x = s.counterOctets x := by cases x <;> rfl
  dsimp only
  rw [octets]
  cases clear
  · rfl
  · exact congrArg _ (s.holdRequest_clearCounters _ _ _ x)

theorem exec_readCounters_of_unnamed (none : counterSubject subject = none ∨ flagOf choice = none) :
    exec (.readCounters subject choice) s = .next (s.refusal (.readCounters subject choice) .outOfRange) := by
  refine congrArg Host.Outcome.next (hostRequest_eq_refusal taken ?_)
  unfold readCountersAnswer
  split
  next named chosen =>
    rw [named, chosen] at none
    simp at none
  next => rfl

end

theorem portOf_succ (p : PortNo) : portOf (p.val + 1) = some p := dif_pos p.isLt

theorem counterSubject_port (p : PortNo) : counterSubject (p.val + 1) = some (.port p) := by
  rw [counterSubject, if_neg (by omega), if_neg (by omega), portOf_succ]
  rfl

end Sys2Proof.Machine
end

section
/-! PROOFS. The statements of the family of the supervisory link. -/
open Sys2Proof Sys2Proof.Machine

/-- Settles O4: as a command by the buffer's state, as a frame's last octet by the frame's own form. -/
theorem framesWhileHeldAreRefusedBusy : Obligations.FramesWhileHeldAreRefusedBusy := by
  unfold Obligations.FramesWhileHeldAreRefusedBusy
  constructor
  · exact fun i s request busy => exec_busy request busy
  · intro s payload check on held nonempty fits frame receiving
    have whole := State.receiveLinkOctet_of_check receiving frame.symm nonempty fits
    rw [exec_linkOctetReceived_of_isOn on, whole, State.handOn]
    exact congrArg Host.Outcome.next (if_pos held)

/-- Settles O5: a request that is not answered OK leaves its owner's work undone, by the owner's own answer. -/
theorem refusedRequestsChangeNothing : Obligations.RefusedRequestsChangeNothing := by
  unfold Obligations.RefusedRequestsChangeNothing
  intro i s t f request taken next sent refused
  by_cases own : i = .continueReply
  · subst own
    rw [exec_continueReply_of_takes taken] at next
    obtain rfl := Host.Outcome.next.inj next
    rw [State.takeContinue_eq] at sent ⊢
    split at sent
    next =>
      obtain rfl := List.singleton_inj.mp (List.append_cancel_left sent)
      rfl
    next =>
      obtain rfl := List.singleton_inj.mp (List.append_cancel_left sent)
      exact absurd (okPayload_status ..) refused
  · obtain ⟨owner, works, is⟩ := exec_owned ⟨request, own⟩
    rw [is s] at next
    obtain rfl := Host.Outcome.next.inj next
    cases answer : owner (s.holdRequest (requestKind i) (some i) true) with
    | refuse status =>
      rw [hostRequest_taken s i taken, performRequest_refuse s i answer] at sent ⊢
      obtain rfl := List.singleton_inj.mp (List.append_cancel_left sent)
      rfl
    | ok content after =>
      obtain ⟨sending, -⟩ := (works _ _ _ answer).link_of_owned ⟨request, own⟩
      obtain ⟨n, segment, composed⟩ := after.answerOk_sending (requestKind i) content
      simp only [hostRequest_taken s i taken, performRequest, answer, composed, sending] at sent
      obtain rfl := List.singleton_inj.mp (List.append_cancel_left sent)
      exact absurd (okPayload_status ..) refused

/-- Settles O8, by the receiver's state and by where the octet stands in the frame. -/
theorem receiverTakesOctetsAndSilence : Obligations.ReceiverTakesOctetsAndSilence := by
  unfold Obligations.ReceiverTakesOctetsAndSilence
  constructor
  · intro s octet error on
    dsimp only
    rw [exec_linkOctetReceived_of_isOn on]
    refine ⟨fun resync => ?_, fun hunt => ?_, fun octets receiving => ?_⟩
    · rw [State.receiveLinkOctet_of_resync error resync]; rfl
    · rw [State.receiveLinkOctet_of_hunt error hunt]; rfl
    · have long : (octets ++ [octet]).length = octets.length + 1 := List.length_append
      refine ⟨?_, ?_, ?_, ?_, ?_⟩ <;> rintro rfl
      · rw [State.receiveLinkOctet_of_error receiving]; rfl
      · intro second bad
        rw [State.receiveLinkOctet_of_badLength receiving second bad]; rfl
      · intro second low high
        rw [State.receiveLinkOctet_of_within receiving (by omega) (by omega)]; rfl
      · intro later notLast
        rw [State.receiveLinkOctet_of_within receiving (by omega) (by omega)]; rfl
      · intro later last bad
        rw [State.receiveLinkOctet_of_badSum receiving (by omega) last bad]; rfl
  · intro s on runs
    refine congrArg Host.Outcome.next ((s.whenOn_on (eq_of_beq on)).trans ?_)
    rw [State.linkSilence, if_pos runs]
    simp only [State.modifyLink_link]
    cases receiver : s.link.receiver with
    | resync => rfl
    | hunt => simp only [State.modifyLink, receiver]
    | receiving octets => rfl

/-- Settles O9: the link's own answers, each read off its definition; READ-COUNTERS by subject and choice. -/
theorem linkAnswersWhatNamesNoOwner : Obligations.LinkAnswersWhatNamesNoOwner := by
  unfold Obligations.LinkAnswersWhatNamesNoOwner
  refine ⟨?_, ?_, ?_, ?_⟩
  · intro s octets octet status on empty receiving
    dsimp only
    intro nonempty last good unknown
    have free : (s.received .hunt).link.buffer.isSome = false := by
      rw [show (s.received .hunt).link.buffer = none from empty]
      rfl
    rw [exec_linkOctetReceived_of_isOn on, State.receiveLinkOctet_of_whole receiving nonempty last good, State.handOn, free, if_neg Bool.false_ne_true, unknown]
    rfl
  · exact fun s taken => congrArg Host.Outcome.next (hostRequest_eq_okReply taken rfl)
  · exact fun s taken => congrArg Host.Outcome.next (hostRequest_eq_okReply taken rfl)
  · intro s subject choice taken
    dsimp only
    refine ⟨fun bad => exec_readCounters_of_unnamed taken ?_, ?_, ?_, ?_, ?_, ?_, ?_⟩
    · rcases bad with big | outside
      · exact .inr (flagOf_eq_none (by omega))
      · have none : portOf subject = none := numbered_eq_none_iff.mpr (outside.imp_right (by omega))
        exact .inl (by rw [counterSubject, if_neg (by omega), if_neg (by omega), none]; rfl)
    · rintro p rfl rfl
      exact exec_readCounters_of_named taken (counterSubject_port p) rfl
    · rintro p rfl rfl
      exact exec_readCounters_of_named taken (counterSubject_port p) rfl
    all_goals
      rintro rfl rfl
      exact exec_readCounters_of_named taken rfl rfl

/-- Settles O10: CONTINUE from the store's next segment, the segments by the cutting's recursion. -/
theorem repliesAreSentInSegments : Obligations.RepliesAreSentInSegments := by
  unfold Obligations.RepliesAreSentInSegments
  constructor
  · intro s taken
    rw [exec_continueReply_of_takes taken, State.takeContinue_eq]
    refine ⟨fun empty => ?_, fun segment rest segments => ?_⟩
    · rw [empty]
    · rw [segments]
      rfl
  · exact fun content => ⟨cutSegments_flatten _ _, cutSegments_dropLast _ _,
      cutSegments_length_le _ _ (Nat.le_refl _), segmentsOf_length_eq_one_iff content⟩
end

section
/-!
PROOFS. The frames of requests: the fields of a payload read back (R196 to R198), and a whole frame received octet by octet
(R182, R183, R185).
-/
namespace Sys2Proof.Machine

/-! ### Numbers read back from their octets -/

theorem octet_toNat {n : Nat} (fits : isU8 n = true) : (BitVec.ofNat 8 n).toNat = n := by
  rw [isU8, decide_eq_true_eq] at fits
  exact (BitVec.toNat_ofNat n 8).trans (Nat.mod_eq_of_lt fits)

theorem num16_octets {n : Nat} (fits : isU16 n = true) : num16 (BitVec.ofNat 8 (n / 256)) (BitVec.ofNat 8 n) = n := by
  rw [isU16, decide_eq_true_eq] at fits
  simp only [num16, BitVec.toNat_ofNat]
  omega

theorem num32_octets {n : Nat} (fits : isU32 n = true) :
    num32 (BitVec.ofNat 8 (n / 16777216)) (BitVec.ofNat 8 (n / 65536)) (BitVec.ofNat 8 (n / 256)) (BitVec.ofNat 8 n) =
      n := by
  rw [isU32, decide_eq_true_eq] at fits
  simp only [num32, num16, BitVec.toNat_ofNat]
  omega

theorem int16_octets {x : Int} (fits : isI16 x = true) :
    int16 (BitVec.ofNat 8 ((x % 65536).toNat / 256)) (BitVec.ofNat 8 (x % 65536).toNat) = x := by
  have small : isU16 (x % 65536).toNat = true := by rw [isU16, decide_eq_true_eq]; omega
  rw [isI16, decide_eq_true_eq] at fits
  rw [int16, num16_octets small]
  split <;> omega

theorem parseBreakpoints_octets {curve : List (Nat × Nat)} (fits : curve.all breakpointWf = true) :
    parseBreakpoints (curve.flatMap breakpointOctets) = curve := by
  induction curve with
  | nil => rfl
  | cons p rest ih =>
    simp only [List.all_cons, Bool.and_eq_true, breakpointWf] at fits
    obtain ⟨⟨abscissa, ordinate⟩, others⟩ := fits
    have head : parseBreakpoints ((p :: rest).flatMap breakpointOctets) =
        (num16 (BitVec.ofNat 8 (p.1 / 256)) (BitVec.ofNat 8 p.1), num16 (BitVec.ofNat 8 (p.2 / 256)) (BitVec.ofNat 8 p.2))
          :: parseBreakpoints (rest.flatMap breakpointOctets) := rfl
    rw [head, num16_octets abscissa, num16_octets ordinate, ih others]

theorem parseSteps_octets {steps : List StepFields} (fits : steps.all StepFields.wf = true) :
    parseSteps (steps.flatMap StepFields.octets) = steps := by
  induction steps with
  | nil => rfl
  | cons f rest ih =>
    simp only [List.all_cons, Bool.and_eq_true, StepFields.wf] at fits
    obtain ⟨⟨⟨⟨⟨⟨⟨target, depression⟩, ramp⟩, rule⟩, threshold⟩, maximum⟩, action⟩, others⟩ := fits
    have head : parseSteps ((f :: rest).flatMap StepFields.octets) =
        { target := int16 (BitVec.ofNat 8 ((f.target % 65536).toNat / 256)) (BitVec.ofNat 8 (f.target % 65536).toNat)
          depression := num16 (BitVec.ofNat 8 (f.depression / 256)) (BitVec.ofNat 8 f.depression)
          ramp := (BitVec.ofNat 8 f.ramp).toNat, rule := (BitVec.ofNat 8 f.rule).toNat
          threshold := num16 (BitVec.ofNat 8 (f.threshold / 256)) (BitVec.ofNat 8 f.threshold)
          maximum := num16 (BitVec.ofNat 8 (f.maximum / 256)) (BitVec.ofNat 8 f.maximum)
          action := (BitVec.ofNat 8 f.action).toNat } :: parseSteps (rest.flatMap StepFields.octets) := rfl
    rw [head, int16_octets target, num16_octets depression, octet_toNat ramp, octet_toNat rule, num16_octets threshold,
      num16_octets maximum, octet_toNat action, ih others]

theorem choices_toNat {choices : List Nat} (fits : choices.all isU8 = true) :
    (choices.flatMap u8).map BitVec.toNat = choices := by
  induction choices with
  | nil => rfl
  | cons n rest ih =>
    rw [List.all_cons, Bool.and_eq_true] at fits
    obtain ⟨first, others⟩ := fits
    have head : ((n :: rest).flatMap u8).map BitVec.toNat =
        (BitVec.ofNat 8 n).toNat :: (rest.flatMap u8).map BitVec.toNat := rfl
    rw [head, octet_toNat first, ih others]

/-! ### Requests read back -/

theorem parseRequest_writeSpecies {code kT packLimit : Nat} {curve : List (Nat × Nat)}
    (fits : (Instr.writeSpecies code kT packLimit curve).wf = true) :
    parseRequest (0x10 :: requestFields (.writeSpecies code kT packLimit curve)) =
      .ok (.writeSpecies code kT packLimit curve) := by
  simp only [Instr.wf, Bool.and_eq_true, beq_iff_eq] at fits
  obtain ⟨⟨⟨⟨codeFits, kTFits⟩, limitFits⟩, eight⟩, curveFits⟩ := fits
  have whole : (curve.flatMap breakpointOctets).length = 32 := by rw [Laws.breakpoints_length, eight]
  have parsed : parseRequest (0x10 :: requestFields (.writeSpecies code kT packLimit curve)) =
      match (some (if (curve.flatMap breakpointOctets).length = 32 then
        some (.writeSpecies (BitVec.ofNat 8 code).toNat (num16 (BitVec.ofNat 8 (kT / 256)) (BitVec.ofNat 8 kT))
          (num16 (BitVec.ofNat 8 (packLimit / 256)) (BitVec.ofNat 8 packLimit))
          (parseBreakpoints (curve.flatMap breakpointOctets)))
        else none) : Option (Option Instr)) with
      | none => .error .unknownKind
      | some none => .error .badLength
      | some (some i) => .ok i := rfl
  rw [parsed, if_pos whole, octet_toNat codeFits, num16_octets kTFits, num16_octets limitFits,
    parseBreakpoints_octets curveFits]

theorem parseRequest_writeSchedule {id count : Nat} {steps : List StepFields}
    (fits : (Instr.writeSchedule id count steps).wf = true) :
    parseRequest (0x13 :: requestFields (.writeSchedule id count steps)) = .ok (.writeSchedule id count steps) := by
  simp only [Instr.wf, Bool.and_eq_true, beq_iff_eq, decide_eq_true_eq] at fits
  obtain ⟨⟨⟨idFits, rfl⟩, most⟩, stepsFit⟩ := fits
  have countFits : isU8 steps.length = true := by rw [isU8, decide_eq_true_eq]; omega
  have whole : (steps.flatMap StepFields.octets).length = 11 * (BitVec.ofNat 8 steps.length).toNat := by
    rw [Laws.steps_length, octet_toNat countFits]
  have parsed : parseRequest (0x13 :: requestFields (.writeSchedule id steps.length steps)) =
      match (some (if (steps.flatMap StepFields.octets).length = 11 * (BitVec.ofNat 8 steps.length).toNat then
        some (.writeSchedule (BitVec.ofNat 8 id).toNat (BitVec.ofNat 8 steps.length).toNat
          (parseSteps (steps.flatMap StepFields.octets)))
        else none) : Option (Option Instr)) with
      | none => .error .unknownKind
      | some none => .error .badLength
      | some (some i) => .ok i := rfl
  rw [parsed, if_pos whole, octet_toNat idFits, octet_toNat countFits, parseSteps_octets stepsFit]

theorem parseRequest_setMasks {choices : List Nat} (fits : (Instr.setMasks choices).wf = true) :
    parseRequest (0x92 :: requestFields (.setMasks choices)) = .ok (.setMasks choices) := by
  simp only [Instr.wf, Bool.and_eq_true, beq_iff_eq] at fits
  obtain ⟨nine, choicesFit⟩ := fits
  have whole : (choices.flatMap u8).length = 9 := by rw [Laws.choices_length, nine]
  have parsed : parseRequest (0x92 :: requestFields (.setMasks choices)) =
      match (some (if (choices.flatMap u8).length = 9 then some (.setMasks ((choices.flatMap u8).map BitVec.toNat))
        else none) : Option (Option Instr)) with
      | none => .error .unknownKind
      | some none => .error .badLength
      | some (some i) => .ok i := rfl
  rw [parsed, if_pos whole, choices_toNat choicesFit]

/-- The payload of a well-formed request is read back: of fields of fixed widths number by number, of lists by their own
lemmas. -/
theorem parseRequest_of_kind {i : Instr} {kind : Octet} (fits : i.wf = true) (is : kindCode i = some kind) :
    parseRequest (kind :: requestFields i) = .ok i := by
  cases i <;> cases is
  case identify | restart | continueReply | listTables | listCharges | listAssignments | lineClear | readLine | listPacks |
      readClock | readRetained | takeNotice | peekNotices => rfl
  case writeSpecies => exact parseRequest_writeSpecies fits
  case writeSchedule => exact parseRequest_writeSchedule fits
  case setMasks => exact parseRequest_setMasks fits
  all_goals
    simp only [Instr.wf, Bool.and_eq_true] at fits
    change Except.ok _ = Except.ok _
    simp only [octet_toNat, num16_octets, num32_octets, fits]

theorem encodeRequest_eq_some_iff {i : Instr} {payload : List Octet} :
    encodeRequest i = some payload ↔ ∃ kind, kindCode i = some kind ∧ kind :: requestFields i = payload :=
  Option.map_eq_some_iff

/-- The fields of a well-formed request fit a frame. -/
theorem requestFields_length {i : Instr} {kind : Octet} (fits : i.wf = true) (is : kindCode i = some kind) :
    (requestFields i).length < 240 := by
  cases i <;> cases is
  case writeSpecies => exact (Laws.RequestKind.writeSpecies _ _ _ _ fits).2
  case writeSchedule => exact (Laws.RequestKind.writeSchedule _ _ _ fits).2
  case setMasks => exact (Laws.RequestKind.setMasks _ fits).2
  all_goals exact Nat.le_of_ble_eq_true rfl

/-! ### A frame received octet by octet -/

/-- A frame's octets as events. -/
def octetEvents (octets : List Octet) : List Instr := octets.map fun o => .linkOctetReceived o false

theorem run_octet {s : State} (on : s.isOn = true) (octet : Octet) (rest : List Octet) (n : Nat) :
    Host.Core.run core (n + 1) (s.setPending (octetEvents (octet :: rest))) =
      Host.Core.run core n ((s.setPending (octetEvents rest)).receiveLinkOctet octet false) := by
  have step : step (s.setPending (octetEvents (octet :: rest))) =
      .next ((s.setPending (octetEvents rest)).receiveLinkOctet octet false) :=
    exec_linkOctetReceived_of_isOn (s := s.setPending (octetEvents rest)) on octet false
  have taken (t : State) (u : State) (is : Machine.step t = .next u) :
      Host.Core.run core (n + 1) t = Host.Core.run core n u := by
    have step : core.step t = .next u := is
    simp only [Host.Core.run, step]
  exact taken _ _ step

section
variable {s : State} {payload : List Octet} (on : s.isOn = true) (nonempty : 1 ≤ payload.length)
  (fits : payload.length ≤ 240)
include on nonempty fits

/-- The rest of a good frame's octets: each but the last joins the frame, and with the last the payload is handed on. -/
theorem run_frame (after : List Octet) (before : List Octet) (frame : before ++ after = hostFrame payload)
    (begun : 1 ≤ before.length) (more : after ≠ []) :
    Host.Core.run core after.length ((s.received (.receiving before)).setPending (octetEvents after)) =
      .next (((s.received .hunt).setPending []).handOn payload) := by
  induction after generalizing before with
  | nil => exact absurd rfl more
  | cons octet rest ih =>
    rw [List.length_cons, run_octet (s := s.received (.receiving before)) on]
    have receiving : ((s.received (.receiving before)).setPending (octetEvents rest)).link.receiver =
      .receiving before := rfl
    cases rest with
    | nil =>
      rw [State.receiveLinkOctet_of_check receiving frame nonempty fits]
      rfl
    | cons next rest =>
      have total := congrArg List.length frame
      rw [hostFrame_length, List.length_append, List.length_cons, List.length_cons] at total
      have long : (before ++ [octet]).length = before.length + 1 := List.length_append
      have lengthOctet : ((before ++ [octet]).getD 1 0).toNat = payload.length := by
        rw [← hostFrame_lengthOctet fits, ← frame, List.append_cons before octet (next :: rest)]
        have inside : 1 < (before ++ [octet]).length := by omega
        rw [List.getD_append (before ++ [octet]) _ _ _ inside]
      have within := State.receiveLinkOctet_of_within (octet := octet) receiving
        (fun _ => by rw [lengthOctet]; exact ⟨nonempty, fits⟩) (fun _ => by rw [lengthOctet]; omega)
      rw [within]
      exact ih (before ++ [octet]) (by rw [← frame, ← List.append_cons]) (by omega) (List.cons_ne_nil _ _)

theorem run_hostFrame (hunt : s.link.receiver = .hunt) :
    Host.Core.run core (hostFrame payload).length (s.setPending (octetEvents (hostFrame payload))) =
      .next (((s.received .hunt).setPending []).handOn payload) := by
  obtain ⟨rest, is⟩ : ∃ rest, hostFrame payload = 0xB5 :: rest := ⟨_, rfl⟩
  have some : rest ≠ [] := by
    rintro rfl
    have := congrArg List.length is
    rw [hostFrame_length] at this
    simp at this
  have begun : (s.setPending (octetEvents rest)).receiveLinkOctet 0xB5 false =
      (s.received (.receiving [0xB5])).setPending (octetEvents rest) :=
    State.receiveLinkOctet_of_hunt (s := s.setPending (octetEvents rest)) false hunt
  rw [is, List.length_cons, run_octet on, begun]
  exact run_frame on nonempty fits rest [0xB5] is.symm (Nat.le_refl 1) some

end

end Sys2Proof.Machine
end

section
/-! PROOFS. The statements on the frames of requests. -/
open Sys2Proof Sys2Proof.Machine

/-- Settles O6, from the reading of each kind's fields. -/
theorem requestsReadBackFromTheirFrames : Obligations.RequestsReadBackFromTheirFrames := by
  unfold Obligations.RequestsReadBackFromTheirFrames
  intro i payload fits encoded
  obtain ⟨kind, is, rfl⟩ := encodeRequest_eq_some_iff.mp encoded
  exact parseRequest_of_kind fits is

/-- Settles O7: the frame is received octet by octet, and its payload, handed on, is the request's. -/
theorem framesAreAccepted : Obligations.FramesAreAccepted := by
  unfold Obligations.FramesAreAccepted
  intro i payload s fits encoded on hunt empty
  obtain ⟨kind, is, rfl⟩ := encodeRequest_eq_some_iff.mp encoded
  have short := requestFields_length fits is
  have run := run_hostFrame on (payload := kind :: requestFields i) (Nat.le_add_left 1 _) short hunt
  have free : ((s.received .hunt).setPending []).link.buffer = none := empty
  have kindIs : requestKind i = kind := congrArg (Option.getD · 0) is
  refine run.trans (congrArg Host.Outcome.next ?_)
  simp only [State.handOn, free, parseRequest_of_kind fits is, Option.isSome_none, if_neg Bool.false_ne_true,
    List.headD_cons, kindIs]
  rw [State.holdRequest, State.modifyLink, State.received, ← hunt]
  rfl
end

section
/-!
PROOFS. The calendar clock (R164 to R166), and what a reset that keeps the backup domain recovers (R54, R77, R172).
-/
namespace Sys2Proof.Machine

/-! ### The second after (R164) -/

theorem DateTime.valid_iff (t : DateTime) :
    t.valid = true ↔ 2000 ≤ t.year ∧ t.year ≤ 2099 ∧ 1 ≤ t.month ∧ t.month ≤ 12 ∧ 1 ≤ t.day ∧
      t.day ≤ monthLength t.year t.month ∧ t.hour ≤ 23 ∧ t.minute ≤ 59 ∧ t.second ≤ 59 := by
  simp only [DateTime.valid, Bool.and_eq_true, inRange_iff, decide_eq_true_eq]
  constructor
  · rintro ⟨⟨⟨⟨⟨⟨_, _⟩, _, _⟩, _, _⟩, _⟩, _⟩, _⟩
    exact ⟨‹_›, ‹_›, ‹_›, ‹_›, ‹_›, ‹_›, ‹_›, ‹_›, ‹_›⟩
  · rintro ⟨_, _, _, _, _, _, _, _, _⟩
    exact ⟨⟨⟨⟨⟨⟨‹_›, ‹_›⟩, ‹_›, ‹_›⟩, ‹_›, ‹_›⟩, ‹_›⟩, ‹_›⟩, ‹_›⟩

theorem monthLength_pos (year month : Nat) : 1 ≤ monthLength year month := by
  unfold monthLength
  (repeat' split) <;> decide

theorem daysBefore_succ (year : Nat) {month : Nat} (later : 1 ≤ month) :
    daysBefore year (month + 1) = daysBefore year month + monthLength year month := if_neg (by omega)

theorem daysBefore_january (year : Nat) : daysBefore year 1 = 0 := rfl

/-- The days of a whole year. -/
theorem daysBefore_december (year : Nat) :
    daysBefore year 12 + monthLength year 12 = 365 + if year % 4 = 0 then 1 else 0 := by
  simp only [daysBefore, monthLength, Nat.reduceAdd, if_true, if_false, OfNat.ofNat_ne_zero, one_ne_zero]
  split <;> rfl

/-- The last day of a valid century is its last December's. -/
theorem DateTime.eq_last {t : DateTime} (year : t.year = 2099) (month : t.month = 12) (day : t.day = 31)
    (hour : t.hour = 23) (minute : t.minute = 59) (second : t.second = 59) : t = .last := by
  obtain ⟨_, _, _, _, _, _⟩ := t
  subst year month day hour minute second
  rfl

section
variable {t : DateTime} (valid : t.valid = true)
include valid

theorem DateTime.nextDay_valid (notLast : ¬(t.year = 2099 ∧ t.month = 12 ∧ t.day = 31)) : t.nextDay.valid = true := by
  obtain ⟨_, _, _, _, _, _, _, _, _⟩ := t.valid_iff.mp valid
  unfold DateTime.nextDay
  split_ifs with within early
  · refine DateTime.valid_iff _ |>.mpr ⟨‹_›, ‹_›, ‹_›, ‹_›, Nat.le_add_left .., within, Nat.zero_le _, Nat.zero_le _, Nat.zero_le _⟩
  · refine DateTime.valid_iff _ |>.mpr ⟨‹_›, ‹_›, Nat.le_add_left .., early, Nat.le_refl 1, monthLength_pos ..,
      Nat.zero_le _, Nat.zero_le _, Nat.zero_le _⟩
  · have december : t.month = 12 := by omega
    have length : monthLength t.year t.month = 31 := by rw [december]; rfl
    have ended : t.day = 31 := by omega
    have before : t.year ≠ 2099 := fun year => notLast ⟨year, december, ended⟩
    refine DateTime.valid_iff _ |>.mpr ⟨Nat.le_add_right_of_le ‹_›, ?_, Nat.le_refl 1, (by decide : 1 ≤ 12), Nat.le_refl 1,
      monthLength_pos .., Nat.zero_le _, Nat.zero_le _, Nat.zero_le _⟩
    change t.year + 1 ≤ 2099
    omega

/-- Midnight of the day after is the seconds that the day still had later. -/
theorem DateTime.nextDay_seconds :
    t.nextDay.seconds + (t.hour * 60 + t.minute) * 60 + t.second = t.seconds + 86400 := by
  obtain ⟨_, _, _, _, _, _, _, _, _⟩ := t.valid_iff.mp valid
  unfold DateTime.nextDay
  split_ifs with within early
  · simp only [DateTime.seconds]
    omega
  · have ended : t.day = monthLength t.year t.month := by omega
    simp only [DateTime.seconds, daysBefore_succ t.year ‹1 ≤ t.month›]
    omega
  · have december : t.month = 12 := by omega
    have whole := daysBefore_december t.year
    have length : monthLength t.year t.month = monthLength t.year 12 := by rw [december]
    have ended : t.day = monthLength t.year 12 := by omega
    simp only [DateTime.seconds, daysBefore_january, december]
    split at whole <;> omega

theorem DateTime.nextSecond_valid (notLast : t ≠ .last) : t.nextSecond.valid = true := by
  have ⟨year, century, month, twelve, day, last, hour, minute, second⟩ := t.valid_iff.mp valid
  unfold DateTime.nextSecond
  split_ifs with h1 h2 h3
  · exact DateTime.valid_iff _ |>.mpr ⟨year, century, month, twelve, day, last, hour, minute, h1⟩
  · exact DateTime.valid_iff _ |>.mpr ⟨year, century, month, twelve, day, last, hour, h2, Nat.zero_le _⟩
  · exact DateTime.valid_iff _ |>.mpr ⟨year, century, month, twelve, day, last, h3, Nat.zero_le _, Nat.zero_le _⟩
  · refine DateTime.nextDay_valid valid fun ⟨isYear, isMonth, isDay⟩ => notLast ?_
    exact DateTime.eq_last isYear isMonth isDay (by omega) (by omega) (by omega)

theorem DateTime.nextSecond_seconds : t.nextSecond.seconds = t.seconds + 1 := by
  have ⟨_, _, _, _, _, _, hour, minute, second⟩ := t.valid_iff.mp valid
  unfold DateTime.nextSecond
  split_ifs with h1 h2 h3
  · simp only [DateTime.seconds]
    omega
  · simp only [DateTime.seconds]
    omega
  · simp only [DateTime.seconds]
    omega
  · have := DateTime.nextDay_seconds valid
    omega

end

/-! ### The charges that recovery rebuilds -/

/-- A table takes one place more with a key that is not in it. -/
theorem insertBy_length_of_absent {α : Type} {key : α → Nat} (x : α) {table : List α}
    (absent : findBy key (key x) table = none) : (insertBy key x table).length = table.length + 1 := by
  induction table with
  | nil => rfl
  | cons y rest ih =>
    have other : key y ≠ key x := by
      intro same
      simp [findBy, same] at absent
    have later : findBy key (key x) rest = none := by simpa [findBy, other] using absent
    rw [insertBy]
    split
    · rfl
    · rw [if_neg other.symm, List.length_cons, ih later, List.length_cons]

theorem Snapshot.kilnRecord_eq (x : Snapshot) : KilnRecord.initial.recovered x = x.kilnRecord := by
  have hosts : (x.host || (!x.running && !x.overtime)) = (x.host || (!x.running && !x.host && !x.overtime)) := by
    cases x.host <;> cases x.running <;> cases x.overtime <;> rfl
  unfold KilnRecord.recovered Snapshot.kilnRecord
  rw [hosts]
  rfl

/-- The charge record of a number that kiln k's snapshot rebuilds, if it is that charge's. -/
def State.rebuiltCharge (s : State) (number : Nat) (k : KilnNo) : Option Charge :=
  match s.snapshot k with
  | some x => if x.charge.number = number then some (x.chargeRecord k s.stamp) else none
  | none => none

section
variable (s : State) (k : KilnNo)

theorem State.recoverKiln_of_none (invalid : s.snapshot k = none) : s.recoverKiln k = s := by
  simp only [State.recoverKiln, invalid]

variable {x : Snapshot} (valid : s.snapshot k = some x)
include valid

theorem State.recoverKiln_of_some :
    s.recoverKiln k =
      { s with
        charges := insertBy Charge.number (x.chargeRecord k s.stamp) s.charges
        kilns := s.kilns.set k.val ((s.kiln k).recovered x) k.isLt
        notices := { s.notices with recovery := s.notices.recovery.set k.val true k.isLt } } := by
  simp only [State.recoverKiln, valid]
  rfl

end

/-- Recovery writes the charges, the kiln records and RECOVERY's set, and nothing else. -/
theorem State.foldl_recoverKiln_eq (kilns : List KilnNo) (s : State) :
    kilns.foldl State.recoverKiln s =
      { s with
        charges := (kilns.foldl State.recoverKiln s).charges
        kilns := (kilns.foldl State.recoverKiln s).kilns
        notices := { s.notices with recovery := (kilns.foldl State.recoverKiln s).notices.recovery } } := by
  induction kilns generalizing s with
  | nil => rfl
  | cons k kilns ih =>
    rw [List.foldl_cons]
    cases valid : s.snapshot k with
    | none => rw [s.recoverKiln_of_none k valid]; exact ih s
    | some x =>
      have first := s.recoverKiln_of_some k valid
      have rest := ih (s.recoverKiln k)
      rw [first] at rest ⊢
      exact rest

theorem State.foldl_recoverKiln_backup (kilns : List KilnNo) (s : State) :
    (kilns.foldl State.recoverKiln s).backup = s.backup := by
  rw [State.foldl_recoverKiln_eq]

theorem State.recoverKiln_backup (s : State) (k : KilnNo) : (s.recoverKiln k).backup = s.backup :=
  State.foldl_recoverKiln_backup [k] s

theorem State.snapshot_of_backup {s t : State} (same : t.backup = s.backup) (k : KilnNo) : t.snapshot k = s.snapshot k := by
  rw [State.snapshot, same, State.snapshot]

theorem State.rebuiltCharge_of_backup {s t : State} (same : t.backup = s.backup) (number : Nat) (k : KilnNo) :
    t.rebuiltCharge number k = s.rebuiltCharge number k := by
  rw [State.rebuiltCharge, State.snapshot_of_backup same, State.stamp, same]
  rfl

/-- The record that kiln k's snapshot gives, or with no valid snapshot the one it has. -/
def State.recoveredRecord (s : State) (k : KilnNo) : KilnRecord :=
  match s.snapshot k with
  | some x => (s.kiln k).recovered x
  | none => s.kiln k

theorem State.recoverKiln_kiln (s : State) (k j : KilnNo) :
    (s.recoverKiln k).kiln j = if k = j then s.recoveredRecord k else s.kiln j := by
  cases valid : s.snapshot k with
  | none =>
    rw [s.recoverKiln_of_none k valid, State.recoveredRecord, valid]
    split
    next same => rw [same]
    next => rfl
  | some x =>
    rw [s.recoverKiln_of_some k valid, State.recoveredRecord, valid]
    exact get_set s.kilns k j _

theorem State.foldl_recoverKiln_kiln (kilns : List KilnNo) (once : kilns.Nodup) (s : State) (j : KilnNo) :
    (kilns.foldl State.recoverKiln s).kiln j = if j ∈ kilns then s.recoveredRecord j else s.kiln j := by
  induction kilns generalizing s with
  | nil => rfl
  | cons k kilns ih =>
    obtain ⟨others, once⟩ := List.nodup_cons.mp once
    rw [List.foldl_cons, ih once]
    by_cases same : k = j
    · subst same
      rw [if_neg others, if_pos List.mem_cons_self, s.recoverKiln_kiln, if_pos rfl]
    · have member : j ∈ k :: kilns ↔ j ∈ kilns := by simp [Ne.symm same]
      have record : (s.recoverKiln k).recoveredRecord j = s.recoveredRecord j := by
        rw [State.recoveredRecord, State.snapshot_of_backup (s.recoverKiln_backup k), s.recoverKiln_kiln, if_neg same]
        rfl
      rw [record, s.recoverKiln_kiln, if_neg same]
      simp only [member]

theorem State.recoverKiln_recovery (s : State) (k j : KilnNo) :
    (s.recoverKiln k).notices.recovery.get j =
      if k = j ∧ (s.snapshot k).isSome = true then true else s.notices.recovery.get j := by
  cases valid : s.snapshot k with
  | none =>
    rw [s.recoverKiln_of_none k valid, if_neg]
    exact fun both => Bool.false_ne_true both.2
  | some x =>
    rw [s.recoverKiln_of_some k valid]
    refine (get_set s.notices.recovery k j true).trans ?_
    simp

theorem State.foldl_recoverKiln_recovery (kilns : List KilnNo) (s : State) (j : KilnNo) :
    (kilns.foldl State.recoverKiln s).notices.recovery.get j =
      if j ∈ kilns ∧ (s.snapshot j).isSome = true then true else s.notices.recovery.get j := by
  induction kilns generalizing s with
  | nil => rw [if_neg (fun both => List.not_mem_nil both.1)]; rfl
  | cons k kilns ih =>
    rw [List.foldl_cons, ih, State.snapshot_of_backup (s.recoverKiln_backup k), s.recoverKiln_recovery]
    by_cases same : k = j
    · subst same
      by_cases valid : (s.snapshot k).isSome = true <;> simp [valid]
    · have member : j ∈ k :: kilns ↔ j ∈ kilns := by simp [Ne.symm same]
      rw [if_neg (fun both : k = j ∧ _ => same both.1)]
      simp only [member]

theorem State.recoverKiln_charge (s : State) (k : KilnNo) (number : Nat) :
    (s.recoverKiln k).charge number = (s.rebuiltCharge number k).or (s.charge number) := by
  cases valid : s.snapshot k with
  | none => simp only [s.recoverKiln_of_none k valid, State.rebuiltCharge, valid, Option.none_or]
  | some x =>
    rw [s.recoverKiln_of_some k valid, State.rebuiltCharge, valid]
    dsimp only [State.charge]
    split
    next same =>
      subst same
      exact findBy_insertBy Charge.number (x.chargeRecord k s.stamp) s.charges
    next other => exact findBy_insertBy_ne Charge.number (x.chargeRecord k s.stamp) other

theorem State.rebuiltCharge_eq_some {s : State} {number : Nat} {k : KilnNo} {c : Charge}
    (is : s.rebuiltCharge number k = some c) : ∃ x, s.snapshot k = some x ∧ x.charge.number = number := by
  unfold State.rebuiltCharge at is
  split at is
  next x valid =>
    split at is
    next same => exact ⟨x, valid, same⟩
    next => cases is
  next => cases is

/-- No two snapshots rebuild the charge of one number. -/
theorem State.rebuiltCharge_eq_none_of_other {s : State} (distinct : s.distinctSnapshots) {number : Nat} {j k : KilnNo}
    {c : Charge} (is : s.rebuiltCharge number k = some c) (other : k ≠ j) : s.rebuiltCharge number j = none := by
  rw [Option.eq_none_iff_forall_ne_some]
  intro d also
  obtain ⟨x, here, first⟩ := State.rebuiltCharge_eq_some is
  obtain ⟨y, there, second⟩ := State.rebuiltCharge_eq_some also
  exact other (distinct k j x y here there (first.trans second.symm))

theorem State.recoverKiln_distinct {s : State} (distinct : s.distinctSnapshots) (k : KilnNo) :
    (s.recoverKiln k).distinctSnapshots := by
  intro i j x y
  rw [State.snapshot_of_backup (s.recoverKiln_backup k), State.snapshot_of_backup (s.recoverKiln_backup k)]
  exact distinct i j x y

/-- The charge of a number is the one that a snapshot of the list rebuilds, else the one there was. -/
theorem State.foldl_recoverKiln_charge (kilns : List KilnNo) (once : kilns.Nodup) (s : State)
    (distinct : s.distinctSnapshots) (number : Nat) :
    (kilns.foldl State.recoverKiln s).charge number =
      (kilns.findSome? (s.rebuiltCharge number)).or (s.charge number) := by
  induction kilns generalizing s with
  | nil => rfl
  | cons k kilns ih =>
    obtain ⟨others, once⟩ := List.nodup_cons.mp once
    have sameCharges : (s.recoverKiln k).rebuiltCharge number = s.rebuiltCharge number :=
      funext fun j => State.rebuiltCharge_of_backup (s.recoverKiln_backup k) number j
    rw [List.foldl_cons, ih once _ (State.recoverKiln_distinct distinct k), s.recoverKiln_charge, sameCharges,
      List.findSome?_cons]
    cases here : s.rebuiltCharge number k with
    | none => rfl
    | some c =>
      have nowhere : kilns.findSome? (s.rebuiltCharge number) = none :=
        List.findSome?_eq_none_iff.mpr fun j member =>
          State.rebuiltCharge_eq_none_of_other distinct here fun same => others (same ▸ member)
      rw [nowhere]
      rfl

/-- Each valid snapshot of the list whose charge is not yet in the table adds one record. -/
theorem State.foldl_recoverKiln_charges_length (kilns : List KilnNo) (once : kilns.Nodup) (s : State)
    (distinct : s.distinctSnapshots)
    (absent : ∀ k ∈ kilns, ∀ x, s.snapshot k = some x → s.charge x.charge.number = none) :
    (kilns.foldl State.recoverKiln s).charges.length =
      (kilns.filter fun k => (s.snapshot k).isSome).length + s.charges.length := by
  induction kilns generalizing s with
  | nil => exact (Nat.zero_add _).symm
  | cons k kilns ih =>
    obtain ⟨others, once⟩ := List.nodup_cons.mp once
    have sameSnapshots := State.snapshot_of_backup (s.recoverKiln_backup k)
    have stillAbsent : ∀ j ∈ kilns, ∀ y, (s.recoverKiln k).snapshot j = some y →
        (s.recoverKiln k).charge y.charge.number = none := by
      intro j member y valid
      rw [sameSnapshots] at valid
      have other : k ≠ j := fun same => others (same ▸ member)
      rw [s.recoverKiln_charge, absent j (List.mem_cons_of_mem k member) y valid, Option.or_none,
        Option.eq_none_iff_forall_ne_some]
      intro c rebuilt
      obtain ⟨x, here, same⟩ := State.rebuiltCharge_eq_some rebuilt
      exact other (distinct k j x y here valid same)
    rw [List.foldl_cons, ih once _ (State.recoverKiln_distinct distinct k) stillAbsent]
    simp only [sameSnapshots]
    cases valid : s.snapshot k with
    | none => rw [s.recoverKiln_of_none k valid, List.filter_cons_of_neg (by simp [valid])]
    | some x =>
      have one : (s.recoverKiln k).charges.length = s.charges.length + 1 := by
        rw [s.recoverKiln_of_some k valid]
        exact insertBy_length_of_absent (x.chargeRecord k s.stamp) (absent k List.mem_cons_self x valid)
      rw [one, List.filter_cons_of_pos (by simp [valid]), List.length_cons]
      omega

/-! ### Resets that keep the backup domain -/

theorem State.volatileReset_kiln (b : Backup) (eye : Bool) (rate : LinkRate) (queue : List Instr) (k : KilnNo) :
    (State.volatileReset b eye rate queue).kiln k = .initial := by
  simp [State.kiln, State.volatileReset, Vector.get_eq_getElem]

theorem mem_allKilns (k : KilnNo) : k ∈ allKilns := by decide +revert

/-- A reset that keeps the backup domain recovers every kiln whose snapshot is valid (R172). -/
theorem State.resetKept_recovers (s : State) (straps : Straps) (distinct : s.distinctSnapshots) :
    s.recoveredFrom (s.resetKept straps) straps := by
  have once : allKilns.Nodup := by decide
  let start := State.volatileReset s.backup s.line.eyePin (.ofStraps straps) s.pending
  have is : s.resetKept straps = allKilns.foldl State.recoverKiln start := rfl
  have kiln (k : KilnNo) := State.foldl_recoverKiln_kiln allKilns once start k
  have recovery : (allKilns.foldl State.recoverKiln start).notices.recovery =
      Vector.ofFn fun k => (s.snapshot k).isSome := by
    refine Vector.ext fun i bound => ?_
    have here := State.foldl_recoverKiln_recovery allKilns start ⟨i, bound⟩
    rw [Vector.get_eq_getElem] at here
    rw [here, Vector.getElem_ofFn]
    have before : start.notices.recovery.get ⟨i, bound⟩ = false := by
      simp [start, State.volatileReset, Notices.initial, Vector.get_eq_getElem]
    have snapshot : start.snapshot ⟨i, bound⟩ = s.snapshot ⟨i, bound⟩ := rfl
    rw [before, snapshot]
    simp [mem_allKilns]
  refine ⟨?_, fun k => ?_, fun number => ?_, ?_⟩
  · rw [is]
    refine (State.foldl_recoverKiln_eq allKilns start).trans ?_
    rw [recovery]
    rfl
  · rw [is, kiln k, if_pos (mem_allKilns k), State.recoveredRecord]
    have snapshot : start.snapshot k = s.snapshot k := rfl
    rw [snapshot, State.volatileReset_kiln]
    cases s.snapshot k with
    | none => rfl
    | some x => exact x.kilnRecord_eq
  · rw [is, State.foldl_recoverKiln_charge allKilns once start distinct]
    exact Option.or_none
  · rw [is, State.foldl_recoverKiln_charges_length allKilns once start distinct fun _ _ _ _ => rfl]
    rfl

end Sys2Proof.Machine
end

section
/-! PROOFS. The statements on time, power and resets. -/
open Sys2Proof Sys2Proof.Machine

/-- Settles O14: the requests from their answers, the second by whether the clock stands at its last one. -/
theorem clockIsSetReadAndMovesOn : Obligations.ClockIsSetReadAndMovesOn := by
  unfold Obligations.ClockIsSetReadAndMovesOn
  refine ⟨?_, ?_, ?_, ?_⟩
  · intro s year month day hour minute second i taken
    refine congrArg Host.Outcome.next ?_
    have valid := DateTime.valid_iff ⟨year, month, day, hour, minute, second⟩
    split_ifs with inRange
    · refine hostRequest_eq_okReply taken ?_
      rw [setClockAnswer, if_pos (valid.mpr inRange)]
      rfl
    · refine hostRequest_eq_refusal taken ?_
      rw [setClockAnswer, if_neg (mt valid.mp inRange)]
  · exact fun s taken => congrArg Host.Outcome.next (hostRequest_eq_okReply taken rfl)
  · exact fun s taken => congrArg Host.Outcome.next (hostRequest_eq_okReply taken rfl)
  · intro s valid
    by_cases last : s.backup.clock = ⟨2099, 12, 31, 23, 59, 59⟩
    · refine ⟨.epoch, rfl, ?_⟩
      rw [if_pos last]
      refine ⟨rfl, congrArg Host.Outcome.next ?_⟩
      rw [State.advanceClock, if_pos (show s.backup.clock = .last from last)]
      cases runs : s.isOn with
      | true =>
        rw [State.whenOn_on (s.setClock .epoch false) (eq_of_beq runs)]
        simp only [Bool.or_true]
        rfl
      | false =>
        rw [State.whenOn_still (s.setClock .epoch false) (ne_of_beq_false runs)]
        simp only [Bool.or_false]
        rfl
    · refine ⟨s.backup.clock.nextSecond, DateTime.nextSecond_valid valid last, ?_⟩
      rw [if_neg last]
      refine ⟨DateTime.nextSecond_seconds valid, congrArg Host.Outcome.next ?_⟩
      rw [State.advanceClock, if_neg (show ¬s.backup.clock = .last from last)]
      rfl

/-- Settles O15: each of the four commands is the reset that keeps the backup domain. -/
theorem resetsRecoverTheKilns : Obligations.ResetsRecoverTheKilns := by
  unfold Obligations.ResetsRecoverTheKilns
  rintro c s straps distinct command
  refine ⟨s.resetKept straps, ?_, s.resetKept_recovers straps distinct⟩
  obtain ⟨rfl, kept⟩ | ⟨rfl, powered⟩ | ⟨rfl, held⟩ | ⟨rfl, on, restarting, frame, rest, oldest, reply⟩ := command
  · exact congrArg Host.Outcome.next (if_pos kept)
  · refine congrArg Host.Outcome.next ?_
    unfold State.moveResetPin
    cases power : s.power with
    | on => rfl
    | held => rfl
    | off => exact absurd power powered
  · refine congrArg Host.Outcome.next ?_
    simp only [State.moveResetPin, held]
  · rw [exec_replySent_of_isOn (beq_of_eq on), State.replyDone_of_cons oldest, if_neg (ne_true_of_eq_false reply),
      if_pos restarting]

/-- Settles O16, by the power and the edge of the pin. -/
theorem powerEventsKeepOrClearTheBackupDomain : Obligations.PowerEventsKeepOrClearTheBackupDomain := by
  unfold Obligations.PowerEventsKeepOrClearTheBackupDomain
  constructor
  · intro s straps cleared
    refine congrArg Host.Outcome.next ?_
    rw [State.powerOnReset, cleared]
    rfl
  · intro s straps still
    have pin (edge : ResetEdge) {t : State} (is : s.moveResetPin edge straps = t) :
        exec (.resetPin edge straps) s = .next t := congrArg Host.Outcome.next is
    refine ⟨rfl, fun on => pin _ ?_, fun held => pin _ ?_, fun on => pin _ ?_, fun edge off => pin _ ?_,
      congrArg Host.Outcome.next ?_⟩
    · simp only [State.moveResetPin, on]
      rfl
    · simp only [State.moveResetPin, held]
    · simp only [State.moveResetPin, on]
    · simp only [State.moveResetPin, off]
    · rw [State.loseKeepLevel]
      cases s.power with
      | on => rfl
      | held => rfl
      | off => rfl
end

section
/-!
PROOFS. The notice unit: the attention summary and ATTN (R173, R176, R177), SET-MASKS (R175) and TAKE-NOTICE (R178).
-/
namespace Sys2Proof.Machine

theorem mem_noticeClasses (c : NoticeClass) : c ∈ noticeClasses := by cases c <;> decide

/-! ### The attention summary -/

/-- The class whose bit is bit i of the summary. -/
def noticeClassAt (i : Fin 11) : NoticeClass := noticeClasses.get i

theorem noticeClassAt_bit (c : NoticeClass) : ∃ bound : c.priority - 1 < 11, noticeClassAt ⟨c.priority - 1, bound⟩ = c := by
  cases c <;> exact ⟨by decide, rfl⟩

theorem Notices.summary_eq_ofBits (n : Notices) : n.summary = Nat.ofBits fun i => n.waiting (noticeClassAt i) := by
  have bit (w : Bool) (x : Nat) : (if w = true then x else 0) = x * w.toNat := by cases w <;> simp
  simp only [Notices.summary, noticeClasses, List.foldr_cons, List.foldr_nil, bit, NoticeClass.priority, Nat.ofBits,
    Fin.foldr_succ, Fin.foldr_zero]
  simp only [noticeClassAt, noticeClasses, List.get, Fin.succ]
  omega

theorem Notices.summary_lt (n : Notices) : n.summary < 2048 := by
  rw [n.summary_eq_ofBits]
  exact Nat.ofBits_lt_two_pow _

theorem Notices.summary_testBit (n : Notices) (c : NoticeClass) :
    n.summary.testBit (c.priority - 1) = (n.nonEmpty c && !n.masks.masked c) := by
  obtain ⟨bound, is⟩ := noticeClassAt_bit c
  rw [n.summary_eq_ofBits, Nat.testBit_ofBits_lt _ _ bound, is, Notices.waiting]

theorem State.attn_iff (s : State) :
    s.attn = true ↔ s.power = .on ∧ ∃ c, s.notices.nonEmpty c = true ∧ s.notices.masks.masked c = false := by
  simp only [State.attn, Bool.and_eq_true, beq_iff_eq, List.any_eq_true, Notices.waiting, Bool.not_eq_true',
    mem_noticeClasses, true_and]

/-! ### The masks -/

/-- The masks that nine choices of 0 and 1 set. -/
def masksFrom (choices : List Nat) : Masks :=
  let on := fun j => choices.getD j 0 == 1
  { lineStop := on 0, labelFault := on 1, portDown := on 2, probeChange := on 3, kilnStep := on 4, chargeDried := on 5,
    packReady := on 6, moistureInvalid := on 7, clockInvalid := on 8 }

theorem masksOf_eq {choices : List Nat} (nine : choices.length = 9) :
    masksOf choices = if choices.all (fun x => decide (x ≤ 1)) = true then some (masksFrom choices) else none := by
  match choices, nine with
  | [a, b, c, d, e, f, g, h, i], _ =>
    split_ifs with all
    · simp only [List.all_cons, List.all_nil, Bool.and_true, Bool.and_eq_true, decide_eq_true_eq] at all
      obtain ⟨ha, hb, hc, hd, he, hf, hg, hh, hi⟩ := all
      simp only [masksOf, flagOf_eq_some ha, flagOf_eq_some hb, flagOf_eq_some hc, flagOf_eq_some hd, flagOf_eq_some he,
        flagOf_eq_some hf, flagOf_eq_some hg, flagOf_eq_some hh, flagOf_eq_some hi]
      rfl
    · rw [Option.eq_none_iff_forall_ne_some]
      intro m is
      refine all ?_
      have small {n : Nat} {b : Bool} (is : flagOf n = some b) : n ≤ 1 := by
        by_contra big
        rw [flagOf_eq_none big] at is
        cases is
      simp only [masksOf] at is
      split at is
      next ha hb hc hd he hf hg hh hi =>
        simp only [List.all_cons, List.all_nil, small ha, small hb, small hc, small hd, small he, small hf, small hg,
          small hh, small hi, decide_true, Bool.and_true]
      next => cases is

theorem masksFrom_octets {choices : List Nat} (nine : choices.length = 9)
    (all : choices.all (fun x => decide (x ≤ 1)) = true) : (masksFrom choices).octets = choices.flatMap u8 := by
  have octet {n : Nat} (small : n ≤ 1) : flag (n == 1) = u8 n := by
    interval_cases n <;> rfl
  match choices, nine with
  | [a, b, c, d, e, f, g, h, i], _ =>
    simp only [List.all_cons, List.all_nil, Bool.and_true, Bool.and_eq_true, decide_eq_true_eq] at all
    obtain ⟨ha, hb, hc, hd, he, hf, hg, hh, hi⟩ := all
    simp only [← octet ha, ← octet hb, ← octet hc, ← octet hd, ← octet he, ← octet hf, ← octet hg, ← octet hh, ← octet hi,
      List.flatMap_cons, List.flatMap_nil]
    rfl

/-! ### The first waiting class -/

/-- The classes stand in the order of their priorities. -/
theorem noticeClasses_split (c : NoticeClass) :
    ∃ before after, noticeClasses = before ++ c :: after ∧ ∀ d ∈ before, d.priority < c.priority :=
  ⟨noticeClasses.take (c.priority - 1), noticeClasses.drop c.priority, by cases c <;> rfl, by cases c <;> decide⟩

theorem Notices.first_of_not_waiting {n : Notices} (idle : ∀ c, n.waiting c = false) : n.first = none := by
  rw [Notices.first, List.find?_eq_none]
  exact fun c _ => ne_true_of_eq_false (idle c)

theorem Notices.first_of_waiting {n : Notices} {c : NoticeClass} (waits : n.waiting c = true)
    (first : ∀ d, d.priority < c.priority → n.waiting d = false) : n.first = some c := by
  obtain ⟨before, after, split, earlier⟩ := noticeClasses_split c
  rw [Notices.first, List.find?_eq_some_iff_append]
  refine ⟨waits, before, after, split, fun d member => ?_⟩
  rw [first d (earlier d member)]
  rfl

theorem NoticeClass.code_eq (c : NoticeClass) : c.code = c.priority - 1 := rfl

section
variable (n : Notices) (c : NoticeClass)

theorem Notices.emptied_nonEmpty : (n.emptied c).nonEmpty c = false := by cases c <;> rfl

theorem Notices.emptied_masks : (n.emptied c).masks = n.masks := by cases c <;> rfl

/-- A class that is emptied leaves every other class as it is. -/
theorem Notices.emptied_other {d : NoticeClass} (other : d ≠ c) :
    (n.emptied c).nonEmpty d = n.nonEmpty d ∧ (n.emptied c).content d = n.content d := by
  cases c <;> cases d <;> first | exact absurd rfl other | exact ⟨rfl, rfl⟩

end

end Sys2Proof.Machine
end

section
/-! PROOFS. The statements on the notice unit. -/
open Sys2Proof Sys2Proof.Machine

/-- Settles O12: the summary as a number given by its bits, the masks by their nine choices. -/
theorem masksHideClassesFromAttention : Obligations.MasksHideClassesFromAttention := by
  unfold Obligations.MasksHideClassesFromAttention
  refine ⟨State.attn_iff, fun n => ⟨n.summary_lt, n.summary_testBit⟩, ?_, ?_, ?_⟩
  · intro s choices nine taken
    refine congrArg Host.Outcome.next ?_
    have masks := masksOf_eq nine
    split_ifs at masks ⊢ with all
    · refine hostRequest_eq_okReply taken ?_
      rw [setMasksAnswer, masks]
      dsimp only
      rw [masksFrom_octets nine all]
      rfl
    · exact hostRequest_eq_refusal taken (by rw [setMasksAnswer, masks])
  · exact fun s taken => congrArg Host.Outcome.next (hostRequest_eq_okReply taken rfl)
  · intro s k p overtime
    refine ⟨rfl, rfl, ?_, rfl, rfl⟩
    cases overtime with
    | true => rfl
    | false =>
      have kept : s.notices.kilnStepOvertime.set k.val (s.notices.kilnStepOvertime.get k) k.isLt =
          s.notices.kilnStepOvertime := by rw [Vector.get_eq_getElem, Vector.set_getElem_self]
      simp only [State.postKilnStep, State.modifyNotices, Bool.false_or, kept, if_neg Bool.false_ne_true]

/-- Settles O13: the first waiting class is found in the order of priorities, and emptying it touches no other. -/
theorem takeNoticeEmptiesTheFirstClass : Obligations.TakeNoticeEmptiesTheFirstClass := by
  unfold Obligations.TakeNoticeEmptiesTheFirstClass
  intro s taken
  have notices : (s.holdRequest (requestKind .takeNotice) (some .takeNotice) true).notices = s.notices := rfl
  constructor
  · intro idle
    refine congrArg Host.Outcome.next (hostRequest_eq_okReply taken ?_)
    rw [takeNoticeAnswer, notices, Notices.first_of_not_waiting idle]
  · intro c waits first
    refine ⟨s.notices.emptied c, congrArg Host.Outcome.next (hostRequest_eq_okReply taken ?_),
      s.notices.emptied_nonEmpty c, s.notices.emptied_masks c, ?_, fun d other => s.notices.emptied_other c other⟩
    · rw [takeNoticeAnswer, notices, Notices.first_of_waiting waits first, ← c.code_eq]
      rfl
    · rintro rfl
      rfl
end

section
/-!
PROOFS. Notices and the backup domain's marks through every work but those that are theirs: a class that is not empty stays
so, for every posting adds to its class and no other operation touches the classes (R174); and no operation but the
clock's and a power-on's touches the marks (R164, R167).
-/
namespace Sys2Proof.Machine

/-- The two marks of the backup domain that only the clock and a power-on set. -/
def Backup.marks (b : Backup) : Bool × Bool := (b.clockValid, b.domainValid)

/-- Every class that was not empty in o is not empty, and the marks of the backup domain are those of o. -/
def State.After (s o : State) : Prop :=
  (∀ c, o.notices.nonEmpty c = true → s.notices.nonEmpty c = true) ∧ s.backup.marks = o.backup.marks

section
variable {o s t : State}

theorem State.After.refl (s : State) : s.After s := ⟨fun _ => id, rfl⟩

theorem State.After.congr (h : s.After o) (notices : t.notices = s.notices) (marks : t.backup.marks = s.backup.marks) :
    t.After o := by
  obtain ⟨classes, same⟩ := h
  exact ⟨by rwa [notices], marks.trans same⟩

theorem State.After.modifyNotices (h : s.After o) {f : Notices → Notices}
    (grown : ∀ c, s.notices.nonEmpty c = true → (f s.notices).nonEmpty c = true) : (s.modifyNotices f).After o :=
  ⟨fun c held => grown c (h.1 c held), h.2⟩

theorem anyMember_set {n : Nat} (set : Vector Bool n) (i : Fin n) : anyMember (set.set i.val true i.isLt) = true := by
  have member : true ∈ (set.set i.val true i.isLt).toList := by
    rw [Vector.toList_set]
    exact List.mem_set (by simp) true
  exact List.any_eq_true.mpr ⟨true, member, rfl⟩

variable (h : s.After o)
include h

/-! ### Postings -/

theorem State.After.postKilnFault (k : KilnNo) : (s.postKilnFault k).After o := by
  refine h.modifyNotices fun c held => ?_
  cases c
  case kilnFault => exact anyMember_set _ k
  all_goals exact held

theorem State.After.postLabelFault (b : BayNo) : (s.postLabelFault b).After o := by
  refine h.modifyNotices fun c held => ?_
  cases c
  case labelFault => exact anyMember_set _ b
  all_goals exact held

theorem State.After.postPortDown (p : PortNo) : (s.postPortDown p).After o := by
  refine h.modifyNotices fun c held => ?_
  cases c
  case portDown => exact anyMember_set _ p
  all_goals exact held

theorem State.After.postProbeChange (k : KilnNo) : (s.postProbeChange k).After o := by
  refine h.modifyNotices fun c held => ?_
  cases c
  case probeChange => exact anyMember_set _ k
  all_goals exact held

theorem State.After.postKilnStep (k : KilnNo) (overtime : Bool) : (s.postKilnStep k overtime).After o := by
  refine h.modifyNotices fun c held => ?_
  cases c
  case kilnStep => exact anyMember_set _ k
  all_goals exact held

theorem State.After.postChargeDried (k : KilnNo) : (s.postChargeDried k).After o := by
  refine h.modifyNotices fun c held => ?_
  cases c
  case chargeDried => exact anyMember_set _ k
  all_goals exact held

theorem State.After.postMoistureInvalid (k : KilnNo) : (s.postMoistureInvalid k).After o := by
  refine h.modifyNotices fun c held => ?_
  cases c
  case moistureInvalid => exact anyMember_set _ k
  all_goals exact held

theorem State.After.postLineStop (cause : StopCause) : (s.postLineStop cause).After o := by
  refine h.modifyNotices fun c held => ?_
  cases c
  case lineStop => cases cause <;> simp [Notices.nonEmpty, CauseSet.put, CauseSet.isEmpty]
  all_goals exact held

theorem State.After.postPackReady : s.postPackReady.After o := by
  refine h.modifyNotices fun c held => ?_
  cases c
  case packReady =>
    have one : 1 ≤ s.notices.packReady := of_decide_eq_true held
    refine decide_eq_true ?_
    dsimp only
    split <;> omega
  all_goals exact held

theorem State.After.postClockInvalid : s.postClockInvalid.After o := by
  refine h.modifyNotices fun c held => ?_
  cases c
  case clockInvalid => exact rfl
  all_goals exact held

theorem State.After.addCause (cause : StopCause) : (s.addCause cause).After o := by
  unfold State.addCause
  split
  · exact h
  · exact State.After.postLineStop (s := s.modifyLine _) h cause

theorem State.After.modifyLine (f : Line → Line) : (s.modifyLine f).After o := h

/-! ### Kilns -/

theorem State.After.writeSnapshot (k : KilnNo) : (s.writeSnapshot k).After o := by
  refine h.congr (by simp) ?_
  unfold State.writeSnapshot
  (repeat' split) <;> rfl

theorem State.After.setHolds (k : KilnNo) (holds : HoldSet) : (s.setHolds k holds).After o := by
  unfold State.setHolds
  split
  · exact h
  · exact State.After.writeSnapshot (s := s.modifyKiln k _) h k

theorem State.After.completeKiln (k : KilnNo) : (s.completeKiln k).After o := by
  have dried (t : State) (f : KilnRecord → KilnRecord) (ht : t.After o) :
      (((t.modifyKiln k f).postChargeDried k).writeSnapshot k).After o :=
    State.After.writeSnapshot (State.After.postChargeDried (s := t.modifyKiln k f) ht k) k
  unfold State.completeKiln
  dsimp only
  split
  · exact dried _ _ (h.congr (by simp) (by simp))
  · exact dried _ _ h

theorem State.After.advanceStep (k : KilnNo) (overtime : Bool) : (s.advanceStep k overtime).After o := by
  have completed := h.completeKiln k
  have stepped (f : KilnRecord → KilnRecord) : ((s.modifyKiln k f).postKilnStep k overtime).After o :=
    State.After.postKilnStep (s := s.modifyKiln k f) h k overtime
  unfold State.advanceStep
  split
  · exact h
  · split
    · exact (stepped _).writeSnapshot k
    · exact completed

theorem State.After.testStepTime (k : KilnNo) (step : Step) : (s.testStepTime k step).After o := by
  have advanced := h.advanceStep k
  have held (f : KilnRecord → KilnRecord) : ((s.modifyKiln k f).postKilnStep k true).After o :=
    State.After.postKilnStep (s := s.modifyKiln k f) h k true
  unfold State.testStepTime
  dsimp only
  split
  · exact advanced _
  · split
    · split
      · exact advanced _
      · exact (held _).writeSnapshot k
    · exact h

theorem State.After.kilnMinute (k : KilnNo) : (s.kilnMinute k).After o := by
  have ran (t : State) (ht : t.After o) : (t.runMinute k).After o := by
    unfold State.runMinute
    split
    · exact State.After.testStepTime (s := t.modifyKiln k _) ht k _
    · exact ht
  have counted : (s.modifyKiln k fun r => { r with totalMinutes := bump r.totalMinutes }).After o := h
  have after := ran _ counted
  unfold State.kilnMinute
  dsimp only
  split
  · exact h
  · split
    · split
      · exact after.writeSnapshot k
      · exact after
    · split
      · exact counted.writeSnapshot k
      · exact counted

theorem State.After.setpointOutcome (k : KilnNo) (outcome : ExchangeOutcome) (reply : StationReply) :
    (s.setpointOutcome k outcome reply).After o := by
  have tested (t : State) (ht : t.After o) : (t.testDryBulb k).After o := by
    have advanced := ht.advanceStep k false
    unfold State.testDryBulb
    (repeat' split) <;> with_reducible assumption
  have taken (dry wet : Int) (status : ControllerStatus) : (s.takeControllerReply k dry wet status).After o := by
    unfold State.takeControllerReply
    dsimp only
    split
    · split
      · exact tested _ h
      · exact h
    · split
      · exact tested _ (State.After.setHolds (s := s.modifyKiln k _) h k _)
      · exact State.After.setHolds (s := s.modifyKiln k _) h k _
  unfold State.setpointOutcome
  split
  · exact taken ..
  · exact h

theorem State.After.takeSweepResult (k : KilnNo) (result : SweepResult) : (s.takeSweepResult k result).After o := by
  have tested (t : State) (ht : t.After o) : (t.testMoisture k).After o := by
    have advanced := ht.advanceStep k false
    unfold State.testMoisture
    (repeat' split) <;> with_reducible assumption
  have stored (f : KilnRecord → KilnRecord) : (s.modifyKiln k f).After o := h
  have posted (f : KilnRecord → KilnRecord) : ((s.modifyKiln k f).postMoistureInvalid k).After o :=
    (stored f).postMoistureInvalid k
  unfold State.takeSweepResult
  dsimp only
  split
  · exact h
  · split
    · split
      · exact tested _ (posted _)
      · exact posted _
    · split
      · exact tested _ (stored _)
      · exact stored _

theorem State.After.takeControllerLost (k : KilnNo) : (s.takeControllerLost k).After o := by
  have lost : (s.loseReadbacks k).After o := h
  have faulted (f : KilnRecord → KilnRecord) : (((s.loseReadbacks k).modifyKiln k f).postKilnFault k).After o :=
    State.After.postKilnFault (s := (s.loseReadbacks k).modifyKiln k f) h k
  unfold State.takeControllerLost
  dsimp only
  split
  · exact lost
  · exact lost
  all_goals exact faulted _

theorem State.After.takeKilnPortUp (k : KilnNo) : (s.takeKilnPortUp k).After o := by
  have faulted := h.postKilnFault k
  unfold State.takeKilnPortUp
  dsimp only
  split
  · split
    · exact faulted
    · exact h
  · exact h

/-! ### The label unit and the packs -/

theorem State.After.faultLabel (record : PackRecord) (reason : LabelFaultReason) (scanBack : Option (List Octet)) :
    (s.faultLabel record reason scanBack).After o := by
  have faulted : (State.modifyBay ((s.modifyPack record.serial fun r =>
      { r with label := .fault reason, scanBack := scanBack }).modifyLabel fun l => l.markStale.finishJob) record.bay
      fun b => { b with state := .labelFault }).After o := h
  exact (faulted.postLabelFault record.bay).congr (by simp [State.faultLabel]) (by simp [State.faultLabel])

theorem State.After.faultCurrent (reason : LabelFaultReason) : (s.faultCurrent reason).After o := by
  unfold State.faultCurrent
  split
  · exact h.faultLabel ..
  · exact h

theorem State.After.labelOutcome (isStatus : Bool) (outcome : ExchangeOutcome) (reply : StationReply) :
    (s.labelOutcome isStatus outcome reply).After o := by
  have status (t : State) (ht : t.After o) (record : PackRecord) : (t.statusOutcome record outcome reply).After o := by
    unfold State.statusOutcome
    split
    · split
      · exact ht.congr (by simp) (by simp)
      · exact ht.faultLabel ..
    · split
      · exact ht.faultLabel ..
      · exact ht
  have ended : (s.modifyLabel fun l => { l with outstanding := none }).After o := h
  unfold State.labelOutcome
  split
  · exact h.congr (by simp) (by simp)
  · dsimp only
    split
    · exact ended.congr (by simp) (by simp)
    · split
      · exact ended
      · split
        · exact status _ ended _
        · exact ended.congr (by simp) (by simp)

theorem State.After.labelPortLost : s.labelPortLost.After o := by
  have ended : (s.modifyLabel fun l => { l with outstanding := none }).After o := h
  have faulted := ended.faultCurrent .port
  unfold State.labelPortLost
  dsimp only
  split
  · exact faulted
  · exact faulted
  · exact ended.congr (by simp) (by simp)
  · exact ended.congr (by simp) (by simp)

theorem State.After.writeRecord (b : BayNo) (x : OpenPack) : (s.writeRecord b x).After o := by
  unfold State.writeRecord
  dsimp only
  refine State.After.postPackReady (State.After.congr (s := s) h ?_ ?_)
  · simp
  · simp [Backup.marks]

theorem State.After.closePack (b : BayNo) : (s.closePack b).After o := by
  unfold State.closePack
  split
  · exact h
  · dsimp only
    split_ifs
    · exact h
    · exact State.After.addCause (s := s.modifyBay b _) h _
    · exact h
    · exact h.writeRecord ..

theorem State.After.stackPiece (b : BayNo) (charge mc : Nat) : (s.stackPiece b charge mc).After o := by
  unfold State.stackPiece
  split
  · exact h
  next x _ =>
    have stacked : (s.modifyBay b fun bay => { bay with openPack := some (x.stack charge mc) }).After o := h
    have closed := stacked.closePack b
    dsimp only
    (repeat' split) <;> with_reducible assumption

theorem State.After.releasePlace (b : BayNo) (charge : Nat) : (s.releasePlace b charge).After o := by
  unfold State.releasePlace
  split
  · exact h
  next x _ =>
    have released : (if x.names charge && !(x.unreserve charge).names charge then
        (s.modifyBay b fun bay => { bay with openPack := some (x.unreserve charge) }).dropReference charge
        else s.modifyBay b fun bay => { bay with openPack := some (x.unreserve charge) }).After o := by
      split <;> exact h
    have closed := released.closePack b
    dsimp only
    split
    · split
      · exact released
      · exact released
    · split
      · exact closed
      · exact released
    all_goals exact released

theorem State.After.giveFreedPlace : s.giveFreedPlace.After o := by
  have given (t : State) (b : BayNo) (ht : t.After o) : (t.givePlace b).After o := by
    have written (x : OpenPack) := ht.writeRecord b x
    unfold State.givePlace
    (repeat' split) <;> with_reducible apply_assumption
  have all : (allBays.foldl State.givePlace s).After o := List.foldlRecOn (motive := fun t => t.After o) _ _ h fun t ht b _ => given t b ht
  unfold State.giveFreedPlace
  dsimp only
  split
  · exact all
  · exact all.congr (by simp) (by simp)

theorem State.After.beginClosing (b : BayNo) : (s.beginClosing b).After o := by
  have closing : (s.modifyBay b fun x => { x with state := .closing }).After o := h
  have closed := closing.closePack b
  unfold State.beginClosing
  dsimp only
  (repeat' split) <;> with_reducible assumption

/-! ### The tracker -/

theorem State.After.filteredEdge (blocked : Bool) (x : Position) : (s.filteredEdge blocked x).After o := by
  have overflowed (t : State) (ht : t.After o) : t.overflowPiece.After o :=
    State.After.addCause (ht.congr (by simp) (by simp)) _
  have appended (t : State) (ht : t.After o) : (t.appendPiece x).After o := by
    have queued (u : State) (hu : u.After o) (full : Prop) [Decidable full] :
        (if full then u.addCause .queueHigh else u).After o := by
      split
      · exact hu.addCause _
      · exact hu
    have sampled (u : State) (sequence : Nat) (hu : u.After o) : (u.triggerSample sequence).After o :=
      hu.congr (by simp) (by simp)
    have counted : (t.countPiece t.countingCharge true).After o := ht.congr (by simp) (by simp)
    unfold State.appendPiece
    dsimp only
    split
    · refine sampled _ _ (queued _ ?_ _)
      exact counted.modifyLine _
    · refine queued _ ?_ _
      exact counted.modifyLine _
  have led (t : State) (ht : t.After o) : (t.takeLead x).After o := by
    unfold State.takeLead
    dsimp only
    split
    · exact overflowed _ ht
    · exact appended _ ht
  have seen : (s.modifyLine fun l => { l with capture := { l.capture with blocked := blocked } }).After o := h
  unfold State.filteredEdge
  dsimp only
  split
  · split
    · exact led _ seen
    · exact seen
  · split
    · exact seen.congr (by simp) (by simp)
    · exact seen

theorem State.After.changeEye (level : Bool) : (s.changeEye level).After o := by
  have moved : (s.modifyLine fun l => { l with eyePin := level }).After o := h
  unfold State.changeEye
  dsimp only
  split_ifs
  · exact h
  · exact moved
  · exact moved.filteredEdge ..
  · exact moved
  · exact moved

theorem State.After.eyeFilterOver : s.eyeFilterOver.After o := by
  unfold State.eyeFilterOver
  split
  · exact State.After.filteredEdge (s := s.modifyLine _) h ..
  · exact h

theorem State.After.encoderMoves (move : EncoderMove) : (s.encoderMoves move).After o := by
  have jammed (t : State) (x : Piece) (ht : t.After o) : (t.atGate x).After o := by
    unfold State.atGate
    split
    · exact State.After.addCause (ht.congr (by simp) (by simp)) _
    · split <;> exact ht.congr (by simp) (by simp)
  have stacked (t : State) (x : Piece) (ht : t.After o) : (t.atStacker x).After o := by
    unfold State.atStacker
    split
    · exact State.After.stackPiece (ht.congr (by simp) (by simp)) ..
    · exact ht
  have moved (counter : Position) : (s.moveCounter counter).After o := by
    unfold State.moveCounter
    dsimp only
    refine List.foldlRecOn _ _ (List.foldlRecOn _ _ ?_ fun t ht x _ => jammed t x ht) fun t ht x _ => stacked t x ht
    exact h
  cases move
  case forward => exact moved _
  case reverse => exact moved _
  case both => exact h

theorem State.After.clearLine : s.clearLine.After o := by
  have cleared (t : State) (x : Piece) (ht : t.After o) : (t.clearPiece x).After o := by
    have settled : (t.settlePiece x.charge .cleared).After o := ht.congr (by simp) (by simp)
    unfold State.clearPiece
    cases x.grade with
    | dry b => exact settled.releasePlace b x.charge
    | _ => exact settled
  have all : (s.line.queue.foldl State.clearPiece (s.modifyLine fun l => { l with queue := [] })).After o :=
    List.foldlRecOn (motive := fun t => t.After o) _ _ (h.modifyLine _) fun t ht x _ => cleared t x ht
  exact all.congr (by simp [State.clearLine]) (by simp [State.clearLine])

/-! ### The probe unit -/

theorem State.After.addProbeEvent (k : KilnNo) (event : ProbeEvent) : (s.addProbeEvent k event).After o := by
  have added (f : SweepRecord → SweepRecord) : (s.modifySweep k f).After o := h
  have posted (f : SweepRecord → SweepRecord) := (added f).postProbeChange k
  unfold State.addProbeEvent
  dsimp only
  split
  · exact posted _
  · exact added _

theorem State.After.completeSweep (k : KilnNo) : (s.completeSweep k).After o := by
  have idle : (s.modifySweep k fun r => { r with kind := none }).After o := h
  exact idle.takeSweepResult k _

theorem State.After.completeIfDone (k : KilnNo) : (s.completeIfDone k).After o := by
  unfold State.completeIfDone
  split
  · exact h.completeSweep k
  · exact h

theorem State.After.resolveIdentity (k : KilnNo) (address serial : Nat) :
    (s.resolveIdentity k address serial).After o := by
  have old (t : State) (ht : t.After o) : (t.leaveOldPlace k address serial).After o := by
    unfold State.leaveOldPlace
    split
    next e _ =>
      have dropped : ((t.removePresence e.port e.address).dropPlanned e.port e.address).After o := ht.congr (by simp) (by simp)
      dsimp only
      split
      · exact ht
      · split <;> exact dropped.addProbeEvent ..
    next => exact ht
  have place (t : State) (ht : t.After o) : (t.leavePlace k address serial).After o := by
    unfold State.leavePlace
    (repeat' split)
    · exact ht
    · exact State.After.addProbeEvent (s := t.removePresence k address) ht ..
    · exact ht
  have settled (t : State) (ht : t.After o) : (t.settleEntry k address serial).After o := by
    have put (e : PresenceEntry) (event : ProbeEvent) := State.After.addProbeEvent (s := t.putPresence e) ht k event
    unfold State.settleEntry
    dsimp only
    split
    · split
      · exact put ..
      · exact ht
    · split
      · exact ht.addProbeEvent ..
      · exact put ..
  exact settled _ (place _ (old _ h))

theorem State.After.countMiss (k : KilnNo) (address : Nat) : (s.countMiss k address).After o := by
  have put (e : PresenceEntry) (event : ProbeEvent) := State.After.addProbeEvent (s := s.putPresence e) h k event
  unfold State.countMiss
  dsimp only
  split
  · split
    · exact h
    · split
      · exact put ..
      · exact h
  · exact h

theorem State.After.probeReading (k : KilnNo) (address lCode : Nat) (fault : Bool) :
    (s.probeReading k address lCode fault).After o := by
  have recorded (e : PresenceEntry) (reading : Reading) : (s.recordReading k e reading).After o := by
    unfold State.recordReading
    dsimp only
    split
    · split
      · exact State.After.addProbeEvent (s := s.putPresence _) h ..
      · exact h
    · exact h
    all_goals exact State.After.countMiss (s := s.putPresence _) h ..
  unfold State.probeReading
  (repeat' split)
  · exact h
  · exact recorded ..
  · exact h

theorem State.After.probeOutcome (k : KilnNo) (address : Nat) (command : ProbeCommand) (outcome : ExchangeOutcome)
    (data : List Octet) : (s.probeOutcome k address command outcome data).After o := by
  have good (t : State) (ht : t.After o) : (t.goodProbeOutcome k address command data).After o := by
    unfold State.goodProbeOutcome
    split
    · exact ht
    next serial _ =>
      have resolved := ht.resolveIdentity k address serial
      dsimp only
      split
      · exact resolved.probeReading ..
      · exact resolved
  have handled (t : State) (ht : t.After o) : (t.handleProbeOutcome k address command outcome data).After o := by
    unfold State.handleProbeOutcome
    split
    · exact good t ht
    · exact ht.countMiss ..
    · exact ht
  have taken : (s.modifySweep k fun r => { r with outstanding := r.outstanding.erase (address, command) }).After o := h
  have done := (handled _ taken).completeIfDone k
  unfold State.probeOutcome
  dsimp only
  split
  · exact h
  · split
    · split
      · exact done.completeIfDone _
      · exact done
    · exact h

theorem State.After.planSweep (k : KilnNo) : (s.planSweep k).After o := by
  unfold State.planSweep
  dsimp only
  split
  · exact State.After.completeSweep (s := s.modifySweep k _) h k
  · split
    · exact State.After.congr (s := s) h (by simp) (by simp)
    · exact h

theorem State.After.forgetEntry (e : PresenceEntry) : (s.forgetEntry e).After o := by
  have dropped : ((s.removePresence e.port e.address).dropPlanned e.port e.address).After o := h.congr (by simp) (by simp)
  exact dropped.completeIfDone e.port

theorem State.After.sweepIntervalOver (k : KilnNo) : (s.sweepIntervalOver k).After o := by
  have started (f : SweepRecord → SweepRecord) : (s.modifySweep k f).After o := h
  unfold State.sweepIntervalOver
  split
  · dsimp only
    split
    · exact (started _).planSweep k
    · exact started _
  · exact h

/-! ### Exchanges -/

theorem State.After.handOutcome (p : PortNo) (e : Exchange) (outcome : ExchangeOutcome) (reply : StationReply) :
    (s.handOutcome p e outcome reply).After o := by
  unfold State.handOutcome
  split
  · exact h.setpointOutcome ..
  · exact h.probeOutcome ..
  · split
    · exact h
    · exact h.probeOutcome ..
  · exact h.congr (by simp) (by simp)
  · exact h.labelOutcome ..
  · exact h.labelOutcome ..
  · exact h

theorem State.After.enterDown (p : PortNo) : (s.enterDown p).After o :=
  State.After.postPortDown (s := s.modifyPort p _) h p

theorem State.After.endExchange (p : PortNo) (outcome : ExchangeOutcome) (reply : StationReply) :
    (s.endExchange p outcome reply).After o := by
  have failed (t : State) (ht : t.After o) : (t.identifyFailed p).After o := by
    have down := ht.enterDown p
    unfold State.identifyFailed
    (repeat' split)
    · exact ht
    · exact ht
    · exact down
  have applied (t : State) (e : Exchange) (ht : t.After o) : (t.applyOutcome p e outcome reply).After o := by
    unfold State.applyOutcome
    split
    · exact ht.congr (by simp) (by simp)
    · unfold State.applyInEstablishing
      split
      · exact ht.congr (by simp) (by simp)
      · exact failed t ht
    all_goals exact ht
  unfold State.endExchange
  split
  · exact h
  · exact applied _ _ (State.After.handOutcome (s := s.closeExchange p outcome) h ..)

theorem State.After.windowOver (p : PortNo) : (s.windowOver p).After o := by
  have ended := h.endExchange p .timeout noReplyData
  unfold State.windowOver
  (repeat' split) <;> with_reducible assumption

theorem State.After.octetSilence (p : PortNo) : (s.octetSilence p).After o := by
  have ended := h.endExchange p .truncated noReplyData
  unfold State.octetSilence
  (repeat' split) <;> with_reducible assumption

theorem State.After.receiveFieldOctet (p : PortNo) (octet : Octet) (error : Bool) :
    (s.receiveFieldOctet p octet error).After o := by
  have phase (f : PortRecord → PortRecord) : (s.modifyPort p f).After o := h
  have ended := fun outcome => h.endExchange p outcome
  unfold State.receiveFieldOctet State.receiveReplyOctet
  dsimp only
  (repeat' split) <;> with_reducible apply_assumption

theorem State.After.takeLineFault (p : PortNo) : (s.takeLineFault p).After o := by
  have ended : (s.faultExchange p).After o := by
    unfold State.faultExchange
    split
    · exact State.After.handOutcome (s := s.closeExchange p .framing) h ..
    · exact h
  have faulted (t : State) (ht : t.After o) : (t.enterFaulted p).After o := by
    have down (f : PortRecord → PortRecord) : (((t.modifyPort p PortRecord.faulted).modifyPort p f).enterDown p).After o :=
      State.After.enterDown (s := (t.modifyPort p PortRecord.faulted).modifyPort p f) ht p
    unfold State.enterFaulted
    dsimp only
    split
    · exact down _
    · exact ht
  unfold State.takeLineFault
  dsimp only
  split
  · split
    · exact (faulted ((s.faultExchange p).modifyPort p PortRecord.clearUp) ended).congr (by simp) (by simp)
    · exact faulted _ ended
  · exact h

end

/-! ### Every work -/

/-- The commands that have to do with the classes' emptying or the marks themselves. -/
def ownsNoticesOrMarks : Instr → Bool
  | .powerOn _ | .resetPin _ _ | .replySent _ | .powerFail | .keepLevelLoss | .clockSecond | .takeNotice
  | .setClock _ _ _ _ _ _ => true
  | _ => false

theorem State.After.loadKiln {o s : State} (h : s.After o) (k : KilnNo) (e : SpeciesEntry) (id : Nat) (x : Schedule) :
    (s.loadKiln k e id x).After o := by
  have counted : ((s.writeChargeCounter s.issuedChargeNumber).addCharge
      (.created s.issuedChargeNumber k e.code id s.stamp)).After o := h
  unfold State.loadKiln
  dsimp only
  refine State.After.writeSnapshot (counted.congr ?_ ?_) k
  · simp
  · simp [Backup.marks]

theorem Work.after {i : Instr} {o s t : State} (work : Work i s t) (other : ownsNoticesOrMarks i = false)
    (h : s.After o) : t.After o := by
  have reported (r : Report) : (s.takeReport r).After o := h
  cases work
  case powerOn | resetPin | replyDone | powerFail | loseKeepLevel | clockSecond | takeNotice | setClock => cases other
  case clearCounters x => cases x <;> exact h
  case load => exact h.loadKiln ..
  case start k _ => exact State.After.writeSnapshot (s := s.modifyKiln k _) h k
  case hold k _ => exact h.setHolds k _
  case releaseOvertime k _ => exact State.After.setHolds (s := s.modifyKiln k _) h k _
  case releaseHost k _ => exact h.setHolds k _
  case skip k _ => exact h.advanceStep k false
  case unload k => exact h.congr (by simp) (by simp [State.unloadKiln, Backup.marks])
  case abandon k => exact h.congr (by simp) (by simp [State.unloadKiln, Backup.marks])
  case resume k _ => exact State.After.writeSnapshot (s := s.modifyKiln k _) h k
  case sweepNow k full =>
    have chosen : (s.chooseFullScan k full).After o := h.congr (by simp) (by simp)
    exact chosen.planSweep k
  case forget e _ => exact h.forgetEntry e
  case clearLine => exact h.clearLine
  case beginClosing b => exact h.beginClosing b
  case collect serial =>
    exact State.After.giveFreedPlace (s := { s with packs := eraseBy PackRecord.serial serial s.packs }) h
  case minute k =>
    have delivered : (s.deliverMinute k).After o := h
    exact delivered.kilnMinute k
  case windowOver p => exact h.windowOver p
  case receiveFieldOctet p octet error => exact h.receiveFieldOctet p octet error
  case octetSilence p => exact h.octetSilence p
  case lineFault p => exact h.takeLineFault p
  case controllerLost k => exact (reported _).takeControllerLost k
  case kilnPortUp k => exact (reported _).takeKilnPortUp k
  case sweepIntervalOver k => exact h.sweepIntervalOver k
  case encoderMoves move => exact h.encoderMoves move
  case changeEye level => exact h.changeEye level
  case eyeFilterOver => exact h.eyeFilterOver
  case labelTimeoutOver =>
    exact State.After.faultCurrent (s := s.modifyLabel fun l => { l with timeout := none }) h .timeout
  case labelPortLost => exact (reported _).labelPortLost
  case setMasks m => exact h.modifyNotices fun c held => by cases c <;> exact held
  all_goals exact h.congr (by simp) (by simp)

/-! ### What the commands leave that is not theirs -/

section
variable {i : Instr} {s t : State}

theorem Work.pending (work : Work i s t) : t.pending = s.pending := by
  cases work <;> simp

theorem State.advanceClock_nonEmpty {o : State} (h : s.After o) (c : NoticeClass)
    (held : o.notices.nonEmpty c = true) : s.advanceClock.notices.nonEmpty c = true := by
  unfold State.advanceClock
  split
  · unfold State.whenOn
    split
    · exact (State.After.postClockInvalid (s := s) h).1 c held
    · exact h.1 c held
    · exact h.1 c held
  · exact h.1 c held

/-- A class that is not empty stays so at every command but those that empty classes. -/
theorem Work.nonEmpty (work : Work i s t) (noReset : ∀ straps, i ≠ .powerOn straps ∧ i ≠ .replySent straps ∧
    ∀ edge, i ≠ .resetPin edge straps) (noFailure : i ≠ .powerFail) (noTaking : i ≠ .takeNotice) (c : NoticeClass)
    (held : s.notices.nonEmpty c = true) : t.notices.nonEmpty c = true := by
  cases own : ownsNoticesOrMarks i with
  | false => exact (work.after own (.refl s)).1 c held
  | true =>
    cases work
    case powerOn straps => exact absurd rfl (noReset straps).1
    case replyDone straps => exact absurd rfl (noReset straps).2.1
    case resetPin edge straps => exact absurd rfl ((noReset straps).2.2 edge)
    case powerFail => exact absurd rfl noFailure
    case takeNotice => exact absurd rfl noTaking
    case setClock => exact held
    case loseKeepLevel =>
      unfold State.loseKeepLevel
      split <;> exact held
    case clockSecond => exact State.advanceClock_nonEmpty (State.After.refl s) c held
    case nothing => exact held
    all_goals cases own

theorem State.resetKept_backup (s : State) (straps : Straps) : (s.resetKept straps).backup = s.backup := by
  simp [State.resetKept, State.volatileReset]

/-- A mark of the backup domain that is clear, and stays so where the clock, the power and the resets act, stays clear. -/
theorem Work.mark (work : Work i s t) {mark : Backup → Bool} (same : ∀ a b : Backup, a.marks = b.marks → mark a = mark b)
    (cleared : mark s.backup = false)
    (set : ∀ year month day hour minute second, i ≠ .setClock year month day hour minute second ∨
      ∀ d, mark (s.setClock d true).backup = false)
    (on : ∀ straps, i ≠ .powerOn straps ∨ mark .cleared = false)
    (lost : mark s.loseKeepLevel.backup = false) (second : mark s.advanceClock.backup = false) :
    mark t.backup = false := by
  have kept (straps : Straps) : mark (s.resetKept straps).backup = false := by rwa [s.resetKept_backup]
  have stilled (power : Power) : mark (s.stilled power).backup = false := cleared
  cases own : ownsNoticesOrMarks i with
  | false => rwa [same t.backup s.backup (work.after own (State.After.refl s)).2]
  | true =>
    cases work
    case powerOn straps =>
      unfold State.powerOnReset
      split
      · exact kept straps
      · exact (on straps).resolve_left fun other => other rfl
    case replyDone straps =>
      have restarted := kept straps
      have sent : mark (s.popFrame.modifyLink fun l => { l with buffer := none }).backup = false := cleared
      unfold State.replyDone
      (repeat' split) <;> with_reducible assumption
    case resetPin edge straps =>
      have pulsed := kept straps
      have held := stilled .held
      unfold State.moveResetPin
      split <;> with_reducible assumption
    case powerFail => exact stilled .off
    case takeNotice => exact cleared
    case setClock d => exact (set _ _ _ _ _ _).resolve_left (fun other => other rfl) d
    case loseKeepLevel => exact lost
    case clockSecond => exact second
    case nothing => exact cleared
    all_goals cases own

/-- The clock's flag is set by SET-CLOCK only. -/
theorem Work.clockValid (work : Work i s t)
    (other : ∀ year month day hour minute second, i ≠ .setClock year month day hour minute second)
    (cleared : s.backup.clockValid = false) : t.backup.clockValid = false := by
  refine work.mark (mark := Backup.clockValid) (fun a b is => congrArg Prod.fst is) cleared
    (fun year month day hour minute second => .inl (other year month day hour minute second)) (fun _ => .inr rfl) ?_ ?_
  · unfold State.loseKeepLevel
    split <;> exact cleared
  · unfold State.advanceClock State.whenOn
    split
    · split <;> rfl
    · exact cleared

/-- The domain-valid mark is set by a power-on only. -/
theorem Work.domainValid (work : Work i s t) (other : ∀ straps, i ≠ .powerOn straps)
    (cleared : s.backup.domainValid = false) : t.backup.domainValid = false := by
  refine work.mark (mark := Backup.domainValid) (fun a b is => congrArg Prod.snd is) cleared
    (fun _ _ _ _ _ _ => .inr fun _ => cleared) (fun _ => .inl (other _)) ?_ ?_
  · unfold State.loseKeepLevel
    split
    · rfl
    · exact cleared
    · exact cleared
  · unfold State.advanceClock State.whenOn
    split
    · split <;> exact cleared
    · exact cleared

end

end Sys2Proof.Machine
end

section
/-! PROOFS. The statement on what commands leave that is not theirs. -/
open Sys2Proof Sys2Proof.Machine

/-- Settles O2, from every work of a command: the queue, the classes and the two marks through each. -/
theorem commandsKeepWhatIsNotTheirs : Obligations.CommandsKeepWhatIsNotTheirs := by
  unfold Obligations.CommandsKeepWhatIsNotTheirs
  refine ⟨fun c s t next => ?_, fun c s t k next noReset noFailure noTaking held => ?_, fun c s t next => ⟨?_, ?_⟩⟩
  · exact exec_preserves (P := fun u => u.pending = s.pending) (fun _ _ same => same)
      (fun _ _ work same => work.pending.trans same) next rfl
  · exact exec_preserves (P := fun u => u.notices.nonEmpty k = true) (fun _ _ same => same)
      (fun _ _ work => work.nonEmpty noReset noFailure noTaking k) next held
  · intro cleared set
    by_contra other
    have stays := exec_preserves (P := fun u => u.backup.clockValid = false) (fun _ _ same => same)
      (fun _ _ work => work.clockValid fun year month day hour minute second is =>
        other ⟨year, month, day, hour, minute, second, is⟩) next cleared
    exact Bool.false_ne_true (stays.symm.trans set)
  · intro cleared set
    by_contra other
    have stays := exec_preserves (P := fun u => u.backup.domainValid = false) (fun _ _ same => same)
      (fun _ _ work => work.domainValid fun straps is => other ⟨straps, is⟩) next cleared
    exact Bool.false_ne_true (stays.symm.trans set)
end

section
/-! PROOFS. The kiln supervisor's requests: what START, RESUME, HOLD, RELEASE, SKIP and KILN-CONFIG make of the kiln
record, each work seen through the request in the buffer. -/
namespace Sys2Proof.Machine

/-- A request that its owner performs, the work being known as it is done with the request in the buffer. -/
theorem hostRequest_eq_okReply_of {s : State} {i : Instr} {owner : State → Answer} (taken : s.takes i = true)
    {content : List Octet} {done work : State}
    (answer : owner (s.holdRequest (requestKind i) (some i) true) = .ok content done)
    (same : done = work.holdRequest (requestKind i) (some i) true) :
    hostRequest i owner s = work.okReply i content :=
  hostRequest_eq_okReply taken (answer.trans (congrArg (Answer.ok content) same))

section
variable {s : State} {k : KilnNo}

/-! ### The works on the kiln record -/

theorem clampTo_eq (hi : Nat) (x : Int) : clampTo hi x = (max 0 (min x hi)).toNat := by
  unfold clampTo
  omega

theorem State.modifyKiln_eq (f : KilnRecord → KilnRecord) : s.modifyKiln k f = s.setKiln k (f (s.kiln k)) := rfl

theorem State.kilnPortIsUp_iff : s.kilnPortIsUp k = true ↔ (s.port (kilnPort k)).state = .up := beq_iff_eq

/-- START of a kiln whose first step is there. -/
theorem KilnRecord.started_eq (r : KilnRecord) (x : Step) :
    r.started (some x) =
      { r with
        state := if r.holds.isEmpty then .running else .held,
        stepIndex := 0, stepElapsed := 0, overtimeDisarmed := false,
        dryBulb := if r.dryValid then (max 0 (min r.dryReadback 1200)).toNat else x.target,
        depression :=
          if r.dryValid && r.wetValid then (max 0 (min (r.dryReadback - r.wetReadback) 400)).toNat
          else x.depression } := by
  simp only [KilnRecord.started, KilnRecord.startDryBulb, KilnRecord.startDepression, clampTo_eq]
  rfl

/-- In RUNNING and HELD the state follows the hold set; in every other state it stays. -/
theorem KilnRecord.withHolds_eq (r : KilnRecord) (holds : HoldSet) :
    r.withHolds holds =
      { r with
        holds := holds
        state := if r.state = .held ∧ holds.isEmpty then .running
          else if r.state = .running ∧ !holds.isEmpty then .held else r.state } := by
  unfold KilnRecord.withHolds
  cases state : r.state <;> cases holds.isEmpty <;> rfl

theorem HoldSet.with_host {h : HoldSet} (host : h.host = true) : h = { h with host := true } := by
  cases h
  cases host
  rfl

theorem KilnRecord.withHolds_of_nonempty (r : KilnRecord) {holds : HoldSet} (nonempty : holds.isEmpty = false) :
    r.withHolds holds =
      { r with holds := holds, state := if r.state = .running then .held else r.state } := by
  simp only [KilnRecord.withHolds_eq, nonempty, Bool.false_eq_true, and_false, if_false, Bool.not_false, and_true]

@[simp] theorem State.writeSnapshot_kiln (k j : KilnNo) : (s.writeSnapshot k).kiln j = s.kiln j := by
  simp [State.kiln]

theorem State.setHolds_of_same {holds : HoldSet} (same : (s.kiln k).holds = holds) : s.setHolds k holds = s := if_pos same

theorem State.setHolds_of_other {holds : HoldSet} (other : (s.kiln k).holds ≠ holds) :
    s.setHolds k holds = (s.setKiln k ((s.kiln k).withHolds holds)).writeSnapshot k := if_neg other

theorem State.holdRequest_setHolds (kind : Octet) (request : Option Instr) (answered : Bool) (holds : HoldSet) :
    (s.holdRequest kind request answered).setHolds k holds =
      (s.setHolds k holds).holdRequest kind request answered := by
  by_cases same : (s.kiln k).holds = holds
  · rw [State.setHolds_of_same same, State.setHolds_of_same (s := s.holdRequest kind request answered) same]
  · rw [State.setHolds_of_other same, State.setHolds_of_other (s := s.holdRequest kind request answered) same]
    exact State.holdRequest_writeSnapshot (s := s.setKiln k _) kind request answered k

theorem State.releaseHost_eq (host : (s.kiln k).holds.host = true) :
    s.releaseHost k =
      (s.setKiln k ((s.kiln k).withHolds { (s.kiln k).holds with host := false })).writeSnapshot k :=
  State.setHolds_of_other fun same => by simpa [host] using congrArg HoldSet.host same

/-- Writing a flag that the record leaves alone first, and then the hold set, is one write. -/
theorem State.releaseOvertime_eq (overtime : (s.kiln k).holds.overtime = true) :
    s.releaseOvertime k =
      (s.setKiln k
        (({ s.kiln k with overtimeDisarmed := true } : KilnRecord).withHolds
          { (s.kiln k).holds with overtime := false })).writeSnapshot k := by
  have other : ((s.modifyKiln k fun r => { r with overtimeDisarmed := true }).kiln k).holds ≠
      { (s.kiln k).holds with overtime := false } := by
    intro same
    have := congrArg HoldSet.overtime same
    simp only [State.modifyKiln_eq, State.kiln_setKiln, if_true, overtime, Bool.true_eq_false] at this
  rw [State.releaseOvertime, State.setHolds_of_other other]
  simp only [State.modifyKiln_eq, State.kiln_setKiln, if_true, State.setKiln_setKiln]

/-! ### Step advance and completion -/

theorem State.advanceStep_of_more {x : Schedule} (schedule : s.kilnSchedule k = some x)
    (more : (s.kiln k).stepIndex + 1 < x.steps.length) (overtime : Bool) :
    s.advanceStep k overtime =
      ((s.setKiln k
        { s.kiln k with
          stepIndex := (s.kiln k).stepIndex + 1, stepElapsed := 0, overtimeDisarmed := false }).postKilnStep k
            overtime).writeSnapshot k := by
  simp only [State.advanceStep, schedule, if_pos more]
  rfl

theorem State.advanceStep_of_last {x : Schedule} (schedule : s.kilnSchedule k = some x)
    (last : ¬(s.kiln k).stepIndex + 1 < x.steps.length) (overtime : Bool) :
    s.advanceStep k overtime = s.completeKiln k := by
  simp only [State.advanceStep, schedule, if_neg last]

theorem finalMcOf_eq (mc : ControllingMc) : finalMcOf mc = match mc with | .value mc => .value mc | _ => .invalid := by
  cases mc <;> rfl

/-- The value that completion records as the final MC: a value, or INVALID. -/
theorem State.completeKiln_eq {c : KilnCharge} (charge : (s.kiln k).charge = some c) :
    s.completeKiln k =
      ((({ s with
           charges := updateBy Charge.number c.number
             (fun d =>
               { d with finalMc := match (s.kiln k).controllingMc with | .value mc => .value mc | _ => .invalid })
             s.charges }.setKiln k { s.kiln k with state := .complete }).postChargeDried k).writeSnapshot k) := by
  unfold State.completeKiln
  split
  next d found =>
    obtain rfl := Option.some.inj (charge.symm.trans found)
    simp only [State.recordFinalMc, finalMcOf_eq]
    rfl
  next absent => exact absurd (charge.symm.trans absent) (Option.some_ne_none c)

theorem State.kilnSchedule_of_charge {c : KilnCharge} (charge : (s.kiln k).charge = some c) :
    s.kilnSchedule k = s.schedule c.schedule := by
  simp only [State.kilnSchedule, charge]

theorem State.charge_of_kilnSchedule {x : Schedule} (schedule : s.kilnSchedule k = some x) :
    ∃ c, (s.kiln k).charge = some c := by
  unfold State.kilnSchedule at schedule
  split at schedule
  next c charge => exact ⟨c, charge⟩
  next => cases schedule

theorem State.holdRequest_kilnSchedule (kind : Octet) (request : Option Instr) (answered : Bool) :
    (s.holdRequest kind request answered).kilnSchedule k = s.kilnSchedule k := rfl

theorem State.holdRequest_completeKiln (kind : Octet) (request : Option Instr) (answered : Bool) {c : KilnCharge}
    (charge : (s.kiln k).charge = some c) :
    (s.holdRequest kind request answered).completeKiln k = (s.completeKiln k).holdRequest kind request answered := by
  rw [State.completeKiln_eq charge, State.completeKiln_eq (s := s.holdRequest kind request answered) charge]
  refine .trans ?_ (State.holdRequest_writeSnapshot _ kind request answered k)
  rfl

theorem State.holdRequest_advanceStep (kind : Octet) (request : Option Instr) (answered overtime : Bool) :
    (s.holdRequest kind request answered).advanceStep k overtime =
      (s.advanceStep k overtime).holdRequest kind request answered := by
  cases schedule : s.kilnSchedule k with
  | none => simp only [State.advanceStep, State.holdRequest_kilnSchedule, schedule]
  | some x =>
    by_cases more : (s.kiln k).stepIndex + 1 < x.steps.length
    · rw [State.advanceStep_of_more schedule more,
        State.advanceStep_of_more (s := s.holdRequest kind request answered) schedule more]
      exact State.holdRequest_writeSnapshot (s := (s.setKiln k _).postKilnStep k overtime) kind request answered k
    · rw [State.advanceStep_of_last schedule more,
        State.advanceStep_of_last (s := s.holdRequest kind request answered) schedule more]
      obtain ⟨c, charge⟩ := State.charge_of_kilnSchedule schedule
      exact State.holdRequest_completeKiln kind request answered charge

/-! ### The owners' answers -/

theorem startAnswer_wrongState (wrong : (s.kiln k).state ≠ .loaded ∨ (s.port (kilnPort k)).state ≠ .up) :
    startAnswer (k.val + 1) s = .refuse .wrongState := by
  simp only [startAnswer, kilnOf_succ]
  rcases wrong with wrong | down
  · exact if_pos wrong
  · have down : s.kilnPortIsUp k = false := Bool.eq_false_iff.mpr (State.kilnPortIsUp_iff.not.mpr down)
    split_ifs with loaded up
    · rfl
    · rfl
    · simp only [down, Bool.not_false, not_true_eq_false] at up

theorem startAnswer_started (loaded : (s.kiln k).state = .loaded) (up : (s.port (kilnPort k)).state = .up) :
    startAnswer (k.val + 1) s = .ok [] ((s.setKiln k ((s.kiln k).started (s.firstStep k))).writeSnapshot k) := by
  simp only [startAnswer, kilnOf_succ, State.kilnPortIsUp_iff.mpr up, loaded, ne_eq, not_true_eq_false, if_false,
    Bool.not_true, Bool.false_eq_true]
  rfl

theorem resumeAnswer_wrongState (wrong : (s.kiln k).state ≠ .recovery ∨ (s.port (kilnPort k)).state ≠ .up) :
    resumeAnswer (k.val + 1) s = .refuse .wrongState := by
  have closed : (s.kiln k).state ≠ .recovery ∨ s.kilnPortIsUp k = false :=
    wrong.imp_right fun down => Bool.eq_false_iff.mpr (State.kilnPortIsUp_iff.not.mpr down)
  simp only [resumeAnswer, kilnOf_succ, if_pos closed]

theorem resumeAnswer_checked {c : KilnCharge} (charge : (s.kiln k).charge = some c)
    (recovered : (s.kiln k).state = .recovery) (up : (s.port (kilnPort k)).state = .up) :
    resumeAnswer (k.val + 1) s = resumeChecked s k c := by
  have opened : ¬((s.kiln k).state ≠ .recovery ∨ s.kilnPortIsUp k = false) := by
    simp [recovered, State.kilnPortIsUp_iff.mpr up]
  simp only [resumeAnswer, kilnOf_succ, if_neg opened, charge]

theorem resumeChecked_notFound {c : KilnCharge}
    (absent : s.speciesEntry c.species = none ∨ s.schedule c.schedule = none) :
    resumeChecked s k c = .refuse .notFound := by
  unfold resumeChecked
  split
  next entry schedule => simp [entry, schedule] at absent
  next => rfl

section
variable {c : KilnCharge} {e : SpeciesEntry} {x : Schedule} (entry : s.speciesEntry c.species = some e)
  (schedule : s.schedule c.schedule = some x)
include entry schedule

theorem resumeChecked_mismatch
    (mismatch : e.checkValue ≠ c.speciesCheck ∨ x.checkValue ≠ c.scheduleCheck ∨
      x.steps.length ≤ (s.kiln k).stepIndex) :
    resumeChecked s k c = .refuse .mismatch := by
  simp only [resumeChecked, entry, schedule]
  split_ifs with checks past
  · rfl
  · rfl
  · exact absurd (or_assoc.mpr mismatch) (not_or.mpr ⟨checks, past⟩)

theorem resumeChecked_resumed
    (same : ¬(e.checkValue ≠ c.speciesCheck ∨ x.checkValue ≠ c.scheduleCheck ∨
      x.steps.length ≤ (s.kiln k).stepIndex)) :
    resumeChecked s k c = .ok [] ((s.setKiln k (s.kiln k).resumed).writeSnapshot k) := by
  obtain ⟨checks, past⟩ := not_or.mp (or_assoc.not.mpr same)
  simp only [resumeChecked, entry, schedule, if_neg checks, if_neg past]
  rfl

end

theorem holdAnswer_wrongState (wrong : (s.kiln k).state = .empty ∨ (s.kiln k).state = .complete) :
    holdAnswer (k.val + 1) s = .refuse .wrongState := by
  rcases wrong with wrong | wrong <;> simp only [holdAnswer, kilnOf_succ, wrong]

theorem holdAnswer_held (occupied : ¬((s.kiln k).state = .empty ∨ (s.kiln k).state = .complete)) :
    holdAnswer (k.val + 1) s = .ok [] (s.setHolds k { (s.kiln k).holds with host := true }) := by
  cases state : (s.kiln k).state <;> simp_all [holdAnswer, kilnOf_succ]

theorem skipAnswer_wrongState (notRunning : (s.kiln k).state ≠ .running) (notHeld : (s.kiln k).state ≠ .held) :
    skipAnswer (k.val + 1) s = .refuse .wrongState := by
  cases state : (s.kiln k).state <;> simp_all [skipAnswer, kilnOf_succ]

theorem skipAnswer_skipped (going : (s.kiln k).state = .running ∨ (s.kiln k).state = .held) :
    skipAnswer (k.val + 1) s = .ok ((s.advanceStep k false).skipContent k) (s.advanceStep k false) := by
  rcases going with going | going <;> simp only [skipAnswer, kilnOf_succ, going]

theorem State.skipContent_of_more {x : Schedule} (schedule : s.kilnSchedule k = some x)
    (going : (s.kiln k).state = .running ∨ (s.kiln k).state = .held)
    (more : (s.kiln k).stepIndex + 1 < x.steps.length) (overtime : Bool) :
    (s.advanceStep k overtime).skipContent k = u8 1 ++ u8 ((s.kiln k).stepIndex + 1) := by
  have notComplete : (s.kiln k).state ≠ .complete := by rcases going with going | going <;> simp [going]
  have record : (s.advanceStep k overtime).kiln k =
      { s.kiln k with stepIndex := (s.kiln k).stepIndex + 1, stepElapsed := 0, overtimeDisarmed := false } := by
    rw [State.advanceStep_of_more schedule more, State.writeSnapshot_kiln]
    exact (State.kiln_setKiln s k k _).trans (if_pos rfl)
  simp only [State.skipContent, record, if_neg notComplete, optional]

theorem State.skipContent_of_last {x : Schedule} (schedule : s.kilnSchedule k = some x)
    (last : ¬(s.kiln k).stepIndex + 1 < x.steps.length) (overtime : Bool) :
    (s.advanceStep k overtime).skipContent k = u8 0 ++ u8 0 := by
  have complete : ((s.advanceStep k overtime).kiln k).state = .complete := by
    rw [State.advanceStep_of_last schedule last]
    obtain ⟨c, charge⟩ := State.charge_of_kilnSchedule schedule
    rw [State.completeKiln_eq charge, State.writeSnapshot_kiln]
    exact congrArg KilnRecord.state ((State.kiln_setKiln _ k k _).trans (if_pos rfl))
  simp only [State.skipContent, complete, if_true, optional]
  rfl

theorem releaseAnswer_outOfRange {reason : Nat} (bad : 1 < reason) :
    releaseAnswer (k.val + 1) reason s = .refuse .outOfRange := by
  simp only [releaseAnswer, kilnOf_succ, flagOf_eq_none (Nat.not_le.mpr bad)]

theorem releaseAnswer_empty {reason : Nat} (named : reason = 0 ∨ reason = 1) (empty : (s.kiln k).state = .empty) :
    releaseAnswer (k.val + 1) reason s = .refuse .wrongState := by
  rcases named with rfl | rfl <;> simp only [releaseAnswer, kilnOf_succ, flagOf, empty, if_true]

section
variable (occupied : (s.kiln k).state ≠ .empty)
include occupied

theorem releaseAnswer_host (host : (s.kiln k).holds.host = true) :
    releaseAnswer (k.val + 1) 0 s = .ok [] (s.releaseHost k) := by
  simp only [releaseAnswer, kilnOf_succ, flagOf, if_neg occupied, Bool.false_eq_true, if_false, host, if_true]

theorem releaseAnswer_noHost (absent : ¬(s.kiln k).holds.host = true) :
    releaseAnswer (k.val + 1) 0 s = .refuse .wrongState := by
  simp only [releaseAnswer, kilnOf_succ, flagOf, if_neg occupied, Bool.false_eq_true, if_false, absent]

theorem releaseAnswer_overtime (overtime : (s.kiln k).holds.overtime = true) :
    releaseAnswer (k.val + 1) 1 s = .ok [] (s.releaseOvertime k) := by
  simp only [releaseAnswer, kilnOf_succ, flagOf, if_neg occupied, overtime, if_true]

theorem releaseAnswer_noOvertime (absent : ¬(s.kiln k).holds.overtime = true) :
    releaseAnswer (k.val + 1) 1 s = .refuse .wrongState := by
  simp only [releaseAnswer, kilnOf_succ, flagOf, if_neg occupied, if_true, if_neg absent]

end

end

end Sys2Proof.Machine
end
section
/-! PROOFS. The statements on the kiln supervisor's requests. -/
open Sys2Proof Sys2Proof.Machine

/-- Settles O22, from the answers of START and RESUME and the record each sets going. -/
theorem startAndResumeSetKilnsGoing : Obligations.StartAndResumeSetKilnsGoing := by
  unfold Obligations.StartAndResumeSetKilnsGoing
  refine ⟨fun s k taken => ⟨fun wrong => ?startRefused, fun x first loaded up => ?started⟩,
    fun s k taken => ⟨fun wrong => ?resumeRefused, fun c charge recovered up => ?resumed⟩⟩
  case startRefused => exact congrArg Host.Outcome.next (hostRequest_eq_refusal taken (startAnswer_wrongState wrong))
  case started =>
    have record := (s.kiln k).started_eq x
    rw [← record]
    refine congrArg Host.Outcome.next (hostRequest_eq_okReply_of taken (startAnswer_started loaded up) ?_)
    refine .trans ?_ (State.holdRequest_writeSnapshot _ _ _ _ k)
    rw [← first]
    rfl
  case resumeRefused =>
    exact congrArg Host.Outcome.next (hostRequest_eq_refusal taken (resumeAnswer_wrongState wrong))
  case resumed =>
    refine congrArg Host.Outcome.next ?_
    have checked := resumeAnswer_checked
      (s := s.holdRequest (requestKind (.resume (k.val + 1))) (some (.resume (k.val + 1))) true) charge recovered up
    cases entry : s.speciesEntry c.species with
    | none =>
      exact hostRequest_eq_refusal taken (checked.trans (resumeChecked_notFound (.inl entry)))
    | some e =>
      cases schedule : s.schedule c.schedule with
      | none =>
        exact hostRequest_eq_refusal taken (checked.trans (resumeChecked_notFound (.inr schedule)))
      | some x =>
        dsimp only
        by_cases mismatch : e.checkValue ≠ c.speciesCheck ∨ x.checkValue ≠ c.scheduleCheck ∨
          x.steps.length ≤ (s.kiln k).stepIndex
        · rw [if_pos mismatch]
          exact hostRequest_eq_refusal taken (checked.trans (resumeChecked_mismatch entry schedule mismatch))
        · rw [if_neg mismatch]
          refine hostRequest_eq_okReply taken (checked.trans ((resumeChecked_resumed (s := s.holdRequest _ _ _) entry schedule mismatch).trans ?_))
          exact congrArg (Answer.ok []) (State.holdRequest_writeSnapshot (s.setKiln k (s.kiln k).resumed) _ _ _ k)

/-- Settles O23, from the change of the hold set, which a RUNNING and a HELD kiln's state follows. -/
theorem holdsAreAddedAndRemoved : Obligations.HoldsAreAddedAndRemoved := by
  unfold Obligations.HoldsAreAddedAndRemoved
  refine ⟨fun s k taken => congrArg Host.Outcome.next ?hold, fun s k reason taken => congrArg Host.Outcome.next ?release⟩
  case hold =>
    dsimp only
    by_cases idle : (s.kiln k).state = .empty ∨ (s.kiln k).state = .complete
    · rw [if_pos idle]
      exact hostRequest_eq_refusal taken (holdAnswer_wrongState idle)
    rw [if_neg idle]
    have held := holdAnswer_held
      (s := s.holdRequest (requestKind (.hold (k.val + 1))) (some (.hold (k.val + 1))) true) idle
    rw [State.holdRequest_setHolds] at held
    rw [hostRequest_eq_okReply taken held]
    by_cases host : (s.kiln k).holds.host = true
    · rw [if_pos host]
      exact congrArg (State.okReply · _ _) (State.setHolds_of_same (HoldSet.with_host host))
    · rw [if_neg host]
      have other : (s.kiln k).holds ≠ { (s.kiln k).holds with host := true } :=
        fun same => host (congrArg HoldSet.host same)
      refine congrArg (State.okReply · _ _) ((State.setHolds_of_other other).trans ?_)
      rw [KilnRecord.withHolds_of_nonempty _ rfl]
  case release =>
    dsimp only
    by_cases bad : 1 < reason
    · rw [if_pos bad]
      exact hostRequest_eq_refusal taken (releaseAnswer_outOfRange bad)
    have named : reason = 0 ∨ reason = 1 := by omega
    rw [if_neg bad]
    by_cases empty : (s.kiln k).state = .empty
    · rw [if_pos empty]
      exact hostRequest_eq_refusal taken (releaseAnswer_empty named empty)
    rw [if_neg empty]
    rcases named with rfl | rfl
    · rw [if_pos rfl]
      by_cases host : (s.kiln k).holds.host = true
      · rw [if_pos host]
        refine (hostRequest_eq_okReply_of taken (releaseAnswer_host empty host)
          (State.holdRequest_setHolds _ _ _ _)).trans ?_
        have released := State.releaseHost_eq host
        rw [KilnRecord.withHolds_eq] at released
        exact congrArg (State.okReply · _ _) released
      · rw [if_neg host]
        exact hostRequest_eq_refusal taken (releaseAnswer_noHost empty host)
    · rw [if_neg one_ne_zero]
      by_cases overtime : (s.kiln k).holds.overtime = true
      · rw [if_pos overtime]
        refine hostRequest_eq_okReply_of taken (releaseAnswer_overtime empty overtime) ?_
        refine (State.releaseOvertime_eq (s := s.holdRequest _ _ _) overtime).trans ?_
        refine .trans ?_ (State.holdRequest_writeSnapshot _ _ _ _ k)
        rw [KilnRecord.withHolds_eq]
        rfl
      · rw [if_neg overtime]
        exact hostRequest_eq_refusal taken (releaseAnswer_noOvertime empty overtime)

/-- Settles O24, from the two ends of a step: the next step, or the schedule's completion. -/
theorem skipEndsTheStep : Obligations.SkipEndsTheStep := by
  unfold Obligations.SkipEndsTheStep
  refine fun s k taken => ⟨fun notRunning notHeld => ?refused, fun c charge x schedule going => ?skipped⟩
  case refused =>
    exact congrArg Host.Outcome.next (hostRequest_eq_refusal taken (skipAnswer_wrongState notRunning notHeld))
  case skipped =>
    have schedule : s.kilnSchedule k = some x := (State.kilnSchedule_of_charge charge).trans schedule
    have skipped := skipAnswer_skipped
      (s := s.holdRequest (requestKind (.skip (k.val + 1))) (some (.skip (k.val + 1))) true) going
    rw [State.holdRequest_advanceStep] at skipped
    refine congrArg Host.Outcome.next ((hostRequest_eq_okReply taken skipped).trans ?_)
    by_cases more : (s.kiln k).stepIndex + 1 < x.steps.length
    · rw [if_pos more, ← State.advanceStep_of_more schedule more]
      exact congrArg (State.okReply _ _) (State.skipContent_of_more schedule going more false)
    · rw [if_neg more]
      refine (congrArg (State.okReply _ _) (State.skipContent_of_last schedule more false)).trans ?_
      exact congrArg (State.okReply · _ _)
        ((State.advanceStep_of_last schedule more false).trans (State.completeKiln_eq charge))
end

section
/-! PROOFS. The kiln's settings, the ranges of the numbered subjects, snapshots and setpoints. -/
namespace Sys2Proof.Machine

/-! ### The kiln's nine settings -/

/-- R56: the settings in their ranges make a configuration, others none. -/
theorem kilnConfigOf_eq (si ci wet probes learning role loss jump shift : Nat) :
    kilnConfigOf si ci wet probes learning role loss jump shift =
      if 1 ≤ si ∧ si ≤ 60 ∧ 2 ≤ ci ∧ ci ≤ 60 ∧ 1 ≤ wet ∧ wet ≤ 8 ∧ 1 ≤ probes ∧ probes ≤ 24 ∧ learning ≤ 1 ∧
          role ≤ 1 ∧ 2 ≤ loss ∧ loss ≤ 15 ∧ 50 ≤ jump ∧ jump ≤ 2000 ∧ shift ≤ 3 then
        some ⟨si, ci, wet, probes, learning == 1, role == 1, loss, jump, shift⟩
      else none := by
  by_cases learns : learning ≤ 1
  · by_cases monitors : role ≤ 1
    · simp only [kilnConfigOf, flagOf_eq_some learns, flagOf_eq_some monitors, inRange, Bool.and_eq_true,
        decide_eq_true_eq]
      exact if_congr (by omega) rfl rfl
    · simp only [kilnConfigOf, flagOf_eq_some learns, flagOf_eq_none monitors, monitors, false_and, and_false, if_false]
  · simp only [kilnConfigOf, flagOf_eq_none learns, learns, false_and, and_false, if_false]

/-! ### The numbered subjects -/

section
variable {s : State} {n a b c d e f g h j : Nat} {i : Instr}

theorem exec_of_kilnOf_none (unnamed : kilnOf n = none)
    (names : i ∈ [Instr.load n a b, .start n, .hold n, .release n a, .skip n, .unload n, .resume n, .abandon n,
      .kilnConfig n a b c d e f g h j, .readKiln n, .sweepNow n a, .readProbes n])
    (taken : s.takes i = true) : exec i s = .next (s.refusal i .outOfRange) := by
  simp only [List.mem_cons, List.not_mem_nil, or_false] at names
  obtain rfl | rfl | rfl | rfl | rfl | rfl | rfl | rfl | rfl | rfl | rfl | rfl := names <;>
    refine congrArg Host.Outcome.next (hostRequest_eq_refusal taken ?_) <;>
    simp only [loadAnswer, startAnswer, holdAnswer, releaseAnswer, skipAnswer, unloadAnswer, resumeAnswer, abandonAnswer,
      kilnConfigAnswer, readKilnAnswer, sweepNowAnswer, readProbesAnswer, unnamed]

theorem exec_of_portOf_none (unnamed : portOf n = none)
    (names : i ∈ [Instr.enablePort n a b c d, .disablePort n, .readPort n]) (taken : s.takes i = true) :
    exec i s = .next (s.refusal i .outOfRange) := by
  simp only [List.mem_cons, List.not_mem_nil, or_false] at names
  obtain rfl | rfl | rfl := names <;> refine congrArg Host.Outcome.next (hostRequest_eq_refusal taken ?_) <;>
    simp only [enablePortAnswer, disablePortAnswer, readPortAnswer, unnamed]

theorem exec_of_bayOf_none (unnamed : bayOf n = none)
    (names : i ∈ [Instr.bayConfig n a b c d e, .closePack n, .readBay n]) (taken : s.takes i = true) :
    exec i s = .next (s.refusal i .outOfRange) := by
  simp only [List.mem_cons, List.not_mem_nil, or_false] at names
  obtain rfl | rfl | rfl := names <;> refine congrArg Host.Outcome.next (hostRequest_eq_refusal taken ?_) <;>
    simp only [bayConfigAnswer, closePackAnswer, readBayAnswer, unnamed]

end

/-! ### Snapshots and setpoints -/

theorem KilnRecord.effectiveState_eq (r : KilnRecord) :
    r.effectiveState = if r.state = .faultHold ∧ r.remembered.isSome then r.remembered.getD .empty else r.state := by
  unfold KilnRecord.effectiveState
  cases state : r.state <;> cases r.remembered <;> rfl

theorem KilnRecord.writesSnapshots_iff {r : KilnRecord} :
    r.writesSnapshots = true ↔
      r.effectiveState = .loaded ∨ r.effectiveState = .running ∨ r.effectiveState = .held ∨
        r.effectiveState = .complete := by
  unfold KilnRecord.writesSnapshots
  cases r.effectiveState <;> simp

theorem State.writeSnapshot_of_charge {s : State} {k : KilnNo} {c : KilnCharge} (charge : (s.kiln k).charge = some c) :
    s.writeSnapshot k =
      if (s.kiln k).writesSnapshots then s.setSnapshot k (some ((s.kiln k).toSnapshot c)) else s := by
  simp only [State.writeSnapshot, charge]

theorem KilnRecord.setpoint_eq (r : KilnRecord) :
    r.setpoint =
      if r.effectiveState = .running ∨ r.effectiveState = .held ∨ r.effectiveState = .recovery then
        { run := true, dryBulb := r.dryBulb, wetBulb := ((r.dryBulb : Int) - r.depression).toNat }
      else { run := false, dryBulb := 0, wetBulb := 0 } := by
  have wet : ((r.dryBulb : Int) - r.depression).toNat = r.dryBulb - r.depression := by omega
  rw [wet, KilnRecord.setpoint]
  cases r.effectiveState <;> simp

end Sys2Proof.Machine
end

section
/-! PROOFS. The statements on the kiln's settings, the numbered subjects, snapshots and setpoints. -/
open Sys2Proof Sys2Proof.Machine

/-- Settles O26, from the ranges in which nine values make a configuration. -/
theorem kilnConfigReplacesAllNine : Obligations.KilnConfigReplacesAllNine := by
  unfold Obligations.KilnConfigReplacesAllNine
  refine fun s k si ci wet probes learning role loss jump shift =>
    ⟨fun taken => congrArg Host.Outcome.next ?config, fun taken => congrArg Host.Outcome.next ?read⟩
  case config =>
    refine hostRequest_eq_ite taken ?_
    rw [kilnConfigOf_eq]
    split_ifs <;> simp only [kilnConfigAnswer, kilnOf_succ]
    rfl
  case read =>
    refine hostRequest_eq_okReply_of (work := s) taken (content := s.kilnContent k) ?_ rfl
    simp only [readKilnAnswer, kilnOf_succ]
    rfl

/-- Settles O27: no number outside its range names a subject, and every owner asks for the subject first. -/
theorem subjectsOutOfRangeAreRefused : Obligations.SubjectsOutOfRangeAreRefused := by
  unfold Obligations.SubjectsOutOfRangeAreRefused
  have unnamed : ∀ {top n : Nat}, n < 1 ∨ top < n → numbered top n = none :=
    fun outside => numbered_eq_none_iff.mpr (outside.imp_left Nat.lt_one_iff.mp)
  exact fun s n a b c d e f g h j =>
    ⟨fun outside i names => exec_of_kilnOf_none (unnamed outside) names,
      fun outside i names => exec_of_portOf_none (unnamed outside) names,
      fun outside i names => exec_of_bayOf_none (unnamed outside) names⟩

/-- Settles O28, from the state that counts for both: in FAULT_HOLD the remembered one. -/
theorem snapshotsAndSetpointsFollowTheRecord : Obligations.SnapshotsAndSetpointsFollowTheRecord := by
  unfold Obligations.SnapshotsAndSetpointsFollowTheRecord
  refine ⟨fun s k c charge => ?snapshot, fun r => ?setpoint⟩
  case snapshot =>
    dsimp only
    rw [← KilnRecord.effectiveState_eq, State.writeSnapshot_of_charge charge]
    exact if_congr KilnRecord.writesSnapshots_iff rfl rfl
  case setpoint =>
    dsimp only
    rw [← KilnRecord.effectiveState_eq]
    exact r.setpoint_eq

end

section
/-! PROOFS. The schedule table: the steps that written fields make, and the answers of the table store. -/
namespace Sys2Proof.Machine

/-! ### A step and its fields -/

/-- The step carries the written fields. -/
def Step.Carries (x : Step) (f : StepFields) : Prop :=
  (x.target : Int) = f.target ∧ x.depression = f.depression ∧ x.ramp = f.ramp ∧ x.rule.number = f.rule ∧
    x.threshold = f.threshold ∧ x.maximum = f.maximum ∧ x.action.number = f.action

theorem advanceRuleOf_eq_some {n : Nat} {rule : AdvanceRule} (named : advanceRuleOf n = some rule) : rule.number = n := by
  unfold advanceRuleOf at named
  split at named <;> cases named <;> rfl

theorem overtimeActionOf_eq_some {n : Nat} {action : OvertimeAction} (named : overtimeActionOf n = some action) :
    action.number = n := by
  unfold overtimeActionOf at named
  split at named <;> cases named <;> rfl

section
variable {f : StepFields} {x : Step}

theorem stepOf_carries (made : stepOf f = some x) : x.Carries f := by
  unfold stepOf at made
  split at made
  next rule action ruleNamed actionNamed =>
    split at made
    next range =>
      cases made
      exact ⟨Int.toNat_of_nonneg range.1, rfl, rfl, advanceRuleOf_eq_some ruleNamed, rfl, rfl,
        overtimeActionOf_eq_some actionNamed⟩
    next => cases made
  next => cases made

/-- The advance rule and the overtime action are named, and the other fields lie in the ranges of that rule. -/
theorem stepInRange_iff :
    stepInRange f = true ↔
      ∃ rule action, advanceRuleOf f.rule = some rule ∧ overtimeActionOf f.action = some action ∧
        0 ≤ f.target ∧ f.target ≤ 1200 ∧ f.depression ≤ 400 ∧ inRange 1 50 f.ramp ∧
        thresholdValid rule f.threshold f.maximum ∧ inRange 1 65535 f.maximum := by
  simp only [stepInRange, Bool.and_eq_true, decide_eq_true_eq]
  constructor
  · rintro ⟨⟨⟨low, high, depression, ramp⟩, least, most, action⟩, rule⟩
    obtain ⟨action, actionNamed⟩ : ∃ action, overtimeActionOf f.action = some action := by
      rcases action with named | named <;> exact ⟨_, congrArg overtimeActionOf named⟩
    suffices ∃ rule, advanceRuleOf f.rule = some rule ∧ thresholdValid rule f.threshold f.maximum = true by
      obtain ⟨rule, ruleNamed, threshold⟩ := this
      exact ⟨rule, action, ruleNamed, actionNamed, low, high, depression, inRange_iff.mpr ramp, threshold,
        inRange_iff.mpr ⟨least, most⟩⟩
    rcases rule with ⟨named, threshold⟩ | ⟨named, threshold⟩ | ⟨named, threshold⟩ | ⟨named, threshold⟩ <;>
      refine ⟨_, congrArg advanceRuleOf named, ?_⟩ <;> simp only [thresholdValid, inRange, Bool.and_eq_true,
        decide_eq_true_eq, beq_iff_eq] <;> omega
  · rintro ⟨rule, action, ruleNamed, actionNamed, low, high, depression, ramp, threshold, maximum⟩
    have ruleNumber := advanceRuleOf_eq_some ruleNamed
    have actionNumber := overtimeActionOf_eq_some actionNamed
    refine ⟨⟨⟨low, high, depression, inRange_iff.mp ramp⟩, (inRange_iff.mp maximum).1, (inRange_iff.mp maximum).2, ?_⟩, ?_⟩
    · rw [← actionNumber]
      cases action
      · exact .inl rfl
      · exact .inr rfl
    · rw [← ruleNumber]
      cases rule <;> simp only [thresholdValid, inRange, Bool.and_eq_true, decide_eq_true_eq, beq_iff_eq] at threshold
      case time => exact .inl ⟨rfl, threshold.1.1, threshold.2⟩
      case mcAtOrBelow => exact .inr (.inl ⟨rfl, threshold⟩)
      case spreadAtOrBelow => exact .inr (.inr (.inl ⟨rfl, threshold⟩))
      case dryBulbReached => exact .inr (.inr (.inr ⟨rfl, threshold⟩))

theorem stepOf_isSome : (stepOf f).isSome = stepInRange f := by
  rw [Bool.eq_iff_iff, stepInRange_iff]
  constructor
  · intro made
    unfold stepOf at made
    split at made
    next rule action ruleNamed actionNamed =>
      split at made
      next range => exact ⟨rule, action, ruleNamed, actionNamed, range⟩
      next => cases made
    next => cases made
  · rintro ⟨rule, action, ruleNamed, actionNamed, range⟩
    simp only [stepOf, ruleNamed, actionNamed, if_pos range, Option.isSome_some]

end

/-! ### The steps of a schedule -/

theorem stepsOf_carry {fields : List StepFields} {steps : List Step} (made : stepsOf fields = some steps) :
    List.Forall₂ Step.Carries steps fields := by
  induction fields generalizing steps with
  | nil =>
    cases made
    exact .nil
  | cons f rest ih =>
    unfold stepsOf at made
    split at made
    next x later first restMade =>
      cases made
      exact .cons (stepOf_carries first) (ih restMade)
    next => cases made

theorem stepsOf_isSome (fields : List StepFields) : (stepsOf fields).isSome = fields.all stepInRange := by
  induction fields with
  | nil => rfl
  | cons f rest ih =>
    rw [List.all_cons, ← stepOf_isSome, ← ih, stepsOf]
    cases stepOf f <;> cases stepsOf rest <;> rfl

/-- The check value over the steps is that over the written fields. -/
theorem scheduleCheck_eq {fields : List StepFields} {steps : List Step} (carry : List.Forall₂ Step.Carries steps fields)
    (id : Nat) : scheduleCheck id steps = scheduleSum id fields := by
  have sums : steps.map Step.sum = fields.map fun f =>
      f.target.toNat + f.depression + f.ramp + f.rule + f.threshold + f.maximum + f.action := by
    induction carry with
    | nil => rfl
    | cons first _ ih =>
      obtain ⟨target, depression, ramp, rule, threshold, maximum, action⟩ := first
      simp only [List.map_cons, ih, Step.sum, ← target, depression, ramp, rule, threshold, maximum, action, Int.toNat_natCast]
  rw [scheduleCheck, scheduleSum, sums, carry.length_eq]

/-! ### The table store's answers -/

theorem State.setSchedule_eq (s : State) (place : Fin 8) (x : Option Schedule) :
    s.setSchedule place x = { s with schedules := s.schedules.setIfInBounds place.val x } := by
  have same : s.schedules.set place.val x place.isLt = s.schedules.setIfInBounds place.val x := by
    ext i
    simp [Vector.getElem_set, Vector.getElem_setIfInBounds]
  rw [State.setSchedule, same]

theorem schedulePlace_eq_none {id : Nat} (outside : id < 1 ∨ 8 < id) : schedulePlace id = none :=
  numbered_eq_none_iff.mpr (outside.imp_left Nat.lt_one_iff.mp)

theorem exists_schedulePlace {id : Nat} (inside : ¬(id < 1 ∨ 8 < id)) :
    ∃ place, schedulePlace id = some place ∧ place.val = id - 1 := by
  obtain ⟨i, rfl⟩ : ∃ i, id = i + 1 := ⟨id - 1, by omega⟩
  exact ⟨⟨i, by omega⟩, dif_pos (by omega), rfl⟩

section
variable {s : State} {id count : Nat} {fields : List StepFields} {steps : List Step} {place : Fin 8}

theorem State.schedule_referenced_iff :
    0 < s.scheduleReferences id ↔ (s.charges.any fun c => c.schedule == id) = true := by
  rw [State.scheduleReferences, List.countP_pos_iff, List.any_eq_true]

theorem writeScheduleAnswer_outOfRange
    (bad : id < 1 ∨ 8 < id ∨ count < 1 ∨ 16 < count ∨ count ≠ fields.length ∨ fields.all stepInRange = false) :
    writeScheduleAnswer id count fields s = .refuse .outOfRange := by
  unfold writeScheduleAnswer
  split
  next => rfl
  next place named =>
    by_cases size : (!(inRange 1 16 count && fields.length == count)) = true
    · exact if_pos size
    rw [if_neg size]
    have inside : ¬(id < 1 ∨ 8 < id) := fun outside => by simp [schedulePlace_eq_none outside] at named
    simp only [Bool.not_eq_true', Bool.not_eq_false, Bool.and_eq_true, inRange_iff, beq_iff_eq] at size
    have invalid : fields.all stepInRange = false := by
      obtain bad | bad | bad | bad | bad | bad := bad
      case inr.inr.inr.inr.inr => exact bad
      all_goals omega
    have unmade : stepsOf fields = none := by
      rw [← Option.not_isSome_iff_eq_none, stepsOf_isSome, invalid]
      exact Bool.false_ne_true
    simp only [unmade]

section
variable (named : schedulePlace id = some place) (made : stepsOf fields = some steps)
  (size : 1 ≤ count ∧ count ≤ 16 ∧ count = fields.length)
include named made size

theorem writeScheduleAnswer_of_size :
    writeScheduleAnswer id count fields s =
      if (s.schedule id).isSome ∧ (s.charges.any fun c => c.schedule == id) then .refuse .inUse
      else
        .ok (u8 id ++ u16 (scheduleSum id fields))
          (s.setSchedule place (some ⟨steps, scheduleSum id fields⟩)) := by
  have sized : ¬(!(inRange 1 16 count && fields.length == count)) = true := by
    simp only [Bool.not_eq_true', Bool.not_eq_false, Bool.and_eq_true, inRange_iff, beq_iff_eq]
    omega
  simp only [writeScheduleAnswer, named, made, if_neg sized, scheduleCheck_eq (stepsOf_carry made)]
  exact if_congr (by rw [Bool.and_eq_true, decide_eq_true_eq, State.schedule_referenced_iff]) rfl rfl

end

theorem deleteScheduleAnswer_of_place (named : schedulePlace id = some place) :
    deleteScheduleAnswer id s =
      if (s.schedule id).isNone then .refuse .notFound
      else if (s.charges.any fun c => c.schedule == id) then .refuse .inUse
      else .ok [] (s.setSchedule place none) := by
  simp only [deleteScheduleAnswer, named]
  exact if_congr Iff.rfl rfl (if_congr State.schedule_referenced_iff rfl rfl)

end

end Sys2Proof.Machine
end

section
/-! PROOFS. The statement of the schedule table's requests. -/
open Sys2Proof Sys2Proof.Machine

/-- Settles O19: valid fields make steps that carry them, and a place in 1..8 is written, emptied or read. -/
theorem scheduleTableRequestsAnswer : Obligations.ScheduleTableRequestsAnswer := by
  unfold Obligations.ScheduleTableRequestsAnswer
  refine ⟨fun s id count fields taken => congrArg Host.Outcome.next ?write,
    fun fields => ⟨stepsOf_isSome fields, fun steps made => ⟨(stepsOf_carry made).length_eq, fun j x found => ?carries⟩⟩,
    fun s id => ⟨fun taken => congrArg Host.Outcome.next ?delete, fun taken => congrArg Host.Outcome.next ?read,
      fun taken => congrArg Host.Outcome.next (hostRequest_eq_okReply_of (work := s) taken rfl rfl)⟩⟩
  case write =>
    dsimp only
    by_cases bad : id < 1 ∨ 8 < id ∨ count < 1 ∨ 16 < count ∨ count ≠ fields.length
    · rw [if_pos bad]
      exact hostRequest_eq_refusal taken (writeScheduleAnswer_outOfRange (by tauto))
    rw [if_neg bad]
    by_cases invalid : fields.all stepInRange = false
    · rw [if_pos invalid]
      exact hostRequest_eq_refusal taken (writeScheduleAnswer_outOfRange (by tauto))
    rw [if_neg invalid]
    obtain ⟨steps, made⟩ := Option.isSome_iff_exists.mp ((stepsOf_isSome fields).trans (Bool.not_eq_false _ ▸ invalid))
    obtain ⟨place, named, at_id⟩ := exists_schedulePlace (id := id) (by tauto)
    rw [made, ← at_id]
    dsimp only
    rw [← State.setSchedule_eq]
    have answer := fun t => writeScheduleAnswer_of_size (s := t) (count := count) named made (by omega)
    split_ifs with referenced
    · exact hostRequest_eq_refusal taken ((answer _).trans (if_pos referenced))
    · exact hostRequest_eq_okReply_of taken ((answer _).trans (if_neg referenced)) rfl
  case carries =>
    obtain ⟨short, rfl⟩ := List.getElem?_eq_some_iff.mp found
    exact (stepsOf_carry made).get short j.isLt
  case delete =>
    dsimp only
    by_cases bad : id < 1 ∨ 8 < id
    · rw [if_pos bad]
      exact hostRequest_eq_refusal taken (by simp only [deleteScheduleAnswer, schedulePlace_eq_none bad])
    rw [if_neg bad]
    obtain ⟨place, named, at_id⟩ := exists_schedulePlace bad
    rw [← at_id, ← State.setSchedule_eq]
    have answer := fun t => deleteScheduleAnswer_of_place (s := t) named
    split_ifs with absent referenced
    · exact hostRequest_eq_refusal taken ((answer _).trans (if_pos absent))
    · exact hostRequest_eq_refusal taken ((answer _).trans ((if_neg absent).trans (if_pos referenced)))
    · exact hostRequest_eq_okReply_of taken ((answer _).trans ((if_neg absent).trans (if_neg referenced))) rfl
  case read =>
    dsimp only
    by_cases bad : id < 1 ∨ 8 < id
    · rw [if_pos bad]
      exact hostRequest_eq_refusal taken (by simp only [readScheduleAnswer, schedulePlace_eq_none bad])
    rw [if_neg bad]
    obtain ⟨place, named, -⟩ := exists_schedulePlace bad
    cases found : s.schedule id with
    | none =>
      exact hostRequest_eq_refusal taken (by simp only [readScheduleAnswer, named, State.holdRequest_schedule, found])
    | some x =>
      refine hostRequest_eq_okReply_of (work := s) taken ?_ rfl
      simp only [readScheduleAnswer, named, State.holdRequest_schedule, found]
      rfl

end

section
/-! PROOFS. The minute event that ends a step, the controller's loss and return, and the sweep's result. -/
namespace Sys2Proof.Machine

section
variable {s : State} {k : KilnNo}

/-! ### The snapshot of a kiln that is going or COMPLETE -/

/-- The snapshot of a record that is not in FAULT_HOLD. -/
def KilnRecord.saved (q : KilnRecord) (c : KilnCharge) : Snapshot :=
  { charge := c, stepIndex := q.stepIndex, stepElapsed := q.stepElapsed, totalMinutes := q.totalMinutes,
    running := q.state == .running, host := q.holds.host, overtime := q.holds.overtime,
    dryBulb := q.dryBulb, depression := q.depression, overtimeDisarmed := q.overtimeDisarmed }

theorem KilnRecord.effectiveState_of_not_faultHold {q : KilnRecord} (other : q.state ≠ .faultHold) :
    q.effectiveState = q.state := by
  rw [KilnRecord.effectiveState_eq, if_neg fun fault => other fault.1]

/-- The state with kiln k's record and the snapshot of it. -/
def State.saveKiln (s : State) (k : KilnNo) (q : KilnRecord) (c : KilnCharge) : State :=
  { s with backup := { s.backup with snapshots := s.backup.snapshots.set k.val (some (q.saved c)) k.isLt } }.setKiln k q

theorem State.writeSnapshot_setKiln {q : KilnRecord} {c : KilnCharge} (charge : q.charge = some c)
    (going : q.state = .running ∨ q.state = .held ∨ q.state = .complete) :
    (s.setKiln k q).writeSnapshot k = s.saveKiln k q c := by
  have effective := KilnRecord.effectiveState_of_not_faultHold (q := q) fun fault => by simp [fault] at going
  have record : (s.setKiln k q).kiln k = q := (s.kiln_setKiln k k q).trans (if_pos rfl)
  rw [State.writeSnapshot_of_charge (c := c) (by rw [record, charge]), record,
    if_pos (KilnRecord.writesSnapshots_iff.mpr (by rw [effective]; exact .inr going)), KilnRecord.toSnapshot, effective]
  rfl

/-- A second snapshot of the same record is the first. -/
theorem State.writeSnapshot_writeSnapshot : (s.writeSnapshot k).writeSnapshot k = s.writeSnapshot k := by
  have record := State.writeSnapshot_kiln (s := s) k k
  by_cases writes : (s.kiln k).writesSnapshots = true
  · cases charge : (s.kiln k).charge with
    | none =>
      have same : s.writeSnapshot k = s := by simp only [State.writeSnapshot, charge, ite_self]
      rw [same, same]
    | some c =>
      rw [State.writeSnapshot_of_charge (s := s.writeSnapshot k) (by rw [record, charge]), record, if_pos writes,
        State.writeSnapshot_of_charge charge, if_pos writes]
      simp only [State.setSnapshot, Vector.set_set]
  · have same : s.writeSnapshot k = s := if_neg writes
    rw [same, same]

theorem State.tenthMinute_writeSnapshot : (s.writeSnapshot k).tenthMinute k = s.writeSnapshot k := by
  unfold State.tenthMinute
  split_ifs
  · exact State.writeSnapshot_writeSnapshot
  · rfl

/-! ### The minute that ends a step -/

/-- The record of a RUNNING kiln after the counts and the ramp of a minute (R64, R65, R162). -/
def KilnRecord.minute (r : KilnRecord) (x : Step) : KilnRecord :=
  ({ r with minuteEvents := bump r.minuteEvents } : KilnRecord).countMinute.rampMinute x

/-- The minute count that READ-CLOCK shows, after kiln k's minute event (log entry 7). -/
def State.countMinute (s : State) (k : KilnNo) : State :=
  { s with minuteCount := max s.minuteCount (bump (s.kiln k).minuteEvents) }

theorem State.kilnMinute_of_step {x : Step} (running : (s.kiln k).state = .running) (step : s.currentStep k = some x) :
    s.kilnMinute k = ((s.setKiln k ((s.kiln k).countMinute.rampMinute x)).testStepTime k x).tenthMinute k := by
  have counted : (s.setKiln k (s.kiln k).countMinute).kiln k = (s.kiln k).countMinute :=
    (s.kiln_setKiln k k _).trans (if_pos rfl)
  have step' : (s.setKiln k (s.kiln k).countMinute).currentStep k = some x :=
    (s.currentStep_setKiln k (r := (s.kiln k).countMinute) rfl rfl).trans step
  rw [State.kilnMinute_of_occupied (by simp [running]), if_pos running]
  simp only [State.runMinute, step', State.modifyKiln, counted, State.setKiln_setKiln]

section
variable {q : KilnRecord} {x : Step}

theorem State.testStepTime_byTime (byTime : x.rule = .time ∧ x.threshold ≤ q.stepElapsed) :
    (s.setKiln k q).testStepTime k x = (s.setKiln k q).advanceStep k false := by
  simp only [State.testStepTime, State.kiln_setKiln, if_true, if_pos byTime]

section
variable (inTime : ¬(x.rule = .time ∧ x.threshold ≤ q.stepElapsed))
  (overtime : q.overtimeDisarmed = false ∧ x.maximum ≤ q.stepElapsed)
include inTime overtime

theorem State.testStepTime_overtime_advance (action : x.action = .advance) :
    (s.setKiln k q).testStepTime k x = (s.setKiln k q).advanceStep k true := by
  simp only [State.testStepTime, State.kiln_setKiln, if_true, if_neg inTime, if_pos overtime, action]

theorem State.tenthMinute_overtime_hold (action : x.action = .hold) {c : KilnCharge} (charge : q.charge = some c)
    (running : q.state = .running) :
    ((s.setKiln k q).testStepTime k x).tenthMinute k =
      (s.postKilnStep k true).saveKiln k { q with state := .held, holds := { q.holds with overtime := true } } c := by
  have held : q.withHolds { q.holds with overtime := true } =
      { q with state := .held, holds := { q.holds with overtime := true } } := by
    rw [KilnRecord.withHolds_of_nonempty _ (by simp [HoldSet.isEmpty]), if_pos running]
  rw [← State.writeSnapshot_setKiln (by exact charge) (.inr (.inl rfl)), ← held, ← State.tenthMinute_writeSnapshot]
  simp only [State.testStepTime, State.kiln_setKiln, if_true, if_neg inTime, if_pos overtime, action,
    State.modifyKiln_eq, State.setKiln_setKiln]
  rfl

end

section
variable {c : KilnCharge} {sch : Schedule} (charge : q.charge = some c) (schedule : s.schedule c.schedule = some sch)
include charge schedule

theorem State.tenthMinute_advanceStep_of_more (going : q.state = .running ∨ q.state = .held)
    (more : q.stepIndex + 1 < sch.steps.length) (overtime : Bool) :
    ((s.setKiln k q).advanceStep k overtime).tenthMinute k =
      (s.postKilnStep k overtime).saveKiln k
        { q with stepIndex := q.stepIndex + 1, stepElapsed := 0, overtimeDisarmed := false } c := by
  have record : (s.setKiln k q).kiln k = q := (s.kiln_setKiln k k q).trans (if_pos rfl)
  have named : (s.setKiln k q).kilnSchedule k = some sch :=
    (State.kilnSchedule_of_charge (by rw [record, charge])).trans schedule
  rw [State.advanceStep_of_more named (by rwa [record]), State.tenthMinute_writeSnapshot, record, State.setKiln_setKiln,
    ← State.writeSnapshot_setKiln (by exact charge) (by rcases going with going | going <;> simp [going])]
  rfl

theorem State.tenthMinute_advanceStep_of_last (last : ¬q.stepIndex + 1 < sch.steps.length) (overtime : Bool) :
    ((s.setKiln k q).advanceStep k overtime).tenthMinute k =
      State.saveKiln
        { s.postChargeDried k with
          charges := updateBy Charge.number c.number
            (fun d => { d with finalMc := match q.controllingMc with | .value mc => .value mc | _ => .invalid })
            s.charges }
        k { q with state := .complete } c := by
  have record : (s.setKiln k q).kiln k = q := (s.kiln_setKiln k k q).trans (if_pos rfl)
  have named : (s.setKiln k q).kilnSchedule k = some sch :=
    (State.kilnSchedule_of_charge (by rw [record, charge])).trans schedule
  rw [State.advanceStep_of_last named (by rwa [record]), State.completeKiln_eq (c := c) (by rw [record, charge]),
    State.tenthMinute_writeSnapshot, record, ← State.writeSnapshot_setKiln (by exact charge) (.inr (.inr rfl))]
  exact congrArg (fun t => (State.postChargeDried t k).writeSnapshot k) (State.setKiln_setKiln { s with charges := _ } k q _)

theorem State.tenthMinute_advanceStep (going : q.state = .running ∨ q.state = .held) (overtime : Bool) :
    ((s.setKiln k q).advanceStep k overtime).tenthMinute k =
      if q.stepIndex + 1 < sch.steps.length then
        (s.postKilnStep k overtime).saveKiln k
          { q with stepIndex := q.stepIndex + 1, stepElapsed := 0, overtimeDisarmed := false } c
      else
        State.saveKiln
          { s.postChargeDried k with
            charges := updateBy Charge.number c.number
              (fun d => { d with finalMc := match q.controllingMc with | .value mc => .value mc | _ => .invalid })
              s.charges }
          k { q with state := .complete } c := by
  split_ifs with more
  · exact State.tenthMinute_advanceStep_of_more charge schedule going more overtime
  · exact State.tenthMinute_advanceStep_of_last charge schedule more overtime

end

end

/-! ### Loss and return of the controller -/

theorem State.takeControllerLost_eq (s : State) (k : KilnNo) :
    s.takeControllerLost k =
      if (s.kiln k).state = .empty ∨ (s.kiln k).state = .faultHold then
        s.setKiln k { s.kiln k with dryValid := false, wetValid := false }
      else
        (s.setKiln k
          { s.kiln k with
            dryValid := false, wetValid := false, remembered := some (s.kiln k).state, state := .faultHold }).postKilnFault
          k := by
  have lost : s.loseReadbacks k = s.setKiln k { s.kiln k with dryValid := false, wetValid := false } := rfl
  have record : (s.loseReadbacks k).kiln k = { s.kiln k with dryValid := false, wetValid := false } :=
    (s.kiln_setKiln k k _).trans (if_pos rfl)
  have state : ((s.loseReadbacks k).kiln k).state = (s.kiln k).state := by rw [record]
  unfold State.takeControllerLost
  dsimp only
  by_cases stays : (s.kiln k).state = .empty ∨ (s.kiln k).state = .faultHold
  · rw [if_pos stays, state, ← lost]
    rcases stays with stays | stays <;> simp only [stays]
  · rw [if_neg stays, state, State.modifyKiln_eq, record, lost, State.setKiln_setKiln]
    cases held : (s.kiln k).state <;> simp [held] at stays <;> rfl

theorem KilnRecord.returnState_eq (r : KilnRecord) (back : KilnState) :
    r.returnState back =
      if back = .running ∨ back = .held then if r.holds.isEmpty then .running else .held else back := by
  cases back <;> rfl

theorem State.takeKilnPortUp_eq (s : State) (k : KilnNo) :
    s.takeKilnPortUp k =
      if (s.kiln k).state = .faultHold ∧ (s.kiln k).remembered.isSome then
        if s.lossOvertook k then s.postKilnFault k
        else
          s.setKiln k
            { s.kiln k with
              remembered := none, state := (s.kiln k).returnState ((s.kiln k).remembered.getD .empty) }
      else s := by
  cases state : (s.kiln k).state <;> cases held : (s.kiln k).remembered <;>
    simp only [State.takeKilnPortUp, state, held] <;> rfl

/-! ### Sweep results -/

/-- The candidates are the filtered and mapped entries, whose values are kept where there are any. -/
theorem candidateValues_eq (presence : List PresenceEntry) (k : KilnNo) :
    candidateValues presence k =
      presence.filterMap fun e =>
        if e.port = k ∧ e.state = .active ∧ e.role = some .control then e.smoothed else none := by
  rw [candidateValues, List.filterMap_filter]
  refine List.filterMap_congr fun e _ => ?_
  by_cases named : e.port = k ∧ e.state = .active ∧ e.role = some .control
  · obtain ⟨port, state, role⟩ := named
    cases smoothed : e.smoothed <;> simp [PresenceEntry.candidate, port, state, role, smoothed]
  · rw [if_neg named, if_neg fun candidate => named ?_]
    simp only [PresenceEntry.candidate, Bool.and_eq_true, beq_iff_eq] at candidate
    exact ⟨candidate.1.1.1, candidate.1.1.2, candidate.1.2⟩

/-- The three figures stored, and MOISTURE_INVALID posted when the controlling MC turns INVALID. -/
def State.storeSweep (s : State) (k : KilnNo) (x : SweepResult) : State :=
  let stored := s.setKiln k
    { s.kiln k with controllingMc := x.controllingMc, spread := x.spread, driest := x.driest }
  if x.controllingMc = .invalid ∧ (s.kiln k).controllingMc ≠ .invalid then stored.postMoistureInvalid k else stored

theorem State.storeSweep_kiln (s : State) (k : KilnNo) (x : SweepResult) :
    (s.storeSweep k x).kiln k =
      { s.kiln k with controllingMc := x.controllingMc, spread := x.spread, driest := x.driest } := by
  have record := s.kiln_setKiln k k
    { s.kiln k with controllingMc := x.controllingMc, spread := x.spread, driest := x.driest }
  rw [if_pos rfl] at record
  unfold State.storeSweep
  split_ifs <;> exact record

theorem State.storeSweep_currentStep (s : State) (k : KilnNo) (x : SweepResult) :
    (s.storeSweep k x).currentStep k = s.currentStep k := by
  have schedule : (s.storeSweep k x).schedule = s.schedule := by
    unfold State.storeSweep
    split_ifs <;> rfl
  simp only [State.currentStep, State.kilnSchedule, s.storeSweep_kiln k x, schedule]

theorem State.takeSweepResult_eq {s : State} {k : KilnNo} (occupied : (s.kiln k).state ≠ .empty) (x : SweepResult) :
    s.takeSweepResult k x =
      if (s.kiln k).state = .running then (s.storeSweep k x).testMoisture k else s.storeSweep k x := by
  have told : (x.controllingMc == .invalid && (s.kiln k).controllingMc != .invalid) = true ↔
      x.controllingMc = .invalid ∧ (s.kiln k).controllingMc ≠ .invalid := by simp
  have record := s.storeSweep_kiln k x
  unfold State.storeSweep at record ⊢
  simp only [State.takeSweepResult, if_neg occupied, told, State.modifyKiln_eq] at record ⊢
  rw [record]

theorem State.testMoisture_eq (s : State) (k : KilnNo) :
    s.testMoisture k =
      match s.currentStep k with
      | none => s
      | some step =>
        if (step.rule = .mcAtOrBelow ∧
              (match (s.kiln k).controllingMc with | .value mc => decide (mc ≤ step.threshold) | _ => false) = true) ∨
            (step.rule = .spreadAtOrBelow ∧
              (match (s.kiln k).spread with | some d => decide (d ≤ step.threshold) | none => false) = true) then
          s.advanceStep k false
        else s := by
  unfold State.testMoisture
  cases s.currentStep k with
  | none => rfl
  | some step =>
    cases rule : step.rule
    case time | dryBulbReached => simp [rule]
    case mcAtOrBelow => cases mc : (s.kiln k).controllingMc <;> simp [rule]
    case spreadAtOrBelow => cases spread : (s.kiln k).spread <;> simp [rule]

end

end Sys2Proof.Machine
end

section
/-! PROOFS. The statements on the minute that ends a step, the controller's loss and the sweep's result. -/
open Sys2Proof Sys2Proof.Machine

/-- Settles O30, from the ramped record and the three ends: the next step, the completion and the hold. -/
theorem minuteEventEndsTheStep : Obligations.MinuteEventEndsTheStep := by
  unfold Obligations.MinuteEventEndsTheStep
  intro s k on c charge sch schedule x step running
  dsimp only
  intro ends
  have current : s.currentStep k = some x := by
    simp only [State.currentStep, State.kilnSchedule_of_charge charge, schedule, step]
  have record := s.deliverMinute_kiln k
  rw [exec_minuteEvent_of_isOn on, State.kilnMinute_of_step (by rwa [record]) ((s.deliverMinute_currentStep k).trans current),
    record, State.deliverMinute_setKiln]
  refine congrArg Host.Outcome.next ?_
  by_cases byTime : x.rule = .time ∧ x.threshold ≤ bump (s.kiln k).stepElapsed
  · rw [State.testStepTime_byTime byTime, if_neg fun late => late.1.1 byTime, decide_eq_false fun late => late.1 byTime]
    exact State.tenthMinute_advanceStep (s := s.countMinute k) (k := k) (q := (s.kiln k).minute x) charge schedule (.inl running) false
  · have overtime := ends.resolve_left byTime
    cases action : x.action
    case advance =>
      rw [State.testStepTime_overtime_advance byTime overtime.2 action, if_neg (by simp),
        decide_eq_true overtime]
      exact State.tenthMinute_advanceStep (s := s.countMinute k) (k := k) (q := (s.kiln k).minute x) charge schedule (.inl running) true
    case hold =>
      rw [if_pos ⟨overtime, rfl⟩]
      exact State.tenthMinute_overtime_hold (s := s.countMinute k) (k := k) (q := (s.kiln k).minute x) byTime overtime.2 action charge running

/-- Settles O31, from the reports' passage to the kiln supervisor and the record that each leaves. -/
theorem controllerLossHoldsTheKiln : Obligations.ControllerLossHoldsTheKiln := by
  unfold Obligations.ControllerLossHoldsTheKiln
  intro s k on
  have on : s.power = .on := beq_iff_eq.mp on
  refine ⟨fun absent => ?absent, fun waits => ?lost, ?up⟩
  case absent => exact congrArg Host.Outcome.next ((State.whenOn_on s on).trans (if_neg absent))
  case lost =>
    refine congrArg Host.Outcome.next (((State.whenOn_on s on).trans (if_pos waits)).trans ?_)
    exact State.takeControllerLost_eq (s.takeReport (.controllerLost k)) k
  case up =>
    refine congrArg Host.Outcome.next ((State.whenOn_on s on).trans ?_)
    dsimp only
    by_cases next : s.reportNext (.kilnPortUp k) = true
    · rw [if_pos next, if_neg (by rw [next]; exact Bool.true_eq_false_eq_False), State.takeKilnPortUp_eq, KilnRecord.returnState_eq]
      rfl
    · rw [if_neg next, if_pos (Bool.eq_false_iff.mpr next)]

/-- Settles O32, from the moisture tests of the stored figures and the values that a completed sweep selects from. -/
theorem sweepResultTestsTheStep : Obligations.SweepResultTestsTheStep := by
  unfold Obligations.SweepResultTestsTheStep
  refine ⟨fun s k x occupied => ?result, fun s k => ?complete⟩
  case result =>
    dsimp only
    rw [State.takeSweepResult_eq occupied, State.testMoisture_eq, State.storeSweep_currentStep, State.storeSweep_kiln]
    cases s.currentStep k with
    | none => exact ite_self _
    | some step =>
      by_cases running : (s.kiln k).state = .running
      · rw [if_pos running]
        exact if_congr (and_iff_right running).symm rfl rfl
      · rw [if_neg running]
        exact (if_neg fun tested => running tested.1).symm
  case complete => exact congrArg (State.takeSweepResult _ k) (congrArg (select · _ _) (candidateValues_eq _ k))

end

section
/-! PROOFS. The field ports' requests, the run-outs of their waits and the exchanges they send. -/
namespace Sys2Proof.Machine

section
variable {s : State} {p : PortNo}

theorem portOf_val (p : PortNo) : portOf (p.val + 1) = some p := dif_pos p.isLt

theorem portKiln_isSome_iff : (portKiln p).isSome = true ↔ p.val < 6 := by
  unfold portKiln
  split_ifs with kiln <;> simp [kiln]

theorem State.setPort_port : s.setPort p (s.port p) = s := by
  have same : s.ports.set p.val (s.port p) p.isLt = s.ports := Vector.set_getElem_self _
  rw [State.setPort, same]

theorem State.modifyPort_of_same {f : PortRecord → PortRecord} (same : f (s.port p) = s.port p) :
    s.modifyPort p f = s := by
  rw [State.modifyPort, same, State.setPort_port]

/-- A change of the record that is made on a condition only. -/
theorem State.modifyPort_eq_ite {f : PortRecord → PortRecord} {c : Prop} [Decidable c] {q : PortRecord}
    (changed : f (s.port p) = if c then q else s.port p) : s.modifyPort p f = if c then s.setPort p q else s := by
  split_ifs at changed ⊢
  · rw [State.modifyPort, changed]
  · exact State.modifyPort_of_same changed

/-! ### ENABLE-PORT and DISABLE-PORT -/

theorem windowValid_iff {window : Nat} :
    windowValid p window = true ↔ ¬((p.val < 6 ∧ (window < 5 ∨ 100 < window)) ∨ (6 ≤ p.val ∧ window ≠ 10)) := by
  unfold windowValid
  by_cases kiln : p.val < 6
  · rw [if_pos (portKiln_isSome_iff.mpr kiln), inRange_iff]
    omega
  · rw [if_neg (portKiln_isSome_iff.not.mpr kiln), beq_iff_eq]
    omega

theorem enablePortAnswer_outOfRange {window limit auto retry : Nat} (bad : limit < 2 ∨ 10 < limit ∨ 1 < auto ∨ 1 < retry) :
    enablePortAnswer (p.val + 1) window limit auto retry s = .refuse .outOfRange := by
  by_cases autoSmall : auto ≤ 1
  · by_cases retrySmall : retry ≤ 1
    · simp only [enablePortAnswer, portOf_val, flagOf_eq_some autoSmall, flagOf_eq_some retrySmall]
      refine if_pos ?_
      rw [Bool.not_eq_true', ← Bool.not_eq_true, inRange_iff]
      omega
    · simp only [enablePortAnswer, portOf_val, flagOf_eq_some autoSmall, flagOf_eq_none retrySmall]
  · simp only [enablePortAnswer, portOf_val, flagOf_eq_none autoSmall]

theorem enablePortAnswer_of_inRange {window limit auto retry : Nat}
    (good : ¬(limit < 2 ∨ 10 < limit ∨ 1 < auto ∨ 1 < retry)) :
    enablePortAnswer (p.val + 1) window limit auto retry s =
      if (p.val < 6 ∧ (window < 5 ∨ 100 < window)) ∨ (6 ≤ p.val ∧ window ≠ 10) then .refuse .outOfRange
      else if (s.port p).state = .establishing ∨ (s.port p).state = .up then .refuse .wrongState
      else .ok [] (s.setPort p ((s.port p).enabled window limit (auto == 1) (retry == 1))) := by
  have limited : ¬(!inRange 2 10 limit) = true := by
    rw [Bool.not_eq_true', ← Bool.not_eq_true, inRange_iff]
    omega
  simp only [enablePortAnswer, portOf_val, flagOf_eq_some (show auto ≤ 1 by omega),
    flagOf_eq_some (show retry ≤ 1 by omega), if_neg limited]
  exact if_congr (by rw [Bool.not_eq_true', ← Bool.not_eq_true, windowValid_iff, not_not]) rfl rfl

/-- DISABLE-PORT of a port in UP: the report goes with the record. -/
theorem State.disable_eq :
    s.disable p =
      if (s.port p).state = .off then s
      else if (s.port p).state ≠ .up then s.setPort p (s.port p).disabled
      else (s.reportLeftUp p).setPort p (s.port p).disabled := by
  unfold State.disable
  by_cases up : (s.port p).state = .up
  · simp only [up, beq_self_eq_true, if_true, ne_eq, not_true_eq_false, if_false, State.reportLeftUp]
    cases portKiln p with
    | some k => rfl
    | none => dsimp only; split_ifs <;> rfl
  · simp only [beq_eq_false_iff_ne.mpr up, Bool.false_eq_true, if_false, ne_eq, up, not_false_eq_true, if_true]
    rfl

theorem State.holdRequest_disable (kind : Octet) (request : Option Instr) (answered : Bool) :
    (s.holdRequest kind request answered).disable p = (s.disable p).holdRequest kind request answered := by
  rw [State.disable_eq, State.disable_eq, State.holdRequest_port, apply_ite (State.holdRequest · kind request answered),
    apply_ite (State.holdRequest · kind request answered)]
  refine if_congr Iff.rfl rfl (if_congr Iff.rfl rfl ?_)
  unfold State.reportLeftUp
  cases portKiln p with
  | some k => rfl
  | none => dsimp only; split_ifs <;> rfl

/-! ### The exchanges a port sends -/

theorem PortRecord.lineFree_eq_false {r : PortRecord} :
    ¬r.lineFree = true ↔ r.state ≠ .up ∨ r.exchange.isSome ∨ r.silentWait := by
  rw [PortRecord.lineFree_iff]
  cases r.exchange <;> cases r.silentWait <;> simp

/-- What a function makes of the record of a kiln port that sends: the SETPOINT first, then the sweep queue's head. -/
theorem PortRecord.sendOnKilnPort_cases {α : Type} (f : PortRecord → α) (r : PortRecord) (x : Setpoint) :
    f (r.sendOnKilnPort x) =
      if r.setpointDue then f (({ r with setpointDue := false } : PortRecord).startExchange .setpoint 0 x.data)
      else
        match r.sweepQueue with
        | (a, .read) :: rest => f (({ r with sweepQueue := rest } : PortRecord).startExchange .probeRead a [])
        | (a, .identify) :: rest => f (({ r with sweepQueue := rest } : PortRecord).startExchange .identify a [])
        | [] => f r := by
  unfold PortRecord.sendOnKilnPort
  split_ifs
  · rfl
  · rcases r.sweepQueue with _ | ⟨⟨a, command⟩, rest⟩
    · rfl
    · cases command <;> rfl

/-- What a function makes of the record of port 7 or 8 that sends: the exchange that waits first, then a health
IDENTIFY. -/
theorem PortRecord.sendOnDevicePort_cases {α : Type} (f : PortRecord → α) (r : PortRecord) :
    f r.sendOnDevicePort =
      match r.waiting with
      | some x => f (({ r with waiting := none } : PortRecord).startExchange x.command 0 x.data)
      | none => if r.healthDue then f (r.startExchange .identify 0 []) else f r := by
  unfold PortRecord.sendOnDevicePort
  cases r.waiting with
  | some x => rfl
  | none => exact apply_ite f _ _ _

theorem State.sendNext_of_not_free (busy : ¬(s.port p).lineFree = true) : s.sendNext p = s := if_neg busy

theorem State.sendNext_of_kiln {k : KilnNo} (free : (s.port p).lineFree = true) (port : portKiln p = some k) :
    s.sendNext p = s.setPort p ((s.port p).sendOnKilnPort (s.kiln k).setpoint) := by
  simp only [State.sendNext, if_pos free, port]
  rfl

theorem State.sendNext_of_device (free : (s.port p).lineFree = true) (port : portKiln p = none) :
    s.sendNext p = s.setPort p (s.port p).sendOnDevicePort := by
  simp only [State.sendNext, if_pos free, port]
  rfl

theorem State.askPort_eq (w : WaitingExchange) :
    s.askPort p w =
      if (s.port p).state ≠ .up ∨ (s.port p).waiting.isSome ∨ (∃ e ∈ (s.port p).exchange, e.command ≠ .identify) then s
      else (s.setPort p { s.port p with waiting := some w }).sendNext p := by
  unfold State.askPort
  rw [PortRecord.answerTo_eq]
  by_cases up : (s.port p).state ≠ .up
  · rw [if_pos up, if_pos (.inl up)]
  by_cases held : (s.port p).waiting.isSome ∨ ∃ e ∈ (s.port p).exchange, e.command ≠ .identify
  · rw [if_neg up, if_pos held, if_pos (.inr held)]
  · rw [if_neg up, if_neg held, if_neg (not_or.mpr ⟨up, held⟩)]
    rfl

/-! ### The waits -/

theorem PortRecord.sendIdentify_of_silent {r : PortRecord} (silent : r.silentWait = false) :
    r.sendIdentify =
      if r.state = .establishing ∧ r.wake = .none ∧ r.attemptGap = false ∧ r.exchange = none then
        { r with tryRate := r.nextRate }.startExchange .identify 0 []
      else r := by
  simp only [PortRecord.sendIdentify, silent, true_and]

theorem PortRecord.endWakePulse_eq (r : PortRecord) :
    r.endWakePulse = if r.wake = .pulse then { r with wake := .wait } else r := by
  unfold PortRecord.endWakePulse
  cases wake : r.wake <;> rfl

theorem PortRecord.endWakeWait_eq (r : PortRecord) :
    r.endWakeWait = if r.wake = .wait then ({ r with wake := .none } : PortRecord).sendIdentify else r := by
  unfold PortRecord.endWakeWait
  cases wake : r.wake <;> rfl

theorem PortRecord.sendIdentify_awake (r : PortRecord) :
    ({ r with wake := .none } : PortRecord).sendIdentify =
      if r.state = .establishing ∧ r.attemptGap = false ∧ r.silentWait = false ∧ r.exchange = none then
        ({ r with wake := .none, tryRate := r.nextRate } : PortRecord).startExchange .identify 0 []
      else { r with wake := .none } := by
  simp only [PortRecord.sendIdentify, true_and]

/-- The silent wait's end: the establishment's next IDENTIFY leaves nothing for the port to send. -/
theorem State.silentWaitOver_eq :
    s.silentWaitOver p =
      if (s.port p).silentWait = false then s
      else if (s.port p).state = .establishing ∧ (s.port p).wake = .none ∧ (s.port p).attemptGap = false ∧
          (s.port p).exchange = none then
        s.setPort p
          (({ s.port p with silentWait := false, tryRate := (s.port p).nextRate } : PortRecord).startExchange .identify 0
            [])
      else (s.setPort p { s.port p with silentWait := false }).sendNext p := by
  unfold State.silentWaitOver
  cases silent : (s.port p).silentWait with
  | false => simp only [Bool.false_eq_true, if_false, if_true]
  | true =>
    rw [if_pos rfl, if_neg Bool.true_eq_false_eq_False, State.modifyPort, PortRecord.sendIdentify_of_silent rfl]
    by_cases sends : (s.port p).state = .establishing ∧ (s.port p).wake = .none ∧ (s.port p).attemptGap = false ∧
      (s.port p).exchange = none
    · rw [if_pos sends, if_pos sends]
      refine State.sendNext_of_not_free ?_
      rw [State.port_setPort_same]
      exact PortRecord.lineFree_eq_false.mpr (.inr (.inl rfl))
    · rw [if_neg sends, if_neg sends]

/-- The idle wait's end: what waits goes first, a label job holds the health IDENTIFY off (log entry 18). -/
theorem State.idleWaitOver_eq :
    s.idleWaitOver p =
      if (s.port p).idleWait = false then s
      else if (s.port p).waiting.isSome then s.setPort p { s.port p with idleWait := false }
      else if p = labelPort ∧ s.label.jobs ≠ [] then s
      else (s.setPort p { s.port p with idleWait := false, healthDue := true }).sendNext p := by
  unfold State.idleWaitOver
  by_cases runs : (s.port p).idleWait = true
  · rw [if_pos runs, if_neg (show ¬(s.port p).idleWait = false by simp [runs])]
    simp only [State.modifyPort, State.port_setPort_same, State.setPort_setPort]
    have again : s.setPort p { s.port p with idleWait := true } = s := by
      rw [← runs]
      exact State.setPort_port
    exact if_congr Iff.rfl rfl (if_congr Iff.rfl again rfl)
  · rw [if_neg runs, if_pos (Bool.eq_false_iff.mpr runs)]

end

end Sys2Proof.Machine
end

section
/-! PROOFS. The statements on the field ports' requests, waits and exchanges. -/
open Sys2Proof Sys2Proof.Machine

/-- Settles O33, from the settings that ENABLE-PORT accepts and the record that DISABLE-PORT leaves. -/
theorem portRequestsAnswer : Obligations.PortRequestsAnswer := by
  unfold Obligations.PortRequestsAnswer
  refine fun s p window limit auto retry => ⟨fun taken => congrArg Host.Outcome.next ?enable,
    fun taken => congrArg Host.Outcome.next ?disable, fun taken => congrArg Host.Outcome.next ?read⟩
  case enable =>
    by_cases bad : limit < 2 ∨ 10 < limit ∨ 1 < auto ∨ 1 < retry
    · rw [if_pos bad]
      exact hostRequest_eq_refusal taken (enablePortAnswer_outOfRange bad)
    rw [if_neg bad]
    have answer := fun t : State => enablePortAnswer_of_inRange (s := t) (p := p) (window := window) bad
    by_cases wrong : (p.val < 6 ∧ (window < 5 ∨ 100 < window)) ∨ (6 ≤ p.val ∧ window ≠ 10)
    · rw [if_pos wrong]
      exact hostRequest_eq_refusal taken ((answer _).trans (if_pos wrong))
    rw [if_neg wrong]
    by_cases running : (s.port p).state = .establishing ∨ (s.port p).state = .up
    · rw [if_pos running]
      exact hostRequest_eq_refusal taken ((answer _).trans ((if_neg wrong).trans (if_pos running)))
    · rw [if_neg running]
      exact hostRequest_eq_okReply_of taken ((answer _).trans ((if_neg wrong).trans (if_neg running))) rfl
  case disable =>
    have answer : ∀ t : State, disablePortAnswer (p.val + 1) t = .ok [] (t.disable p) := fun t => by
      simp only [disablePortAnswer, portOf_val]
    refine (hostRequest_eq_okReply_of taken (answer _) (State.holdRequest_disable _ _ _)).trans ?_
    rw [State.disable_eq]
    dsimp only
    by_cases off : (s.port p).state = .off
    · rw [if_pos off, if_pos off]
    rw [if_neg off, if_neg off]
    by_cases up : (s.port p).state = .up
    · rw [if_neg (not_not.mpr up), if_neg (not_not.mpr up)]
      cases port : portKiln p with
      | some k =>
        rw [State.reportLeftUp_of_kiln port]
        rfl
      | none =>
        rw [State.reportLeftUp_of_device port, apply_ite fun r : Report => [r]]
        rfl
    · rw [if_pos up, if_pos up]
      rfl
  case read =>
    refine hostRequest_eq_okReply_of (work := s) taken (content := (s.port p).octets) ?_ rfl
    simp only [readPortAnswer, portOf_val]
    rfl

/-- Settles O34, wait by wait. -/
theorem portWaitsRunOut : Obligations.PortWaitsRunOut := by
  unfold Obligations.PortWaitsRunOut
  intro s p on
  have on {f : State → State} : s.whenOn f = f s := State.whenOn_on s (beq_iff_eq.mp on)
  refine ⟨congrArg Host.Outcome.next (on.trans ?pulse), congrArg Host.Outcome.next (on.trans ?wait),
    congrArg Host.Outcome.next (on.trans ?gap), congrArg Host.Outcome.next (on.trans ?autoretry),
    congrArg Host.Outcome.next (on.trans ?reestablish), congrArg Host.Outcome.next (on.trans ?silent)⟩
  case pulse => exact State.modifyPort_eq_ite (PortRecord.endWakePulse_eq _)
  case wait =>
    refine State.modifyPort_eq_ite ((PortRecord.endWakeWait_eq _).trans ?_)
    rw [PortRecord.sendIdentify_awake]
    rfl
  case gap => exact State.modifyPort_eq_ite rfl
  case autoretry => exact State.modifyPort_eq_ite rfl
  case reestablish => exact State.modifyPort_eq_ite rfl
  case silent => exact State.silentWaitOver_eq

/-- Settles O35, from a free line's choice of the exchange to send. -/
theorem fieldExchangesFallDueAndAreSent : Obligations.FieldExchangesFallDueAndAreSent := by
  unfold Obligations.FieldExchangesFallDueAndAreSent
  refine ⟨fun s p w => ⟨?sends, State.askPort_eq w⟩, fun s k p on => ?due⟩
  case sends =>
    dsimp only
    by_cases free : (s.port p).lineFree = true
    · rw [if_neg (PortRecord.lineFree_eq_false.not.mp (not_not.mpr free))]
      cases port : portKiln p with
      | some k =>
        rw [State.sendNext_of_kiln free port, PortRecord.sendOnKilnPort_cases (s.setPort p), State.setPort_port]
        rfl
      | none =>
        rw [State.sendNext_of_device free port, PortRecord.sendOnDevicePort_cases (s.setPort p), State.setPort_port]
        rfl
    · rw [if_pos (PortRecord.lineFree_eq_false.mp free)]
      exact State.sendNext_of_not_free free
  case due =>
    have on {f : State → State} : s.whenOn f = f s := State.whenOn_on s (beq_iff_eq.mp on)
    refine ⟨congrArg Host.Outcome.next (on.trans ?controller), congrArg Host.Outcome.next (on.trans ?idle)⟩
    case controller =>
      unfold State.controllerIntervalOver
      split
      next found => exact (if_neg (by simp [found])).symm
      next found => exact (if_pos found).symm
    case idle => exact State.idleWaitOver_eq

end

section
/-! PROOFS. The ends of exchanges that reach a kiln, an establishment or a faulted line. -/
namespace Sys2Proof.Machine

section
variable {s : State} {p : PortNo} {k : KilnNo} {e : Exchange}

theorem portKiln_kilnPort (k : KilnNo) : portKiln (kilnPort k) = some k := dif_pos k.isLt

/-! ### What a block's work leaves of a port's record (R86, R97) -/

section
variable (s p)

/-- The record of one port, but for what waits and is in flight there, read from those of all. -/
theorem State.port_standing_eq_getElem : (s.port p).standing = (s.ports.map PortRecord.standing)[p.val] := by
  rw [Vector.getElem_map, State.port, Vector.get_eq_getElem]

theorem State.modifyPort_standings {f : PortRecord → PortRecord}
    (keeps : (f (s.port p)).standing = (s.port p).standing) :
    (s.modifyPort p f).ports.map PortRecord.standing = s.ports.map PortRecord.standing := by
  rw [State.modifyPort, State.setPort, Vector.map_set, keeps, State.port_standing_eq_getElem, Vector.set_getElem_self]

@[simp] theorem State.withdraw_standings (address : Nat) :
    (s.withdraw p address).ports.map PortRecord.standing = s.ports.map PortRecord.standing :=
  s.modifyPort_standings p rfl

@[simp] theorem State.sendNext_standings :
    (s.sendNext p).ports.map PortRecord.standing = s.ports.map PortRecord.standing := by
  unfold State.sendNext
  split
  next free =>
    split
    · exact s.modifyPort_standings p (PortRecord.sendOnKilnPort_served free _).standing
    · exact s.modifyPort_standings p (PortRecord.sendOnDevicePort_served free).standing
  · rfl

@[simp] theorem State.askPort_standings (w : WaitingExchange) :
    (s.askPort p w).ports.map PortRecord.standing = s.ports.map PortRecord.standing := by
  unfold State.askPort
  split
  · rw [State.sendNext_standings]
    exact s.modifyPort_standings p rfl
  · rfl
  · rfl

@[simp] theorem State.dropPlanned_standings (k : KilnNo) (address : Nat) :
    (s.dropPlanned k address).ports.map PortRecord.standing = s.ports.map PortRecord.standing := by
  unfold State.dropPlanned
  (repeat' split) <;> simp

theorem State.probeOutcome_standings (k : KilnNo) (address : Nat) (command : ProbeCommand) (outcome : ExchangeOutcome)
    (data : List Octet) :
    (s.probeOutcome k address command outcome data).ports.map PortRecord.standing =
      s.ports.map PortRecord.standing := by
  have resolved (t : State) (serial : Nat) :
      (t.resolveIdentity k address serial).ports.map PortRecord.standing = t.ports.map PortRecord.standing := by
    unfold State.resolveIdentity State.leaveOldPlace
    (repeat' split) <;> simp
  unfold State.probeOutcome State.handleProbeOutcome State.goodProbeOutcome
  dsimp only
  (repeat' split) <;> simp [resolved]

@[simp] theorem State.startCurrent_standings :
    s.startCurrent.ports.map PortRecord.standing = s.ports.map PortRecord.standing := by
  unfold State.startCurrent State.askPrint
  (repeat' split) <;> simp

theorem State.labelOutcome_standings (isStatus : Bool) (outcome : ExchangeOutcome) (reply : StationReply) :
    (s.labelOutcome isStatus outcome reply).ports.map PortRecord.standing = s.ports.map PortRecord.standing := by
  unfold State.labelOutcome State.statusOutcome
  dsimp only
  (repeat' split) <;> simp [State.confirmLabel, State.faultLabel]

theorem State.handOutcome_standing (e : Exchange) (outcome : ExchangeOutcome) (reply : StationReply) :
    ((s.handOutcome p e outcome reply).port p).standing = (s.port p).standing := by
  suffices (s.handOutcome p e outcome reply).ports.map PortRecord.standing = s.ports.map PortRecord.standing by
    simp only [State.port_standing_eq_getElem, this]
  unfold State.handOutcome
  (repeat' split) <;> simp [State.probeOutcome_standings, State.labelOutcome_standings]

end

/-! ### Failed SETPOINTs -/

theorem State.setpointOutcome_of_failed {outcome : ExchangeOutcome} (failed : outcome ≠ .good) (reply : StationReply) :
    s.setpointOutcome k outcome reply = s := by
  cases outcome
  case good => exact absurd rfl failed
  all_goals rfl

theorem State.handOutcome_of_setpoint (port : portKiln p = some k) (command : e.command = .setpoint)
    (outcome : ExchangeOutcome) (reply : StationReply) :
    s.handOutcome p e outcome reply = s.setpointOutcome k outcome reply := by
  simp only [State.handOutcome, port, command]

theorem State.endExchange_of_failedSetpoint (port : portKiln p = some k) (flying : (s.port p).exchange = some e)
    (up : (s.port p).state = .up) (command : e.command = .setpoint) (station : e.address = 0)
    {outcome : ExchangeOutcome} (failed : outcome ≠ .good) (reply : StationReply) :
    s.endExchange p outcome reply = (s.closeExchange p outcome).stationFailed p := by
  rw [State.endExchange_of_up flying up, State.handOutcome_of_setpoint port command,
    State.setpointOutcome_of_failed failed, State.applyInUp, if_neg (not_not.mpr station), if_neg failed]

/-- The failure count after a failed SETPOINT, and what the limit brings. -/
theorem State.stationFailed_closed (port : portKiln p = some k) (up : (s.port p).state = .up) (outcome : ExchangeOutcome) :
    (s.closeExchange p outcome).stationFailed p =
      let r := s.port p
      let closed :=
        { r with exchange := none, silentWait := true, idleWait := false, counters := r.counters.count outcome,
                 failureCount := r.failureCount + 1 }
      if r.failureCount + 1 < r.failureLimit then s.setPort p closed
      else
        ({ s with reports := s.reports ++ [Report.controllerLost k, .probePortLeftUp k] }.setKiln k
          { s.kiln k with dryValid := false, wetValid := false }).setPort p
          { closed with
            state := .establishing, failureCount := 0, attempt := some 1, wake := .pulse, nextRate := .r230,
            attemptGap := false, autoretryWait := false, reestablishWait := false, rate := none,
            controllerInterval := none, healthDue := false, setpointDue := false, sweepQueue := [],
            waiting := none } := by
  have record := s.port_setPort_same p
    { s.port p with
      exchange := none, silentWait := true, counters := (s.port p).counters.count outcome,
      idleWait := (portKiln p).isNone }
  rw [State.closeExchange_of_up up]
  dsimp only
  by_cases below : (s.port p).failureCount + 1 < (s.port p).failureLimit
  · rw [if_pos below, State.stationFailed_of_below (by rwa [record]), record, State.setPort_setPort, port]
    rfl
  · rw [if_neg below, State.stationFailed_of_limit (by rwa [record]), record, State.setPort_setPort,
      State.reportLeftUp_of_kiln port]
    rfl

/-! ### An establishment's IDENTIFY -/

theorem State.closeExchange_of_establishing (establishing : (s.port p).state = .establishing)
    (outcome : ExchangeOutcome) :
    s.closeExchange p outcome =
      s.setPort p
        { s.port p with
          exchange := none, silentWait := true, idleWait := false, counters := (s.port p).counters.count outcome } := by
  have idle : ((portKiln p).isNone && (s.port p).state == .up) = false := by simp [establishing]
  rw [State.closeExchange, State.modifyPort, PortRecord.closeExchange, idle]

/-- The port's own IDENTIFYs have no block. -/
theorem State.handOutcome_of_identify (command : e.command = .identify) (station : e.address = 0)
    (outcome : ExchangeOutcome) (reply : StationReply) : s.handOutcome p e outcome reply = s := by
  simp only [State.handOutcome, command, station]
  cases portKiln p <;> rfl

section
variable (flying : (s.port p).exchange = some e) (establishing : (s.port p).state = .establishing)
  (command : e.command = .identify) (station : e.address = 0)
include flying establishing command station

theorem State.endExchange_of_establishing (outcome : ExchangeOutcome) (reply : StationReply) :
    s.endExchange p outcome reply =
      (s.setPort p
        { s.port p with
          exchange := none, silentWait := true, idleWait := false,
          counters := (s.port p).counters.count outcome }).applyInEstablishing p outcome reply := by
  simp only [State.endExchange, flying, State.handOutcome_of_identify command station, State.applyOutcome,
    State.closeExchange_of_establishing establishing, State.port_setPort_same, establishing]

end

theorem State.applyInEstablishing_of_failed {outcome : ExchangeOutcome} (failed : outcome ≠ .good)
    (reply : StationReply) : s.applyInEstablishing p outcome reply = s.identifyFailed p := by
  cases outcome
  case good => exact absurd rfl failed
  all_goals rfl

/-- The next rate, the gap before the next attempt, or DOWN after the fourth. -/
theorem State.identifyFailed_setPort (q : PortRecord) :
    (s.setPort p q).identifyFailed p =
      if q.tryRate = .r230 then s.setPort p { q with nextRate := .r57 }
      else if q.tryRate = .r57 then s.setPort p { q with nextRate := .r19 }
      else if q.attempt.getD 1 < 4 then s.setPort p { q with attemptGap := true }
      else
        (s.setPort p
          { q with
            state := .down, attempt := none, exchange := none, wake := .none, attemptGap := false,
            reestablishWait := q.autoReestablish }).postPortDown p := by
  unfold State.identifyFailed
  rw [State.port_setPort_same]
  cases rate : q.tryRate <;>
    simp only [rate, FieldRate.next, State.modifyPort, State.port_setPort_same, State.setPort_setPort, if_true, reduceCtorEq,
      if_false, State.enterDown]

theorem State.enterUp_setPort (q : PortRecord) (identity : Identity) :
    (s.setPort p q).enterUp p identity =
      { s with
        reports := s.reports ++
          match portKiln p with
          | some k => [Report.kilnPortUp k, .probePortUp k]
          | none => if p.val = 7 then [Report.labelPortUp] else [] }.setPort p
        (q.enterUp identity ((portKiln p).map s.controllerIntervalOf)) := by
  have label : p = labelPort ↔ p.val = 7 := Fin.ext_iff
  cases port : portKiln p with
  | some k =>
    simp only [State.enterUp, port, State.modifyPort, State.port_setPort_same, State.setPort_setPort, State.report,
      State.setPort_reports, List.append_assoc]
    rfl
  | none =>
    simp only [State.enterUp, port, State.modifyPort, State.port_setPort_same, State.setPort_setPort, State.report, label]
    split_ifs
    · rfl
    · rw [List.append_nil]
      rfl

/-! ### A line fault -/

theorem State.takeLineFault_of_still (still : (s.port p).driving = false) : s.takeLineFault p = s := by
  simp only [State.takeLineFault, still, Bool.false_eq_true, if_false]

theorem PortRecord.driving_of_pulse {r : PortRecord} (pulse : r.wake = .pulse) : r.driving = true := by
  simp [PortRecord.driving, pulse]

theorem PortRecord.driving_of_sending {r : PortRecord} (flying : r.exchange = some e) (sending : e.phase = .sending) :
    r.driving = true := by
  simp [PortRecord.driving, flying, sending]

theorem State.takeLineFault_of_establishing (driving : (s.port p).driving = true)
    (establishing : (s.port p).state = .establishing) : s.takeLineFault p = (s.faultExchange p).enterFaulted p := by
  simp only [State.takeLineFault, driving, establishing, if_true]
  rfl

theorem State.takeLineFault_of_up (driving : (s.port p).driving = true) (up : (s.port p).state = .up) :
    s.takeLineFault p = (((s.faultExchange p).modifyPort p PortRecord.clearUp).enterFaulted p).reportLeftUp p := by
  simp only [State.takeLineFault, driving, up, if_true, beq_self_eq_true]

/-- The record after a line fault: LINE_FAULT, or DOWN when the count stands at the fifth. -/
def PortRecord.faultedTo (q : PortRecord) (count : Nat) : PortRecord :=
  if count = 5 then
    { q.faulted with state := .down, autoretryWait := false, reestablishWait := q.autoReestablish }
  else q.faulted

/-- PORT_DOWN is posted at the fifth line fault only. -/
def State.postFifth (s : State) (p : PortNo) (count : Nat) : State := if count = 5 then s.postPortDown p else s

theorem State.enterFaulted_setPort (q : PortRecord) :
    (s.setPort p q).enterFaulted p =
      (s.setPort p (q.faultedTo (min 5 (q.lineFaultCount + 1)))).postFifth p (min 5 (q.lineFaultCount + 1)) := by
  have count : q.faulted.lineFaultCount = min 5 (q.lineFaultCount + 1) := rfl
  simp only [State.enterFaulted, State.modifyPort, State.port_setPort_same, State.setPort_setPort, count,
    State.enterDown, PortRecord.faultedTo, State.postFifth]
  split_ifs <;> rfl

end

end Sys2Proof.Machine
end

section
/-! PROOFS. The statements on failed and GOOD SETPOINTs, establishment and line faults. -/
open Sys2Proof Sys2Proof.Machine

/-- Settles O37, from the three ends of a SETPOINT without a GOOD reply. -/
theorem failedSetpointsRaiseTheFailureCount : Obligations.FailedSetpointsRaiseTheFailureCount := by
  unfold Obligations.FailedSetpointsRaiseTheFailureCount
  intro s k octet n on
  dsimp only
  intro e flying up command station phase
  have ended {outcome : ExchangeOutcome} (failed : outcome ≠ .good) :=
    (State.endExchange_of_failedSetpoint (portKiln_kilnPort k) flying up command station failed noReplyData).trans
      (State.stationFailed_closed (portKiln_kilnPort k) up outcome)
  have receiving (window : e.phase ≠ .window ∧ e.phase ≠ .sending) : ∃ octets, e.phase = .receiving octets := by
    cases at_phase : e.phase with
    | sending => exact absurd at_phase window.2
    | window => exact absurd at_phase window.1
    | receiving octets => exact ⟨octets, rfl⟩
  match n with
  | 0 =>
    rw [if_pos rfl, exec_replyWindowExpiry_of_isOn on, State.windowOver_of_exchange flying, if_pos (show e.phase = .window from phase)]
    exact congrArg Host.Outcome.next (ended nofun)
  | 1 =>
    obtain ⟨octets, receiving⟩ := receiving phase
    rw [if_neg one_ne_zero, if_pos rfl, exec_fieldOctetSilence_of_isOn on, (State.reception_of_receiving flying receiving octet true).1]
    exact congrArg Host.Outcome.next (ended nofun)
  | 2 =>
    obtain ⟨octets, receiving⟩ := receiving phase
    rw [if_neg (by decide), if_neg (by decide), exec_fieldOctetReceived_of_isOn on, (State.reception_of_receiving flying receiving octet true).2, State.receiveReplyOctet, if_pos rfl]
    exact congrArg Host.Outcome.next (ended nofun)

/-- Settles O39, from the establishment's third step on the closed record. -/
theorem establishmentEndsUpOrDown : Obligations.EstablishmentEndsUpOrDown := by
  unfold Obligations.EstablishmentEndsUpOrDown
  intro s p outcome kind serial version on
  dsimp only
  intro kindBound serialBound versionBound e flying establishing command station
  rw [State.endExchange_of_establishing flying establishing command station]
  by_cases good : outcome = .good
  · subst good
    rw [if_pos rfl, if_pos rfl]
    simp only [State.applyInEstablishing, identityOf_octets kindBound serialBound versionBound, State.enterUp_setPort]
    cases portKiln p <;> rfl
  · rw [if_neg good, if_neg good, State.applyInEstablishing_of_failed good, State.identifyFailed_setPort]

/-- Settles O40, from the record that a line fault leaves and what ends before it: nothing, an IDENTIFY of the
establishment, or in UP an exchange that its block takes. -/
theorem lineFaultsStopThePort : Obligations.LineFaultsStopThePort := by
  unfold Obligations.LineFaultsStopThePort
  intro s p on r count fault posted
  have on {f : State → State} : s.whenOn f = f s := State.whenOn_on s (beq_iff_eq.mp on)
  -- The settings and the fault count are those the port had, whatever ended before the fault.
  have faulted (t : State) (q : PortRecord) (counts : q.lineFaultCount = r.lineFaultCount)
      (retries : q.autoretry = r.autoretry) (again : q.autoReestablish = r.autoReestablish) :
      (t.setPort p q).enterFaulted p = posted (t.setPort p (fault q)) := by
    rw [State.enterFaulted_setPort, counts]
    simp only [posted, fault, PortRecord.faultedTo, State.postFifth, PortRecord.faulted, retries, again, counts]
    split_ifs <;> rfl
  have losing (t : State) : t.reportLeftUp p =
      match portKiln p with
      | some k =>
        { t with reports := t.reports ++ [Report.controllerLost k, .probePortLeftUp k] }.setKiln k
          { t.kiln k with dryValid := false, wetValid := false }
      | none => { t with reports := t.reports ++ [if p.val = 6 then Report.meterPortLeftUp else .labelPortLeftUp] } := by
    cases port : portKiln p with
    | some k => exact State.reportLeftUp_of_kiln port
    | none => exact State.reportLeftUp_of_device port
  refine ⟨fun still => congrArg Host.Outcome.next (on.trans (State.takeLineFault_of_still still)),
    fun pulse establishing idle => congrArg Host.Outcome.next (on.trans ?pulse),
    fun e flying establishing sending command station => congrArg Host.Outcome.next (on.trans ?identify),
    fun e flying up sending => ?exchange,
    fun e flying up sending command k port => congrArg Host.Outcome.next (on.trans ?setpoint)⟩
  case pulse =>
    have whole : s = s.setPort p r := State.setPort_port.symm
    have still : s.faultExchange p = s.setPort p r := by rw [State.faultExchange, idle, ← whole]
    rw [State.takeLineFault_of_establishing (PortRecord.driving_of_pulse pulse) establishing, still, faulted s r rfl rfl rfl]
  case identify =>
    rw [State.takeLineFault_of_establishing (PortRecord.driving_of_sending flying sending) establishing,
      State.faultExchange, flying]
    dsimp only
    rw [State.handOutcome_of_identify command station, State.closeExchange_of_establishing establishing]
    exact faulted s _ rfl rfl rfl
  case exchange =>
    intro closed handed lost
    refine congrArg Host.Outcome.next (on.trans ?_)
    have closing : closed = s.closeExchange p .framing := (State.closeExchange_of_up up .framing).symm
    have handing : handed = closed.handOutcome p e .framing noReplyData := by
      simp only [handed, State.handOutcome]
      cases portKiln p <;> cases e.command <;> rfl
    have standing : (handed.port p).standing = (closed.port p).standing := by
      rw [handing, State.handOutcome_standing]
    have fault_closed : s.faultExchange p = handed := by
      rw [handing, closing, State.faultExchange, flying]
    have record : closed.port p = _ := s.port_setPort_same p _
    rw [record] at standing
    rw [State.takeLineFault_of_up (PortRecord.driving_of_sending flying sending) up, fault_closed, State.modifyPort,
      faulted handed (handed.port p).clearUp (congrArg PortRecord.lineFaultCount standing :) (congrArg PortRecord.autoretry standing :)
        (congrArg PortRecord.autoReestablish standing :), losing]
    rfl
  case setpoint =>
    rw [State.takeLineFault_of_up (PortRecord.driving_of_sending flying sending) up, State.faultExchange, flying]
    dsimp only
    rw [State.handOutcome_of_setpoint port command, State.setpointOutcome_of_failed (outcome := .framing) nofun, State.closeExchange_of_up up,
      State.modifyPort, State.port_setPort_same, State.setPort_setPort]
    rw [faulted, State.reportLeftUp_of_kiln port]
    · simp only [posted]
      split_ifs <;> rfl
    all_goals rfl

end

section
/-! PROOFS. A GOOD SETPOINT reply: what the kiln supervisor does of it leaves the ports, and goes on from the record with
its readbacks. -/
namespace Sys2Proof.Machine

section
variable {s : State} {k : KilnNo}

/-! ### The kiln supervisor's work leaves the ports -/

section
variable (p : PortNo) (q : PortRecord)

theorem State.writeSnapshot_setPort : (s.setPort p q).writeSnapshot k = (s.writeSnapshot k).setPort p q := by
  unfold State.writeSnapshot
  have record : (s.setPort p q).kiln k = s.kiln k := rfl
  rw [record]
  cases (s.kiln k).writesSnapshots with
  | false => rfl
  | true => cases (s.kiln k).charge <;> rfl

theorem State.advanceStep_setPort (overtime : Bool) :
    (s.setPort p q).advanceStep k overtime = (s.advanceStep k overtime).setPort p q := by
  have same : (s.setPort p q).kilnSchedule k = s.kilnSchedule k := rfl
  cases schedule : s.kilnSchedule k with
  | none => simp only [State.advanceStep, same, schedule]
  | some x =>
    by_cases more : (s.kiln k).stepIndex + 1 < x.steps.length
    · rw [State.advanceStep_of_more schedule more, State.advanceStep_of_more (s := s.setPort p q) schedule more]
      exact State.writeSnapshot_setPort (s := (s.setKiln k _).postKilnStep k overtime) p q
    · obtain ⟨c, charge⟩ := State.charge_of_kilnSchedule schedule
      rw [State.advanceStep_of_last schedule more, State.advanceStep_of_last (s := s.setPort p q) schedule more,
        State.completeKiln_eq charge, State.completeKiln_eq (s := s.setPort p q) charge]
      refine .trans ?_ (State.writeSnapshot_setPort p q)
      rfl

theorem State.testDryBulb_setPort : (s.setPort p q).testDryBulb k = (s.testDryBulb k).setPort p q := by
  have step : (s.setPort p q).currentStep k = s.currentStep k := rfl
  have record : (s.setPort p q).kiln k = s.kiln k := rfl
  unfold State.testDryBulb
  rw [step, record]
  cases s.currentStep k with
  | none => rfl
  | some x => exact (apply_ite (State.setPort · p q) _ _ _).trans (by rw [State.advanceStep_setPort]) |>.symm

end

/-! ### The reply taken -/

/-- In RUNNING and HELD the state is that of the hold set. -/
theorem KilnRecord.withHolds_going (r : KilnRecord) (holds : HoldSet) :
    r.withHolds holds =
      { r with
        holds := holds
        state := if r.state = .running ∨ r.state = .held then if holds.isEmpty then .running else .held else r.state } := by
  unfold KilnRecord.withHolds
  cases state : r.state <;> rfl

/-- The kiln record with the readbacks and the status of a reply. -/
def KilnRecord.readBack (r : KilnRecord) (dry wet : Int) (status : ControllerStatus) : KilnRecord :=
  { r with dryReadback := dry, dryValid := true, wetReadback := wet, wetValid := true, status := status }

/-- The hold set follows the flags in every state but EMPTY, and a change of it writes a snapshot. -/
def State.learnReply (s : State) (k : KilnNo) (dry wet : Int) (status : ControllerStatus) : State :=
  let read := (s.kiln k).readBack dry wet status
  if (s.kiln k).state = .empty then s.setKiln k read
  else if (s.kiln k).holds.agree status = (s.kiln k).holds then s.setKiln k read
  else (s.setKiln k (read.withHolds ((s.kiln k).holds.agree status))).writeSnapshot k

theorem State.takeControllerReply_eq (dry wet : Int) (status : ControllerStatus) :
    s.takeControllerReply k dry wet status =
      if ((s.learnReply k dry wet status).kiln k).state = .running then (s.learnReply k dry wet status).testDryBulb k
      else s.learnReply k dry wet status := by
  have record : ((s.setKiln k ((s.kiln k).readBack dry wet status)).kiln k) = (s.kiln k).readBack dry wet status :=
    (s.kiln_setKiln k k _).trans (if_pos rfl)
  have learned : s.learnReply k dry wet status =
      if (s.kiln k).state = .empty then s.setKiln k ((s.kiln k).readBack dry wet status)
      else (s.setKiln k ((s.kiln k).readBack dry wet status)).setHolds k ((s.kiln k).holds.agree status) := by
    unfold State.learnReply
    dsimp only
    refine if_congr Iff.rfl rfl ?_
    unfold State.setHolds
    rw [record, State.modifyKiln_eq, record, State.setKiln_setKiln]
    exact if_congr eq_comm rfl rfl
  have taken : s.takeControllerReply k dry wet status =
      let read := s.setKiln k ((s.kiln k).readBack dry wet status)
      let t := if (read.kiln k).state = .empty then read else read.setHolds k ((read.kiln k).holds.agree status)
      if (t.kiln k).state = .running then t.testDryBulb k else t := rfl
  dsimp only at taken
  rw [taken, learned, record]
  rfl

theorem State.learnReply_kiln (dry wet : Int) (status : ControllerStatus) :
    ∃ holds state, (s.learnReply k dry wet status).kiln k =
      { (s.kiln k).readBack dry wet status with holds := holds, state := state } := by
  unfold State.learnReply
  dsimp only
  split_ifs
  · exact ⟨_, _, (s.kiln_setKiln k k _).trans (if_pos rfl)⟩
  · exact ⟨_, _, (s.kiln_setKiln k k _).trans (if_pos rfl)⟩
  · refine ⟨_, _, (State.writeSnapshot_kiln k k).trans ((s.kiln_setKiln k k _).trans (if_pos rfl))⟩

theorem State.learnReply_currentStep (dry wet : Int) (status : ControllerStatus) :
    (s.learnReply k dry wet status).currentStep k = s.currentStep k := by
  have schedule : (s.learnReply k dry wet status).schedule = s.schedule := by
    funext id
    unfold State.learnReply
    dsimp only
    split_ifs <;> simp [State.schedule]
  obtain ⟨holds, state, record⟩ := s.learnReply_kiln (k := k) dry wet status
  simp only [State.currentStep, State.kilnSchedule, record, schedule]
  rfl

/-- The data of a SETPOINT reply: two temperatures and the flags (R199). -/
theorem State.setpointOutcome_of_data {dry wet : Int} (dryFits : isI16 dry = true) (wetFits : isI16 wet = true)
    (door localControl alarm : Bool) (status : Octet) :
    s.setpointOutcome k .good { status := status, data := i16 dry ++ i16 wet ++ setOf [door, localControl, alarm] } =
      s.takeControllerReply k dry wet ⟨door, localControl, alarm⟩ := by
  have flags : ∃ f : Octet, setOf [door, localControl, alarm] = [f] ∧ f.getLsbD 0 = door ∧ f.getLsbD 1 = localControl ∧
      f.getLsbD 2 = alarm := by
    refine ⟨_, rfl, ?_⟩
    cases door <;> cases localControl <;> cases alarm <;> decide
  obtain ⟨f, spelt, door_bit, local_bit, alarm_bit⟩ := flags
  have taken : s.setpointOutcome k .good { status := status, data := i16 dry ++ i16 wet ++ [f] } =
      s.takeControllerReply k (int16 (BitVec.ofNat 8 ((dry % 65536).toNat / 256)) (BitVec.ofNat 8 (dry % 65536).toNat))
        (int16 (BitVec.ofNat 8 ((wet % 65536).toNat / 256)) (BitVec.ofNat 8 (wet % 65536).toNat))
        ⟨f.getLsbD 0, f.getLsbD 1, f.getLsbD 2⟩ := rfl
  rw [spelt, taken, int16_octets dryFits, int16_octets wetFits, door_bit, local_bit, alarm_bit]

theorem State.takeControllerReply_setPort (p : PortNo) (q : PortRecord) (dry wet : Int) (status : ControllerStatus) :
    (s.setPort p q).takeControllerReply k dry wet status = (s.takeControllerReply k dry wet status).setPort p q := by
  have learned : (s.setPort p q).learnReply k dry wet status = (s.learnReply k dry wet status).setPort p q := by
    unfold State.learnReply
    simp only [apply_ite (State.setPort · p q), ← State.writeSnapshot_setPort]
    rfl
  rw [State.takeControllerReply_eq, State.takeControllerReply_eq, learned, State.testDryBulb_setPort,
    apply_ite (State.setPort · p q)]
  rfl

end

end Sys2Proof.Machine
end

section
/-! PROOFS. The statement on GOOD SETPOINTs. -/
open Sys2Proof Sys2Proof.Machine

/-- Settles O38: the blocks' work leaves the port's record, so the record that the exchange leaves may stand before it. -/
theorem goodSetpointsReachTheKiln : Obligations.GoodSetpointsReachTheKiln := by
  unfold Obligations.GoodSetpointsReachTheKiln
  intro s k dry wet door localControl alarm p q r data holds read held bounds e flying up command station closed known
  have port : portKiln p = some k := portKiln_kilnPort k
  have ended : s.endExchange p .good { status := 0, data := data } =
      (s.setPort p closed).takeControllerReply k dry wet ⟨door, localControl, alarm⟩ := by
    have dryFits : isI16 dry = true := by rw [isI16, decide_eq_true_eq]; omega
    have wetFits : isI16 wet = true := by rw [isI16, decide_eq_true_eq]; omega
    rw [State.endExchange_of_up flying up, State.closeExchange_of_up up, State.handOutcome_of_setpoint port command,
      State.setpointOutcome_of_data dryFits wetFits, State.applyInUp, if_neg (not_not.mpr station), if_pos rfl,
      State.takeControllerReply_setPort, State.takeControllerReply_setPort, State.modifyPort, State.port_setPort_same,
      State.setPort_setPort, PortRecord.stationGood_eq, port, if_neg (by simp [command])]
    rfl
  have learned : (s.setPort p closed).learnReply k dry wet ⟨door, localControl, alarm⟩ = known := by
    have heldRecord : (r.readBack dry wet ⟨door, localControl, alarm⟩).withHolds holds = held :=
      KilnRecord.withHolds_going _ _
    exact if_congr Iff.rfl rfl (if_congr Iff.rfl rfl (by rw [← heldRecord]; rfl))
  obtain ⟨_, _, record⟩ := State.learnReply_kiln (s := s.setPort p closed) (k := k) dry wet ⟨door, localControl, alarm⟩
  have step := State.learnReply_currentStep (s := s.setPort p closed) (k := k) dry wet ⟨door, localControl, alarm⟩
  rw [learned] at record step
  rw [ended, State.takeControllerReply_eq, learned, State.testDryBulb, step, record]
  rfl

end

section
/-! PROOFS. FORGET-PROBE of an entry at address 0: the counterexample to the statement on the probe tables' requests. -/
namespace Sys2Proof.Machine

/-- An entry at address 0, the station's own, which no exchange of a sweep is to (R107, R110). -/
def stationEntry : PresenceEntry :=
  { serial := 5, port := 0, address := 0, state := .active, role := some .monitor, source := some .learned,
    missCount := 0, lastClass := none, lastL := none, lastMc := none, lastFlags := .none, smoothed := none,
    suspectCount := 0 }

/-- Kiln 1 sweeping with an exchange to address 0 outstanding, while the port's own IDENTIFY to station 0 is in flight. -/
def stationSweeping : State :=
  (({ State.reset with presence := [stationEntry] } : State).setSweep 0
    { State.reset.sweep 0 with kind := some .regular, outstanding := [(0, .identify), (1, .read)] }).setPort 0
    { State.reset.port 0 with
      exchange := some { command := .identify, address := 0, request := [], phase := .sending } }

/-- Kiln 1's discard mark after a command. -/
def discardAfter : Host.Outcome State Fault Refusal → Option (Option (Nat × ProbeCommand))
  | .next t => some (t.sweep 0).discard
  | _ => none

/-- The port's own IDENTIFY is no sweep exchange in flight, so no mark is set. -/
theorem discardAfter_forgetProbe : discardAfter (exec (.forgetProbe 5) stationSweeping) = some none := by decide +kernel

end Sys2Proof.Machine
end

section
/-! PROOFS. The statement on the probe tables' requests. -/
open Sys2Proof Sys2Proof.Machine

/-- Refutes O41: the statement takes any exchange in flight to the forgotten entry's address for the planned one, which at
address 0, left open by the statement, is the port's own IDENTIFY to station 0. It then marks (0, IDENTIFY) for discard,
where R116's sweep exchanges, which are never to station 0, leave the mark absent. -/
theorem not_probeTableRequestsAnswer : ¬Obligations.ProbeTableRequestsAnswer := by
  unfold Obligations.ProbeTableRequestsAnswer
  rintro ⟨-, forget⟩
  have taken : stationSweeping.takes (.forgetProbe 5) = true := by decide +kernel
  have found : stationSweeping.presenceOf 5 = some stationEntry := by decide +kernel
  have stated := congrArg discardAfter (((forget stationSweeping 0 5).2 taken).2 stationEntry found)
  rw [discardAfter_forgetProbe] at stated
  exact absurd stated (by decide +kernel)

end

section
/-! PROOFS. Sweeps begun by SWEEP-NOW and by their interval, and the reports of the ports to the probe unit. -/
namespace Sys2Proof.Machine

section
variable {s : State} {k : KilnNo}

theorem State.sweep_setSweep_same (r : SweepRecord) : (s.setSweep k r).sweep k = r :=
  (s.sweep_setSweep k k r).trans (if_pos rfl)

theorem State.setSweep_sweep : s.setSweep k (s.sweep k) = s := by
  have same : s.sweeps.set k.val (s.sweep k) k.isLt = s.sweeps := Vector.set_getElem_self _
  rw [State.setSweep, same]

theorem PortRecord.acceptsPlan_iff {r : PortRecord} : r.acceptsPlan = true ↔ r.state = .up ∧ r.sweepQueue = [] := by
  simp [PortRecord.acceptsPlan]

/-- A sweep planned, in the three ends that the plan and the port give it. -/
theorem State.planSweep_eq :
    s.planSweep k =
      let planned := s.setSweep k
        { s.sweep k with
          kind := some (s.planDiscovery k).1, outstanding := s.sweepPlan k, fullScan := false,
          cursor := (s.planDiscovery k).2.2 }
      if s.sweepPlan k = [] then planned.completeSweep k
      else if (s.port (kilnPort k)).state = .up ∧ (s.port (kilnPort k)).sweepQueue = [] then
        (planned.setPort (kilnPort k) { s.port (kilnPort k) with sweepQueue := s.sweepPlan k }).sendNext (kilnPort k)
      else s.setSweep k { s.sweep k with cursor := (s.planDiscovery k).2.2 } := by
  unfold State.planSweep
  dsimp only
  by_cases empty : s.sweepPlan k = []
  · rw [if_pos (List.isEmpty_iff.mpr empty), if_pos empty, empty]
    rfl
  · rw [if_neg (List.isEmpty_iff.not.mpr empty), if_neg empty]
    exact if_congr PortRecord.acceptsPlan_iff rfl rfl

theorem State.chooseFullScan_eq (full : Bool) :
    s.chooseFullScan k full = s.setSweep k { s.sweep k with fullScan := (s.sweep k).fullScan || full } := by
  unfold State.chooseFullScan
  cases full with
  | true => rw [if_pos rfl, Bool.or_true]; rfl
  | false => rw [if_neg Bool.false_ne_true, Bool.or_false]; exact State.setSweep_sweep.symm

/-! ### The probe unit's work through the link -/

section
variable (kind : Octet) (request : Option Instr) (answered : Bool)

theorem State.holdRequest_sendNext (p : PortNo) :
    (s.holdRequest kind request answered).sendNext p = (s.sendNext p).holdRequest kind request answered :=
  State.sendNext_modifyLineLink s id
    (fun l => { l with buffer := some { kind := kind, request := request, answered := answered } }) p

theorem State.holdRequest_storeSweep (x : SweepResult) :
    (s.holdRequest kind request answered).storeSweep k x = (s.storeSweep k x).holdRequest kind request answered := by
  simp only [State.storeSweep, State.holdRequest_kiln, apply_ite (State.holdRequest · kind request answered)]
  rfl

theorem State.holdRequest_testMoisture :
    (s.holdRequest kind request answered).testMoisture k = (s.testMoisture k).holdRequest kind request answered := by
  have step : (s.holdRequest kind request answered).currentStep k = s.currentStep k := rfl
  rw [State.testMoisture_eq, State.testMoisture_eq, step, State.holdRequest_kiln, State.holdRequest_advanceStep]
  cases s.currentStep k with
  | none => rfl
  | some x => exact (apply_ite (State.holdRequest · kind request answered) _ _ _).symm

theorem State.holdRequest_takeSweepResult (x : SweepResult) :
    (s.holdRequest kind request answered).takeSweepResult k x =
      (s.takeSweepResult k x).holdRequest kind request answered := by
  by_cases empty : (s.kiln k).state = .empty
  · simp only [State.takeSweepResult, State.holdRequest_kiln, empty, if_true]
  · rw [State.takeSweepResult_eq empty, State.takeSweepResult_eq (s := s.holdRequest kind request answered) empty,
      State.holdRequest_storeSweep, State.holdRequest_testMoisture, apply_ite (State.holdRequest · kind request answered)]
    rfl

theorem State.holdRequest_completeSweep :
    (s.holdRequest kind request answered).completeSweep k =
      (s.completeSweep k).holdRequest kind request answered :=
  State.holdRequest_takeSweepResult (s := s.modifySweep k fun r => { r with kind := none }) kind request answered _

theorem State.holdRequest_planSweep :
    (s.holdRequest kind request answered).planSweep k = (s.planSweep k).holdRequest kind request answered := by
  rw [State.planSweep_eq, State.planSweep_eq]
  dsimp only
  rw [apply_ite (State.holdRequest · kind request answered), apply_ite (State.holdRequest · kind request answered),
    ← State.holdRequest_completeSweep, ← State.holdRequest_sendNext]
  rfl

end

theorem State.probePortLeftUp_eq :
    s.probePortLeftUp k =
      s.setSweep k
        (if (s.sweep k).kind.isSome then
          { s.sweep k with
            kind := none, outstanding := [], fullScan := (s.sweep k).fullScan || (s.sweep k).kind == some .full,
            interval := none, discard := none }
        else { s.sweep k with interval := none, discard := none }) := by
  unfold State.probePortLeftUp
  dsimp only
  split_ifs
  · simp only [State.abortSweep, State.modifySweep, State.sweep_setSweep_same, State.setSweep_setSweep]
    rfl
  · rfl

theorem State.sweepDue_iff :
    s.sweepDue k = true ↔ ¬((s.sweep k).kind.isSome ∨ (s.kiln k).state = .empty ∨ (s.kiln k).state = .faultHold) := by
  unfold State.sweepDue
  cases (s.sweep k).kind <;> cases (s.kiln k).state <;> simp

end

end Sys2Proof.Machine
end

section
/-! PROOFS. The statement on the beginning and the abort of sweeps. -/
open Sys2Proof Sys2Proof.Machine

/-- Settles O43, from the three ends that a planned sweep has. -/
theorem sweepsBeginAndAreAborted : Obligations.SweepsBeginAndAreAborted := by
  unfold Obligations.SweepsBeginAndAreAborted
  refine ⟨fun s k choice => ⟨fun taken => congrArg Host.Outcome.next ?now, fun on => ?interval⟩, fun s k on => ?reports⟩
  case now =>
    dsimp only
    by_cases bad : 1 < choice
    · rw [if_pos bad]
      refine hostRequest_eq_refusal taken ?_
      simp only [sweepNowAnswer, kilnOf_succ, flagOf_eq_none (Nat.not_le.mpr bad)]
    rw [if_neg bad]
    have answer : ∀ t : State, sweepNowAnswer (k.val + 1) choice t =
        if (t.kiln k).state = .empty ∨ (t.kiln k).state = .faultHold ∨ (t.port (kilnPort k)).state ≠ .up then
          .refuse .wrongState
        else if (t.sweep k).kind.isSome then .ok (u8 1) (t.chooseFullScan k (choice == 1))
        else .ok (u8 0) ((t.chooseFullScan k (choice == 1)).planSweep k) := fun t => by
      simp only [sweepNowAnswer, kilnOf_succ, flagOf_eq_some (Nat.not_lt.mp bad)]
      rfl
    by_cases wrong : (s.kiln k).state = .empty ∨ (s.kiln k).state = .faultHold ∨ (s.port (kilnPort k)).state ≠ .up
    · rw [if_pos wrong]
      exact hostRequest_eq_refusal taken ((answer _).trans (if_pos wrong))
    rw [if_neg wrong]
    by_cases sweeps : (s.sweep k).kind.isSome = true
    · rw [if_pos sweeps]
      refine hostRequest_eq_okReply_of taken ((answer _).trans ((if_neg wrong).trans (if_pos sweeps))) ?_
      rw [State.chooseFullScan_eq]
      rfl
    · rw [if_neg sweeps]
      refine hostRequest_eq_okReply_of taken ((answer _).trans ((if_neg wrong).trans (if_neg sweeps))) ?_
      rw [State.chooseFullScan_eq]
      refine (State.holdRequest_planSweep (s := s.setSweep k _) _ _ _).trans ?_
      rw [State.planSweep_eq]
      rfl
  case interval =>
    have on {f : State → State} : s.whenOn f = f s := State.whenOn_on s (beq_iff_eq.mp on)
    refine congrArg Host.Outcome.next (on.trans ?_)
    unfold State.sweepIntervalOver
    split
    next x running =>
      rw [if_neg (show ¬(s.sweep k).interval = none by simp [running])]
      have due : (s.modifySweep k fun r => { r with interval := some (s.sweepIntervalOf k) }).sweepDue k = true ↔
          ¬((s.sweep k).kind.isSome ∨ (s.kiln k).state = .empty ∨ (s.kiln k).state = .faultHold) := by
        rw [State.sweepDue_iff, State.modifySweep, State.sweep_setSweep_same]
        rfl
      dsimp only
      by_cases busy : (s.sweep k).kind.isSome ∨ (s.kiln k).state = .empty ∨ (s.kiln k).state = .faultHold
      · rw [if_pos busy, if_neg (due.not.mpr (not_not.mpr busy))]
        rfl
      · rw [if_neg busy, if_pos (due.mpr busy), State.planSweep_eq]
        rfl
    next stopped => exact (if_pos stopped).symm
  case reports =>
    have on {f : State → State} : s.whenOn f = f s := State.whenOn_on s (beq_iff_eq.mp on)
    refine ⟨congrArg Host.Outcome.next (on.trans rfl), congrArg Host.Outcome.next (on.trans (if_congr Iff.rfl ?_ rfl))⟩
    exact State.probePortLeftUp_eq

end

section
/-! PROOFS. Identity resolution: the entries that leave, the entry settled, and what the sweeps, the ports and the notices
show of it. -/
namespace Sys2Proof.Machine

/-! ### Entries by their keys -/

theorem nodup_map_of_sorted {α : Type} {key : α → Nat} {table : List α} (sorted : sortedBy key table = true) :
    (table.map key).Nodup := by
  rw [sortedBy_iff] at sorted
  exact List.pairwise_map.mpr (sorted.imp fun lt => Nat.ne_of_lt lt)

theorem findBy_eq_some_iff {α : Type} {key : α → Nat} {table : List α} (distinct : (table.map key).Nodup) {k : Nat} {x : α} :
    findBy key k table = some x ↔ x ∈ table ∧ key x = k := by
  refine ⟨fun found => (findBy_some key found).symm, fun ⟨member, at_key⟩ => ?_⟩
  obtain ⟨y, found⟩ : ∃ y, findBy key k table = some y :=
    Option.isSome_iff_exists.mp (List.find?_isSome.mpr ⟨x, member, beq_iff_eq.mpr at_key⟩)
  obtain ⟨at_key', member'⟩ := findBy_some key found
  rw [found, List.inj_on_of_nodup_map distinct member' member (at_key'.trans at_key.symm)]

section
variable {s : State} {k : KilnNo} {address serial : Nat} {e : PresenceEntry}

theorem PresenceEntry.place_eq_iff (shaped : e.shape = true) (high : address ≤ 24) :
    e.place = placeOf k address ↔ e.port = k ∧ e.address = address := by
  have range := ((PresenceEntry.shape_iff e).mp shaped).1
  rw [PresenceEntry.place, placeOf, Fin.ext_iff]
  omega

/-- R106: distinct places in order, at most 96 of them, and distinct serials. -/
structure State.PresenceOrdered (s : State) : Prop where
  places : sortedBy PresenceEntry.place s.presence = true
  room : s.presence.length ≤ 96
  serials : (s.presence.map PresenceEntry.serial).Nodup

theorem State.presenceOrdered_of_kept (tables : s.tablesKept) : s.PresenceOrdered := by
  obtain ⟨-, -, -, -, -, -, places, room, serials, -⟩ := tables
  exact ⟨places, room, serials⟩

/-- What identity resolution asks of the presence table: distinct places and serials, and entries in shape. -/
structure State.PresenceSound (s : State) : Prop extends s.PresenceOrdered where
  shaped : ∀ e ∈ s.presence, e.shape = true

theorem State.presenceSound_of_kept (tables : s.tablesKept) (shaped : s.presenceShaped) : s.PresenceSound := by
  exact ⟨State.presenceOrdered_of_kept tables, shaped⟩

section
variable (h : s.PresenceOrdered)
include h

theorem State.PresenceOrdered.presenceOf_iff : s.presenceOf serial = some e ↔ e ∈ s.presence ∧ e.serial = serial :=
  findBy_eq_some_iff h.serials

/-- One entry per place. -/
theorem State.PresenceOrdered.eq_of_place {x : PresenceEntry} (hx : x ∈ s.presence) (he : e ∈ s.presence)
    (same : x.place = e.place) : x = e :=
  List.inj_on_of_nodup_map (nodup_map_of_sorted h.places) hx he same

/-- One entry per serial. -/
theorem State.PresenceOrdered.eq_of_serial {x : PresenceEntry} (hx : x ∈ s.presence) (he : e ∈ s.presence)
    (same : x.serial = e.serial) : x = e :=
  List.inj_on_of_nodup_map h.serials hx he same

end

theorem State.PresenceSound.presenceAt_iff (h : s.PresenceSound) (high : address ≤ 24) :
    s.presenceAt k address = some e ↔ e ∈ s.presence ∧ e.port = k ∧ e.address = address := by
  rw [State.presenceAt, findBy_eq_some_iff (nodup_map_of_sorted h.places)]
  exact and_congr_right fun member => PresenceEntry.place_eq_iff (h.shaped e member) high

/-! ### What a probe's event changes -/

/-- R119: the event joins the kiln's set; from empty, the kiln is posted. -/
theorem State.addProbeEvent_eq (event : ProbeEvent) :
    s.addProbeEvent k event =
      let added := s.setSweep k { s.sweep k with events := (s.sweep k).events.add event }
      if (s.sweep k).events = .empty then
        { added with notices := { s.notices with probeChange := s.notices.probeChange.set k.val true k.isLt } }
      else added := by
  have empty : (s.sweep k).events.isEmpty = true ↔ (s.sweep k).events = .empty := by
    generalize (s.sweep k).events = events
    obtain ⟨new, lost, moved, swapped, full, recovered⟩ := events
    revert new lost moved swapped full recovered
    decide
  exact if_congr empty rfl rfl

theorem State.addProbeEvent_sweep (j : KilnNo) (event : ProbeEvent) :
    (s.addProbeEvent k event).sweep j =
      if k = j then { s.sweep k with events := (s.sweep k).events.add event } else s.sweep j := by
  have swept := s.sweep_setSweep k j { s.sweep k with events := (s.sweep k).events.add event }
  rw [State.addProbeEvent_eq]
  dsimp only
  by_cases empty : (s.sweep k).events = .empty
  · rw [if_pos empty]; exact swept
  · rw [if_neg empty]; exact swept

/-- Identity resolution changes the presence table, the sweep records, the ports and PROBE_CHANGE only. -/
def State.ProbesOnly (s t : State) : Prop :=
  t = { s with presence := t.presence, sweeps := t.sweeps, ports := t.ports,
               notices := { s.notices with probeChange := t.notices.probeChange } }

/-- A kiln is posted to PROBE_CHANGE when its event set turns from empty to not empty, and no event leaves its set. -/
def State.Told (s t : State) : Prop :=
  ∀ j : KilnNo,
    t.notices.probeChange.get j =
      (s.notices.probeChange.get j || ((s.sweep j).events == .empty && (t.sweep j).events != .empty)) ∧
    ((t.sweep j).events = .empty → (s.sweep j).events = .empty)

section
variable {t u : State}

theorem State.ProbesOnly.trans (first : s.ProbesOnly t) (second : t.ProbesOnly u) : s.ProbesOnly u := by
  unfold State.ProbesOnly at *
  rw [second, first]

theorem State.Told.refl (s : State) : s.Told s := fun j => by simp

theorem State.Told.trans (first : s.Told t) (second : t.Told u) : s.Told u := by
  intro j
  obtain ⟨posted, kept⟩ := first j
  obtain ⟨posted', kept'⟩ := second j
  refine ⟨?_, fun empty => kept (kept' empty)⟩
  rw [posted', posted]
  by_cases here : (s.sweep j).events = .empty
  · by_cases there : (t.sweep j).events = .empty
    · simp [here, there]
    · have later : (u.sweep j).events ≠ .empty := fun empty => there (kept' empty)
      simp [here, bne, beq_eq_false_iff_ne.mpr there, beq_eq_false_iff_ne.mpr later]
  · have there : (t.sweep j).events ≠ .empty := fun empty => here (kept empty)
    simp [beq_eq_false_iff_ne.mpr here, beq_eq_false_iff_ne.mpr there]

theorem State.Told.of_events (notices : t.notices = s.notices)
    (events : ∀ j, (t.sweep j).events = (s.sweep j).events) : s.Told t := fun j => by
  rw [notices, events]
  simp

theorem State.addProbeEvent_probesOnly (event : ProbeEvent) : s.ProbesOnly (s.addProbeEvent k event) := by
  rw [State.addProbeEvent_eq]
  dsimp only
  split_ifs <;> rfl

theorem ProbeEvents.add_ne_empty (events : ProbeEvents) (event : ProbeEvent) : events.add event ≠ .empty := by
  obtain ⟨new, lost, moved, swapped, full, recovered⟩ := events
  cases event <;> simp [ProbeEvents.add, ProbeEvents.empty]

theorem State.addProbeEvent_told (event : ProbeEvent) : s.Told (s.addProbeEvent k event) := by
  intro j
  rw [State.addProbeEvent_sweep]
  by_cases here : k = j
  · subst here
    rw [if_pos rfl]
    refine ⟨?_, fun empty => absurd empty (ProbeEvents.add_ne_empty _ event)⟩
    rw [State.addProbeEvent_eq]
    have added := ProbeEvents.add_ne_empty (s.sweep k).events event
    by_cases empty : (s.sweep k).events = .empty
    · simp only [if_pos empty]
      rw [get_set, if_pos rfl]
      rw [empty] at added
      simp [empty, added]
    · simp only [if_neg empty]
      simp [beq_eq_false_iff_ne.mpr empty]
  · rw [if_neg here]
    refine ⟨?_, id⟩
    rw [State.addProbeEvent_eq]
    dsimp only
    split_ifs
    · rw [get_set, if_neg here]
      simp
    · simp

end

/-! ### A planned exchange dropped -/

/-- The sweep exchange in flight at a port is the pair. -/
def PortRecord.flies (r : PortRecord) (x : Nat × ProbeCommand) : Bool :=
  r.exchange.any fun e =>
    e.address == x.1 && e.command == (match x.2 with | .read => .probeRead | .identify => .identify)

/-- To an address that a probe can have the exchange in flight is a sweep's (R116). -/
theorem PortRecord.sweepInFlight_eq (r : PortRecord) {x : Nat × ProbeCommand} (low : 1 ≤ x.1) :
    (r.sweepInFlight == some x) = r.flies x := by
  obtain ⟨address, command⟩ := x
  unfold PortRecord.sweepInFlight PortRecord.flies
  cases r.exchange with
  | none => rfl
  | some e =>
    by_cases station : e.address = 0
    · have other : (0 == address) = false := by
        rw [beq_eq_false_iff_ne]
        exact fun same => absurd low (by simp [← same])
      simp [station, other]
    · rw [Bool.eq_iff_iff]
      cases at_command : e.command <;> cases command <;> simp [station, at_command]

/-- The planned exchange of kiln j that goes with the entry e. -/
def State.plannedFor (s : State) (e : PresenceEntry) (j : KilnNo) : Option (Nat × ProbeCommand) :=
  if e.port = j ∧ (s.sweep j).kind.isSome then (s.sweep j).outstanding.find? fun x => x.1 == e.address else none

theorem State.plannedFor_address {j : KilnNo} {x : Nat × ProbeCommand} (planned : s.plannedFor e j = some x) :
    x.1 = e.address := by
  unfold State.plannedFor at planned
  split at planned
  · simpa using List.find?_some planned
  · cases planned

/-- What is dropped of kiln j's sweep: the pair leaves the list, and is marked when it is in flight. -/
def SweepRecord.drop (w : SweepRecord) (x : Nat × ProbeCommand) (flying : Bool) : SweepRecord :=
  { w with outstanding := w.outstanding.erase x, discard := if flying then some x else w.discard }

/-- The exchange withdrawn from the port's sweep queue. -/
def PortRecord.withoutTo (r : PortRecord) (address : Nat) : PortRecord :=
  { r with sweepQueue := r.sweepQueue.filter fun y => y.1 != address }

theorem State.dropPlanned_eq (low : 1 ≤ e.address) :
    s.dropPlanned e.port e.address =
      match s.plannedFor e e.port with
      | some x =>
        (s.setSweep e.port ((s.sweep e.port).drop x ((s.port (kilnPort e.port)).flies x))).setPort (kilnPort e.port)
          ((s.port (kilnPort e.port)).withoutTo e.address)
      | none => s := by
  unfold State.dropPlanned State.plannedFor
  cases found : (s.sweep e.port).outstanding.find? fun x => x.1 == e.address with
  | none => simp
  | some x =>
    have at_address : x.1 = e.address := by simpa using List.find?_some found
    cases sweeping : (s.sweep e.port).kind.isSome with
    | false => simp
    | true =>
      simp only [true_and, if_true]
      rw [PortRecord.sweepInFlight_eq _ (at_address ▸ low)]
      rfl

theorem State.dropPlanned_probesOnly (address : Nat) : s.ProbesOnly (s.dropPlanned k address) := by
  unfold State.dropPlanned
  split
  · split
    · rfl
    · rfl
  · rfl

theorem State.dropPlanned_told (low : 1 ≤ e.address) : s.Told (s.dropPlanned e.port e.address) := by
  rw [State.dropPlanned_eq low]
  split
  · refine State.Told.of_events rfl fun j => ?_
    have swept := s.sweep_setSweep e.port j ((s.sweep e.port).drop ‹_› ((s.port (kilnPort e.port)).flies ‹_›))
    refine (congrArg SweepRecord.events swept).trans ?_
    split_ifs with here
    · rw [← here]; rfl
    · rfl
  · exact State.Told.refl s

theorem State.dropPlanned_sweep (low : 1 ≤ e.address) (j : KilnNo) :
    (s.dropPlanned e.port e.address).sweep j =
      match s.plannedFor e j with
      | some x => (s.sweep j).drop x ((s.port (kilnPort j)).flies x)
      | none => s.sweep j := by
  rw [State.dropPlanned_eq low]
  by_cases here : e.port = j
  · subst here
    cases planned : s.plannedFor e e.port with
    | none => rfl
    | some x => exact (s.sweep_setSweep e.port e.port _).trans (if_pos rfl)
  · have elsewhere : s.plannedFor e j = none := if_neg fun both => here both.1
    rw [elsewhere]
    cases planned : s.plannedFor e e.port with
    | none => rfl
    | some x => exact (s.sweep_setSweep e.port j _).trans (if_neg here)

theorem State.dropPlanned_port (low : 1 ≤ e.address) (j : KilnNo) :
    (s.dropPlanned e.port e.address).port (kilnPort j) =
      match s.plannedFor e j with
      | some x => (s.port (kilnPort j)).withoutTo x.1
      | none => s.port (kilnPort j) := by
  rw [State.dropPlanned_eq low]
  by_cases here : e.port = j
  · subst here
    cases planned : s.plannedFor e e.port with
    | none => rfl
    | some x =>
      dsimp only
      rw [State.plannedFor_address planned]
      exact State.port_setPort_same _ _ _
  · have elsewhere : s.plannedFor e j = none := if_neg fun both => here both.1
    have other : kilnPort e.port ≠ kilnPort j := fun same => here (Fin.ext (congrArg (Fin.val (n := 8)) same))
    rw [elsewhere]
    cases planned : s.plannedFor e e.port with
    | none => rfl
    | some x => exact (State.port_setPort _ _ _ _).trans (if_neg other)

theorem State.dropPlanned_devicePort (low : 1 ≤ e.address) {p : PortNo} (device : portKiln p = none) :
    (s.dropPlanned e.port e.address).port p = s.port p := by
  have other : kilnPort e.port ≠ p := fun same => by rw [← same, portKiln_kilnPort] at device; cases device
  rw [State.dropPlanned_eq low]
  split
  · exact (State.port_setPort _ _ _ _).trans (if_neg other)
  · rfl

/-! ### The three stages -/

/-- The serial's entry at another place. -/
def State.movedFrom (s : State) (k : KilnNo) (address serial : Nat) : Option PresenceEntry :=
  (s.presenceOf serial).filter fun e => e.port != k || e.address != address

/-- The serial's entry at the address. -/
def State.knownAt (s : State) (k : KilnNo) (address serial : Nat) : Option PresenceEntry :=
  (s.presenceAt k address).filter fun e => e.serial == serial

/-- Another serial's entry stands at the address. -/
def State.evictedAt (s : State) (k : KilnNo) (address serial : Nat) : Bool :=
  (s.presenceAt k address).any fun e => e.serial != serial

theorem State.leaveOldPlace_eq :
    s.leaveOldPlace k address serial =
      match s.movedFrom k address serial with
      | none => s
      | some e =>
        ((s.removePresence e.port e.address).dropPlanned e.port e.address).addProbeEvent e.port
          (if e.port = k then .swapped else .moved) := by
  unfold State.leaveOldPlace State.movedFrom
  cases s.presenceOf serial with
  | none => rfl
  | some e =>
    by_cases here : e.port = k ∧ e.address = address
    · simp [Option.filter_some, here]
    · have there : (e.port != k || e.address != address) = true := by
        simpa [or_iff_not_imp_left] using here
      simp only [Option.filter_some, there, if_true, if_neg here]
      split_ifs with same
      · rw [same]
      · rfl

theorem State.leavePlace_eq :
    s.leavePlace k address serial =
      if s.evictedAt k address serial then (s.removePresence k address).addProbeEvent k .swapped else s := by
  unfold State.leavePlace State.evictedAt
  cases s.presenceAt k address with
  | none => rfl
  | some e =>
    by_cases same : e.serial = serial <;> simp [same]

/-! ### The first two stages: what leaves -/

theorem State.PresenceOrdered.movedFrom_iff (h : s.PresenceOrdered) :
    s.movedFrom k address serial = some e ↔
      e ∈ s.presence ∧ e.serial = serial ∧ ¬(e.port = k ∧ e.address = address) := by
  have there : (e.port != k || e.address != address) = true ↔ ¬(e.port = k ∧ e.address = address) := by
    simp [or_iff_not_imp_left]
  rw [State.movedFrom, Option.filter_eq_some_iff, h.presenceOf_iff, there, and_assoc]

section
variable (h : s.PresenceSound) (high : address ≤ 24)
include h high

theorem State.PresenceSound.knownAt_iff :
    s.knownAt k address serial = some e ↔
      e ∈ s.presence ∧ e.serial = serial ∧ e.port = k ∧ e.address = address := by
  rw [State.knownAt, Option.filter_eq_some_iff, h.presenceAt_iff high, beq_iff_eq]
  tauto

theorem State.PresenceSound.evictedAt_iff :
    s.evictedAt k address serial = true ↔
      ∃ e ∈ s.presence, e.serial ≠ serial ∧ e.port = k ∧ e.address = address := by
  rw [State.evictedAt, Option.any_eq_true]
  constructor
  · rintro ⟨e, found, other⟩
    obtain ⟨member, place⟩ := (h.presenceAt_iff high).mp found
    exact ⟨e, member, by simpa using other, place⟩
  · rintro ⟨e, member, other, place⟩
    exact ⟨e, (h.presenceAt_iff high).mpr ⟨member, place⟩, by simpa using other⟩

end

/-- The table without the entries that leave: another serial's at the address, the serial's at another place. -/
def remaining (k : KilnNo) (address serial : Nat) (presence : List PresenceEntry) : List PresenceEntry :=
  presence.filter fun e => (e.serial == serial) == (e.port == k && e.address == address)

/-- The state after the first two stages. -/
def State.vacated (s : State) (k : KilnNo) (address serial : Nat) : State :=
  (s.leaveOldPlace k address serial).leavePlace k address serial

theorem State.leaveOldPlace_presence :
    (s.leaveOldPlace k address serial).presence =
      s.presence.filter fun x => (s.movedFrom k address serial).all fun e => x.place != e.place := by
  rw [State.leaveOldPlace_eq]
  cases s.movedFrom k address serial with
  | none => simp
  | some e => simp [State.removePresence, eraseBy, PresenceEntry.place, placeOf]

theorem State.PresenceOrdered.filter (h : s.PresenceOrdered) {t : State} {p : PresenceEntry → Bool}
    (presence : t.presence = s.presence.filter p) : t.PresenceOrdered where
  places := presence ▸ filter_sorted _ p h.places
  room := presence ▸ (List.length_filter_le p _).trans h.room
  serials := presence ▸ h.serials.sublist (List.filter_sublist.map _)

theorem State.PresenceSound.filter (h : s.PresenceSound) {t : State} {p : PresenceEntry → Bool}
    (presence : t.presence = s.presence.filter p) : t.PresenceSound where
  toPresenceOrdered := h.toPresenceOrdered.filter presence
  shaped e member := h.shaped e (List.mem_of_mem_filter (presence ▸ member))

/-- The first stage leaves every entry but the serial's at another place. -/
theorem State.PresenceOrdered.stays_iff (h : s.PresenceOrdered) {x : PresenceEntry} (member : x ∈ s.presence) :
    ((s.movedFrom k address serial).all fun e => x.place != e.place) = true ↔
      (x.serial = serial → x.port = k ∧ x.address = address) := by
  rw [Option.all_eq_true]
  constructor
  · intro stays named
    by_contra elsewhere
    have moved := h.movedFrom_iff.mpr ⟨member, named, elsewhere⟩
    simpa using stays x moved
  · intro settled e moved
    obtain ⟨listed, named, elsewhere⟩ := h.movedFrom_iff.mp moved
    rw [bne_iff_ne]
    intro same
    obtain rfl := h.eq_of_place member listed same
    exact elsewhere (settled named)

theorem mem_remaining_iff {presence : List PresenceEntry} :
    e ∈ remaining k address serial presence ↔
      e ∈ presence ∧ (e.serial = serial ↔ e.port = k ∧ e.address = address) := by
  rw [remaining, List.mem_filter, beq_iff_eq, Bool.eq_iff_iff, beq_iff_eq, Bool.and_eq_true, beq_iff_eq, beq_iff_eq]

theorem State.PresenceSound.vacated_presence (h : s.PresenceSound) (high : address ≤ 24) :
    (s.vacated k address serial).presence = remaining k address serial s.presence := by
  have left := s.leaveOldPlace_presence (k := k) (address := address) (serial := serial)
  have h' := h.filter left
  have keeps (x : PresenceEntry) :
      ((x.serial == serial) == (x.port == k && x.address == address)) = true ↔
        (x.serial = serial ↔ x.port = k ∧ x.address = address) := by
    rw [beq_iff_eq, Bool.eq_iff_iff, beq_iff_eq, Bool.and_eq_true, beq_iff_eq, beq_iff_eq]
  rw [State.vacated, State.leavePlace_eq, remaining]
  by_cases evicted : (s.leaveOldPlace k address serial).evictedAt k address serial = true
  · rw [if_pos evicted]
    obtain ⟨e, listed, other, place⟩ := (h'.evictedAt_iff high).mp evicted
    have listed : e ∈ s.presence := List.mem_of_mem_filter (left ▸ listed)
    have removed : (((s.leaveOldPlace k address serial).removePresence k address).addProbeEvent k .swapped).presence =
        (s.leaveOldPlace k address serial).presence.filter fun x => x.place != placeOf k address := by
      simp [State.removePresence, eraseBy]
    rw [removed, left, List.filter_filter]
    refine List.filter_congr fun x member => ?_
    rw [Bool.eq_iff_iff, keeps, Bool.and_eq_true, h.stays_iff member, bne_iff_ne, ne_eq,
      PresenceEntry.place_eq_iff (h.shaped x member) high]
    have unique (here : x.port = k ∧ x.address = address) : x.serial ≠ serial := by
      have same : x = e := h.eq_of_place member listed <| by
        rw [(PresenceEntry.place_eq_iff (h.shaped x member) high).mpr here,
          (PresenceEntry.place_eq_iff (h.shaped e listed) high).mpr place]
      rwa [same]
    tauto
  · rw [if_neg evicted, left]
    refine List.filter_congr fun x member => ?_
    rw [Bool.eq_iff_iff, keeps, h.stays_iff member]
    refine ⟨fun stays => ⟨stays, fun here => ?_⟩, fun both => both.1⟩
    by_contra other
    refine evicted ((h'.evictedAt_iff high).mpr ⟨x, ?_, other, here⟩)
    rw [left, List.mem_filter]
    exact ⟨member, (h.stays_iff member).mpr fun named => absurd named other⟩

/-! ### The third stage: the entry settled -/

/-- The room the table has for the serial: none when it is full and neither the serial nor the address is in it. -/
def State.fullFor (s : State) (k : KilnNo) (address serial : Nat) : Bool :=
  s.presence.length == 96 && (s.presenceOf serial).isNone && (s.presenceAt k address).isNone

/-- The entry at the address after identity resolution. -/
def State.settledEntry (s : State) (k : KilnNo) (address serial : Nat) : PresenceEntry :=
  match s.knownAt k address serial with
  | some e => (e.resolved (s.resolveRole k serial)).1
  | none => .created serial k address (s.resolveRole k serial)

/-- The event that the settling brings. -/
def State.settledEvent (s : State) (k : KilnNo) (address serial : Nat) : Option ProbeEvent :=
  match s.knownAt k address serial with
  | some e => (e.resolved (s.resolveRole k serial)).2
  | none => some (if (s.resolveRole k serial).isSome then .new else .moved)

/-- An event that may come. -/
def State.addEvents (s : State) (k : KilnNo) (event : Option ProbeEvent) : State :=
  match event with
  | some event => s.addProbeEvent k event
  | none => s

theorem State.settleEntry_eq :
    s.settleEntry k address serial =
      match s.presenceAt k address with
      | some e =>
        (s.putPresence (e.resolved (s.resolveRole k serial)).1).addEvents k (e.resolved (s.resolveRole k serial)).2
      | none =>
        if 96 ≤ s.presence.length then s.addProbeEvent k .tableFull
        else
          (s.putPresence (.created serial k address (s.resolveRole k serial))).addProbeEvent k
            (if (s.resolveRole k serial).isSome then .new else .moved) := by
  unfold State.settleEntry
  cases s.presenceAt k address with
  | some e => rfl
  | none => rfl

@[simp] theorem PresenceEntry.resolved_serial (e : PresenceEntry) (role : Option (ProbeRole × RoleSource)) :
    (e.resolved role).1.serial = e.serial := by
  unfold PresenceEntry.resolved
  (repeat' split) <;> rfl

@[simp] theorem PresenceEntry.resolved_port (e : PresenceEntry) (role : Option (ProbeRole × RoleSource)) :
    (e.resolved role).1.port = e.port := by
  unfold PresenceEntry.resolved
  (repeat' split) <;> rfl

@[simp] theorem PresenceEntry.resolved_address (e : PresenceEntry) (role : Option (ProbeRole × RoleSource)) :
    (e.resolved role).1.address = e.address := by
  unfold PresenceEntry.resolved
  (repeat' split) <;> rfl

section
variable {t : State}

theorem State.addEvents_probesOnly (event : Option ProbeEvent) : s.ProbesOnly (s.addEvents k event) := by
  cases event with
  | none => rfl
  | some event => exact State.addProbeEvent_probesOnly event

theorem State.addEvents_told (event : Option ProbeEvent) : s.Told (s.addEvents k event) := by
  cases event with
  | none => exact State.Told.refl s
  | some event => exact State.addProbeEvent_told event

theorem State.removePresence_told : s.Told (s.removePresence k address) := State.Told.of_events rfl fun _ => rfl

theorem State.putPresence_told : s.Told (s.putPresence e) := State.Told.of_events rfl fun _ => rfl

end

theorem State.vacated_probesOnly : s.ProbesOnly (s.vacated k address serial) := by
  have first : s.ProbesOnly (s.leaveOldPlace k address serial) := by
    rw [State.leaveOldPlace_eq]
    cases s.movedFrom k address serial with
    | none => rfl
    | some e =>
      have removed : s.ProbesOnly (s.removePresence e.port e.address) := rfl
      exact (removed.trans (State.dropPlanned_probesOnly _)).trans (State.addProbeEvent_probesOnly _)
  refine first.trans ?_
  rw [State.vacated, State.leavePlace_eq]
  split_ifs
  · exact State.ProbesOnly.trans (rfl : State.ProbesOnly _ (State.removePresence _ k address))
      (State.addProbeEvent_probesOnly _)
  · rfl

theorem State.vacated_resolveRole : (s.vacated k address serial).resolveRole k serial = s.resolveRole k serial := by
  have kept := s.vacated_probesOnly (k := k) (address := address) (serial := serial)
  unfold State.ProbesOnly at kept
  rw [kept]
  rfl

section
variable (h : s.PresenceSound) (high : address ≤ 24)
include h high

theorem State.PresenceSound.vacated : (s.vacated k address serial).PresenceSound :=
  h.filter (h.vacated_presence high)

theorem State.PresenceSound.vacated_presenceAt :
    (s.vacated k address serial).presenceAt k address = s.knownAt k address serial := by
  refine Option.ext fun e => ?_
  rw [(h.vacated high).presenceAt_iff high, h.knownAt_iff high, h.vacated_presence high, mem_remaining_iff]
  tauto

/-- The table is still full, with nothing at the address, only when nothing left it. -/
theorem State.PresenceSound.full_iff :
    (s.knownAt k address serial = none ∧ 96 ≤ (remaining k address serial s.presence).length) ↔
      s.fullFor k address serial = true := by
  have none_at : s.presenceAt k address = none ↔ ∀ e ∈ s.presence, ¬(e.port = k ∧ e.address = address) := by
    rw [Option.eq_none_iff_forall_ne_some]
    simp only [ne_eq, h.presenceAt_iff high, not_and]
  have none_of : s.presenceOf serial = none ↔ ∀ e ∈ s.presence, e.serial ≠ serial := by
    rw [Option.eq_none_iff_forall_ne_some]
    simp only [ne_eq, h.presenceOf_iff, not_and]
  have none_known : s.knownAt k address serial = none ↔
      ∀ e ∈ s.presence, e.serial = serial → ¬(e.port = k ∧ e.address = address) := by
    rw [Option.eq_none_iff_forall_ne_some]
    simp only [ne_eq, h.knownAt_iff high, not_and]
  have all_stay : (remaining k address serial s.presence).length = s.presence.length ↔
      ∀ e ∈ s.presence, (e.serial = serial ↔ e.port = k ∧ e.address = address) := by
    refine List.length_filter_eq_length_iff.trans (forall₂_congr fun e _ => ?_)
    rw [beq_iff_eq, Bool.eq_iff_iff, beq_iff_eq, Bool.and_eq_true, beq_iff_eq, beq_iff_eq]
  have shorter : (remaining k address serial s.presence).length ≤ s.presence.length := List.length_filter_le ..
  have room := h.room
  rw [State.fullFor, Bool.and_eq_true, Bool.and_eq_true, beq_iff_eq, Option.isNone_iff_eq_none, Option.isNone_iff_eq_none,
    none_at, none_of, none_known]
  constructor
  · rintro ⟨absent, full⟩
    have stay := all_stay.mp (by omega)
    refine ⟨⟨by omega, fun e member named => absent e member named ((stay e member).mp named)⟩, fun e member here => ?_⟩
    exact absent e member ((stay e member).mpr here) here
  · rintro ⟨⟨full, unnamed⟩, vacant⟩
    refine ⟨fun e member _ => vacant e member, ?_⟩
    rw [all_stay.mpr fun e member => iff_of_false (unnamed e member) (vacant e member), full]

theorem State.PresenceSound.resolveIdentity_eq :
    s.resolveIdentity k address serial =
      if s.fullFor k address serial then (s.vacated k address serial).addProbeEvent k .tableFull
      else
        ((s.vacated k address serial).putPresence (s.settledEntry k address serial)).addEvents k
          (s.settledEvent k address serial) := by
  have full := h.full_iff high (k := k) (serial := serial)
  rw [← h.vacated_presence high] at full
  refine (State.settleEntry_eq (s := s.vacated k address serial)).trans ?_
  rw [h.vacated_presenceAt high, State.vacated_resolveRole]
  unfold State.settledEntry State.settledEvent
  cases known : s.knownAt k address serial with
  | some e =>
    rw [if_neg (full.not.mp fun both => by rw [known] at both; cases both.1)]
  | none =>
    rw [known] at full
    exact if_congr (by rw [← full]; simp) rfl rfl

end

/-! ### What the whole resolution leaves -/

section
variable (h : s.PresenceSound) (high : address ≤ 24)
include h high

theorem State.PresenceSound.resolveIdentity_presence :
    (s.resolveIdentity k address serial).presence =
      if s.fullFor k address serial then s.presence
      else insertBy PresenceEntry.place (s.settledEntry k address serial) (remaining k address serial s.presence) := by
  rw [h.resolveIdentity_eq high]
  by_cases full : s.fullFor k address serial = true
  · have stays := (h.full_iff high).mpr full
    have all : remaining k address serial s.presence = s.presence :=
      List.filter_sublist.eq_of_length_le (h.room.trans stays.2)
    have added : ((s.vacated k address serial).addProbeEvent k .tableFull).presence =
        (s.vacated k address serial).presence := by simp
    rw [if_pos full, if_pos full, added, h.vacated_presence high, all]
  · rw [if_neg full, if_neg full, ← h.vacated_presence high]
    cases s.settledEvent k address serial <;> simp [State.addEvents, State.putPresence]

theorem State.PresenceSound.settledEntry_serial : (s.settledEntry k address serial).serial = serial := by
  unfold State.settledEntry
  split
  next e known =>
    obtain ⟨-, named, -⟩ := (h.knownAt_iff high).mp known
    exact (PresenceEntry.resolved_serial _ _).trans named
  next => rfl

theorem State.PresenceSound.resolveIdentity_probesOnly : s.ProbesOnly (s.resolveIdentity k address serial) := by
  rw [h.resolveIdentity_eq high]
  refine State.ProbesOnly.trans (t := s.vacated k address serial) State.vacated_probesOnly ?_
  split_ifs
  · exact State.addProbeEvent_probesOnly _
  · exact State.ProbesOnly.trans (rfl : State.ProbesOnly _ (State.putPresence _ _)) (State.addEvents_probesOnly _)

end

/-- The entries that leave were shaped, so that their addresses are a probe's. -/
theorem State.PresenceSound.movedFrom_low (h : s.PresenceSound) (moved : s.movedFrom k address serial = some e) :
    1 ≤ e.address := by
  obtain ⟨member, -⟩ := h.movedFrom_iff.mp moved
  exact ((PresenceEntry.shape_iff e).mp (h.shaped e member)).1.1

theorem State.PresenceSound.vacated_told (h : s.PresenceSound) : s.Told (s.vacated k address serial) := by
  have first : s.Told (s.leaveOldPlace k address serial) := by
    rw [State.leaveOldPlace_eq]
    cases moved : s.movedFrom k address serial with
    | none => exact State.Told.refl s
    | some e =>
      exact (State.removePresence_told.trans (State.dropPlanned_told (h.movedFrom_low moved))).trans
        (State.addProbeEvent_told _)
  refine first.trans ?_
  rw [State.vacated, State.leavePlace_eq]
  split_ifs
  · exact State.removePresence_told.trans (State.addProbeEvent_told _)
  · exact State.Told.refl _

theorem State.PresenceSound.resolveIdentity_told (h : s.PresenceSound) (high : address ≤ 24) :
    s.Told (s.resolveIdentity k address serial) := by
  rw [h.resolveIdentity_eq high]
  refine State.Told.trans (t := s.vacated k address serial) h.vacated_told ?_
  split_ifs
  · exact State.addProbeEvent_told _
  · exact State.putPresence_told.trans (State.addEvents_told _)

/-- The planned exchange of kiln j's sweep that identity resolution drops. -/
def State.droppedFor (s : State) (k : KilnNo) (address serial : Nat) (j : KilnNo) : Option (Nat × ProbeCommand) :=
  (s.movedFrom k address serial).bind fun e => s.plannedFor e j

/-- Kiln j's sweep without the exchange that identity resolution drops. -/
def State.sweepLeft (s : State) (k : KilnNo) (address serial : Nat) (j : KilnNo) : SweepRecord :=
  match s.droppedFor k address serial j with
  | some x => (s.sweep j).drop x ((s.port (kilnPort j)).flies x)
  | none => s.sweep j

/-- An event that joins a set on a condition. -/
def ProbeEvents.addWhen (events : ProbeEvents) (condition : Bool) (event : ProbeEvent) : ProbeEvents :=
  if condition then events.add event else events

theorem State.PresenceSound.leaveOldPlace_sweep (h : s.PresenceSound) (j : KilnNo) :
    (s.leaveOldPlace k address serial).sweep j =
      { s.sweepLeft k address serial j with
        events := (s.sweep j).events.addWhen ((s.movedFrom k address serial).any fun e => e.port == j)
          (if j = k then .swapped else .moved) } := by
  rw [State.leaveOldPlace_eq, State.sweepLeft, State.droppedFor]
  cases moved : s.movedFrom k address serial with
  | none => rfl
  | some e =>
    have dropped := State.dropPlanned_sweep (s := s.removePresence e.port e.address) (h.movedFrom_low moved)
    have planned (i : KilnNo) : (s.removePresence e.port e.address).plannedFor e i = s.plannedFor e i := rfl
    simp only [planned] at dropped
    refine (State.addProbeEvent_sweep _ _).trans ?_
    rw [dropped j, dropped e.port]
    by_cases here : e.port = j
    · subst here
      simp only [Option.bind_some, Option.any_some, beq_self_eq_true, if_true, ProbeEvents.addWhen]
      cases s.plannedFor e e.port <;> rfl
    · have there : (e.port == j) = false := beq_eq_false_iff_ne.mpr here
      simp only [Option.bind_some, Option.any_some, there, if_neg here, ProbeEvents.addWhen]
      cases s.plannedFor e j <;> rfl

theorem State.PresenceSound.leaveOldPlace_evictedAt (h : s.PresenceSound) (high : address ≤ 24) :
    (s.leaveOldPlace k address serial).evictedAt k address serial = s.evictedAt k address serial := by
  have left := s.leaveOldPlace_presence (k := k) (address := address) (serial := serial)
  rw [Bool.eq_iff_iff, (h.filter left).evictedAt_iff high, h.evictedAt_iff high]
  refine exists_congr fun e => ?_
  rw [left, List.mem_filter]
  constructor
  · rintro ⟨⟨member, -⟩, rest⟩
    exact ⟨member, rest⟩
  · rintro ⟨member, other, place⟩
    exact ⟨⟨member, (h.stays_iff member).mpr fun named => absurd named other⟩, other, place⟩

section
variable (h : s.PresenceSound) (high : address ≤ 24) (j : KilnNo)
include h high

theorem State.PresenceSound.vacated_sweep :
    (s.vacated k address serial).sweep j =
      { s.sweepLeft k address serial j with
        events := ((s.sweep j).events.addWhen ((s.movedFrom k address serial).any fun e => e.port == j)
          (if j = k then .swapped else .moved)).addWhen (j == k && s.evictedAt k address serial) .swapped } := by
  rw [State.vacated, State.leavePlace_eq, h.leaveOldPlace_evictedAt high]
  cases evicted : s.evictedAt k address serial with
  | false => simp [h.leaveOldPlace_sweep, ProbeEvents.addWhen]
  | true =>
    rw [if_pos rfl]
    refine (State.addProbeEvent_sweep _ _).trans ?_
    have kept (i : KilnNo) : ((s.leaveOldPlace k address serial).removePresence k address).sweep i =
      (s.leaveOldPlace k address serial).sweep i := rfl
    rw [kept, kept, h.leaveOldPlace_sweep, h.leaveOldPlace_sweep]
    by_cases here : k = j
    · subst here
      simp [ProbeEvents.addWhen]
    · have there : (j == k) = false := beq_eq_false_iff_ne.mpr (Ne.symm here)
      simp [ProbeEvents.addWhen, there, here]

/-- The event set of kiln j after identity resolution (R119). -/
def State.eventsAfter (s : State) (k : KilnNo) (address serial : Nat) (j : KilnNo) : ProbeEvents :=
  let left :=
    ((s.sweep j).events.addWhen ((s.movedFrom k address serial).any fun e => e.port == j)
      (if j = k then .swapped else .moved)).addWhen (j == k && s.evictedAt k address serial) .swapped
  if j = k then
    if s.fullFor k address serial then left.add .tableFull
    else (s.settledEvent k address serial).elim left left.add
  else left

theorem State.PresenceSound.resolveIdentity_sweep :
    (s.resolveIdentity k address serial).sweep j =
      { s.sweepLeft k address serial j with events := s.eventsAfter k address serial j } := by
  have left := h.vacated_sweep high j (k := k) (serial := serial)
  rw [h.resolveIdentity_eq high, State.eventsAfter]
  by_cases here : j = k
  · subst here
    rw [if_pos rfl]
    by_cases full : s.fullFor j address serial = true
    · rw [if_pos full, if_pos full, State.addProbeEvent_sweep, if_pos rfl, left]
    · rw [if_neg full, if_neg full]
      cases s.settledEvent j address serial with
      | none => exact left
      | some event =>
        refine (State.addProbeEvent_sweep _ _).trans ((if_pos rfl).trans ?_)
        have kept : ((s.vacated j address serial).putPresence (s.settledEntry j address serial)).sweep j =
          (s.vacated j address serial).sweep j := rfl
        rw [kept, left]
        rfl
  · rw [if_neg here]
    by_cases full : s.fullFor k address serial = true
    · rw [if_pos full, State.addProbeEvent_sweep, if_neg (Ne.symm here), left]
    · rw [if_neg full]
      cases s.settledEvent k address serial with
      | none => exact left
      | some event =>
        refine (State.addProbeEvent_sweep _ _).trans ((if_neg (Ne.symm here)).trans ?_)
        exact left

end

theorem State.resolveIdentity_port (p : PortNo) :
    (s.resolveIdentity k address serial).port p = (s.leaveOldPlace k address serial).port p := by
  simp [State.port, State.resolveIdentity]

theorem State.PresenceSound.resolveIdentity_devicePort (h : s.PresenceSound) {p : PortNo} (device : portKiln p = none) :
    (s.resolveIdentity k address serial).port p = s.port p := by
  rw [State.resolveIdentity_port, State.leaveOldPlace_eq]
  cases moved : s.movedFrom k address serial with
  | none => rfl
  | some e =>
    have dropped := State.dropPlanned_devicePort (s := s.removePresence e.port e.address) (h.movedFrom_low moved) device
    simpa [State.port] using dropped

theorem State.PresenceSound.resolveIdentity_kilnPort (h : s.PresenceSound) (j : KilnNo) :
    (s.resolveIdentity k address serial).port (kilnPort j) =
      match s.droppedFor k address serial j with
      | some x => (s.port (kilnPort j)).withoutTo x.1
      | none => s.port (kilnPort j) := by
  rw [State.resolveIdentity_port, State.leaveOldPlace_eq, State.droppedFor]
  cases moved : s.movedFrom k address serial with
  | none => rfl
  | some e =>
    have dropped : ((s.removePresence e.port e.address).dropPlanned e.port e.address).port (kilnPort j) =
        match s.plannedFor e j with
        | some x => (s.port (kilnPort j)).withoutTo x.1
        | none => s.port (kilnPort j) := State.dropPlanned_port (h.movedFrom_low moved) j
    simpa [State.port] using dropped

/-! ### The entry and the events, as the statement writes them -/

theorem PresenceEntry.resolved_of_none (e : PresenceEntry) :
    (e.resolved none).1 =
      if e.state = .foreign then e
      else { e with state := .foreign, role := none, source := none, smoothed := none, lastMc := none,
                    suspectCount := 0, missCount := 0 } :=
  apply_ite Prod.fst _ _ _

theorem PresenceEntry.resolved_of_some (e : PresenceEntry) (role : ProbeRole) (source : RoleSource) :
    (e.resolved (some (role, source))).1 =
      { e with state := if e.state = .foreign then .active else e.state, role := some role, source := some source } := by
  unfold PresenceEntry.resolved
  dsimp only
  split_ifs with foreign <;> rfl

theorem PresenceEntry.resolved_role (shaped : e.shape = true) (role : Option (ProbeRole × RoleSource)) :
    (e.resolved role).1.role = role.map Prod.fst ∧ (e.resolved role).1.source = role.map Prod.snd ∧
      ((e.resolved role).1.state = .foreign ↔ role = none) := by
  obtain ⟨-, unroled, sourced, -⟩ := (PresenceEntry.shape_iff e).mp shaped
  cases role with
  | none =>
    rw [PresenceEntry.resolved_of_none]
    split_ifs with foreign
    · have none_role := unroled.mp foreign
      rw [none_role] at sourced
      exact ⟨none_role, by simpa using sourced.symm, by simp [foreign]⟩
    · simp
  | some both =>
    rw [PresenceEntry.resolved_of_some]
    refine ⟨rfl, rfl, ?_⟩
    by_cases foreign : e.state = .foreign <;> simp [foreign]

theorem State.PresenceSound.settledEntry_placed (h : s.PresenceSound) (high : address ≤ 24) :
    let e := s.settledEntry k address serial
    let role := s.resolveRole k serial
    e.port = k ∧ e.address = address ∧ e.role = role.map Prod.fst ∧ e.source = role.map Prod.snd ∧
      (e.state = .foreign ↔ role = none) := by
  unfold State.settledEntry
  cases known : s.knownAt k address serial with
  | some e =>
    obtain ⟨member, -, port, place⟩ := (h.knownAt_iff high).mp known
    exact ⟨(PresenceEntry.resolved_port _ _).trans port, (PresenceEntry.resolved_address _ _).trans place,
      PresenceEntry.resolved_role (h.shaped e member) _⟩
  | none =>
    refine ⟨rfl, rfl, rfl, rfl, ?_⟩
    cases s.resolveRole k serial <;> simp [PresenceEntry.created]

/-! ### One entry of the serial -/

theorem insertBy_serials {table : List PresenceEntry} (distinct : (table.map PresenceEntry.serial).Nodup)
    (places : sortedBy PresenceEntry.place table = true)
    (settled : ∀ x ∈ table, x.serial = e.serial → x.place = e.place) :
    ((insertBy PresenceEntry.place e table).map PresenceEntry.serial).Nodup := by
  have nodup := nodup_map_of_sorted (insertBy_sorted PresenceEntry.place e places)
  have inserted := (findBy_some PresenceEntry.place (findBy_insertBy PresenceEntry.place e table)).2
  have at_place {x : PresenceEntry} (member : x ∈ insertBy PresenceEntry.place e table) (same : x.place = e.place) :
      x = e := List.inj_on_of_nodup_map nodup member inserted same
  have named {x : PresenceEntry} (member : x ∈ insertBy PresenceEntry.place e table) (same : x.serial = e.serial) :
      x = e := by
    rcases mem_insertBy PresenceEntry.place member with rfl | old
    · rfl
    · exact at_place member (settled x old same)
  refine List.Nodup.map_on (fun x hx y hy same => ?_) (List.Nodup.of_map _ nodup)
  rcases mem_insertBy PresenceEntry.place hx with rfl | oldx
  · exact (named hy same.symm).symm
  · rcases mem_insertBy PresenceEntry.place hy with rfl | oldy
    · exact named hx same
    · exact List.inj_on_of_nodup_map distinct oldx oldy same

theorem State.leavePlace_presence :
    (s.leavePlace k address serial).presence =
      s.presence.filter fun x => !s.evictedAt k address serial || x.place != placeOf k address := by
  rw [State.leavePlace_eq]
  cases s.evictedAt k address serial with
  | false => simp
  | true => simp [State.removePresence, eraseBy]

@[simp] theorem State.addEvents_presence (event : Option ProbeEvent) : (s.addEvents k event).presence = s.presence := by
  cases event <;> simp [State.addEvents]

/-- Steps 3 to 5 of R112 keep the table in order, when the place and the serial name the same entry. -/
theorem State.PresenceOrdered.settleEntry (h : s.PresenceOrdered)
    (same : ∀ x ∈ s.presence, x.serial = serial ↔ x.place = placeOf k address) :
    (s.settleEntry k address serial).PresenceOrdered := by
  have put {t : State} {e : PresenceEntry} (serials : e.serial = serial) (places : e.place = placeOf k address)
      (room : (insertBy PresenceEntry.place e s.presence).length ≤ 96)
      (presence : t.presence = insertBy PresenceEntry.place e s.presence) : t.PresenceOrdered := by
    refine ⟨presence ▸ insertBy_sorted PresenceEntry.place e h.places, presence ▸ room, presence ▸ ?_⟩
    exact insertBy_serials h.serials h.places fun x member named =>
      ((same x member).mp (named.trans serials)).trans places.symm
  rw [State.settleEntry_eq]
  cases found : s.presenceAt k address with
  | some e =>
    obtain ⟨at_place, member⟩ := findBy_some PresenceEntry.place found
    have kept : (e.resolved (s.resolveRole k serial)).1.place = e.place := by simp [PresenceEntry.place]
    refine put ?_ (kept.trans at_place) ?_ (State.addEvents_presence _)
    · simpa using (same e member).mpr at_place
    · rw [insertBy_length_of_mem PresenceEntry.place h.places member kept.symm]
      exact h.room
  | none =>
    by_cases full : 96 ≤ s.presence.length
    · rw [if_pos full]
      exact h.filter (p := fun _ => true) (by simp)
    · rw [if_neg full]
      refine put (e := .created serial k address (s.resolveRole k serial)) rfl rfl ?_ (by simp [State.putPresence])
      have longer := insertBy_length_le PresenceEntry.place (.created serial k address (s.resolveRole k serial)) s.presence
      omega

/-- R106, R112: identity resolution keeps the presence table in order, within its capacity and with distinct serials. -/
theorem State.PresenceOrdered.resolveIdentity (h : s.PresenceOrdered) :
    (s.resolveIdentity k address serial).PresenceOrdered := by
  have left := s.leaveOldPlace_presence (k := k) (address := address) (serial := serial)
  have gone := (s.leaveOldPlace k address serial).leavePlace_presence (k := k) (address := address) (serial := serial)
  have h1 : (s.leaveOldPlace k address serial).PresenceOrdered := h.filter left
  refine (h1.filter gone).settleEntry fun x member => ?_
  rw [gone, List.mem_filter] at member
  obtain ⟨listed, stays⟩ := member
  constructor
  · intro named
    rw [left, List.mem_filter] at listed
    obtain ⟨port, place⟩ := (h.stays_iff listed.1).mp listed.2 named
    rw [PresenceEntry.place, placeOf, port, place]
  · intro at_place
    have evicted : (s.leaveOldPlace k address serial).evictedAt k address serial = false := by simpa [at_place] using stays
    have found : (s.leaveOldPlace k address serial).presenceAt k address = some x :=
      (findBy_eq_some_iff (nodup_map_of_sorted h1.places)).mpr ⟨listed, at_place⟩
    rw [State.evictedAt, found] at evicted
    simpa using evicted

theorem State.PresenceOrdered.one_of_serial (h : s.PresenceOrdered) :
    (s.presence.filter fun e => e.serial == serial).length ≤ 1 := by
  have once := List.nodup_iff_count_le_one.mp h.serials serial
  rwa [List.count, List.countP_map, List.countP_eq_length_filter] at once

theorem State.eventsAfter_eq (j : KilnNo) :
    s.eventsAfter k address serial j =
      { (s.sweep j).events with
        swapped := (s.sweep j).events.swapped ||
          (j == k && (s.evictedAt k address serial || (s.movedFrom k address serial).any fun e => e.port == k)),
        moved := (s.sweep j).events.moved || (j != k && (s.movedFrom k address serial).any fun e => e.port == j) ||
          (j == k && !s.fullFor k address serial && (s.resolveRole k serial).isNone &&
            (s.knownAt k address serial).all fun e => e.state != .foreign),
        new := (s.sweep j).events.new ||
          (j == k && !s.fullFor k address serial && (s.resolveRole k serial).isSome &&
            (s.knownAt k address serial).all fun e => e.state == .foreign),
        tableFull := (s.sweep j).events.tableFull || (j == k && s.fullFor k address serial) } := by
  have settled : s.settledEvent k address serial =
      if (s.resolveRole k serial).isNone && (s.knownAt k address serial).all fun e => e.state != .foreign then some .moved
      else if (s.resolveRole k serial).isSome && (s.knownAt k address serial).all fun e => e.state == .foreign then
        some .new
      else none := by
    unfold State.settledEvent PresenceEntry.resolved
    cases s.knownAt k address serial with
    | none => cases s.resolveRole k serial <;> simp
    | some e =>
      by_cases foreign : e.state = .foreign <;> cases s.resolveRole k serial <;> simp [foreign]
  rw [State.eventsAfter, settled]
  generalize (s.sweep j).events = events
  by_cases here : j = k
  · subst here
    generalize (s.movedFrom j address serial).any _ = moved
    generalize s.evictedAt j address serial = evicted
    cases s.fullFor j address serial with
    | true => cases moved <;> cases evicted <;> simp [ProbeEvents.addWhen, ProbeEvents.add]
    | false =>
      cases s.resolveRole j serial with
      | none =>
        generalize (s.knownAt j address serial).all _ = turned
        cases moved <;> cases evicted <;> cases turned <;> simp [ProbeEvents.addWhen, ProbeEvents.add]
      | some role =>
        simp only [Option.isNone_some, Option.isSome_some, Bool.false_and, Bool.true_and]
        generalize (s.knownAt j address serial).all _ = turned
        cases moved <;> cases evicted <;> cases turned <;> simp [ProbeEvents.addWhen, ProbeEvents.add]
  · have there : (j == k) = false := beq_eq_false_iff_ne.mpr here
    generalize (s.movedFrom k address serial).any _ = moved
    cases moved <;> simp [ProbeEvents.addWhen, ProbeEvents.add, there, here, bne]

end

end Sys2Proof.Machine
end

section
/-! PROOFS. The statement on identity resolution. -/
open Sys2Proof Sys2Proof.Machine

/-- Settles O45, stage by stage: what leaves the table, the entry settled, and the events, drops and postings. -/
theorem identityResolutionPlacesTheSerial : Obligations.IdentityResolutionPlacesTheSerial := by
  unfold Obligations.IdentityResolutionPlacesTheSerial
  intro s k address serial tables low high shaped
  have h := State.presenceSound_of_kept tables shaped
  have presence := h.resolveIdentity_presence high (k := k) (serial := serial)
  intro t role
  refine ⟨h.toPresenceOrdered.resolveIdentity.one_of_serial, ?_, ?_⟩
  case refine_1 =>
    have full_iff : s.fullFor k address serial = true ↔
        s.presence.length = 96 ∧ s.presenceOf serial = none ∧ s.presenceAt k address = none := by
      simp [State.fullFor, and_assoc]
    by_cases full : s.presence.length = 96 ∧ s.presenceOf serial = none ∧ s.presenceAt k address = none
    · have is_full := full_iff.mpr full
      rw [if_pos full]
      rw [if_pos is_full] at presence
      refine ⟨?_, presence, ?_⟩
      · exact (congrArg (findBy PresenceEntry.place (placeOf k address)) presence).trans full.2.2
      · rw [h.resolveIdentity_sweep high, State.eventsAfter_eq]
        simp [is_full]
    · rw [if_neg full]
      rw [if_neg (full_iff.not.mpr full)] at presence
      obtain ⟨port, place, entry_role, source, foreign⟩ := h.settledEntry_placed high (k := k) (serial := serial)
      refine ⟨s.settledEntry k address serial, ?_, h.settledEntry_serial high, port, place, entry_role, source, foreign⟩
      exact presence ▸ (findBy_some PresenceEntry.place (findBy_insertBy PresenceEntry.place _ _)).2
  intro moved known evicted full entry
  have entry_eq : entry = s.settledEntry k address serial := by
    change (match s.knownAt k address serial, s.resolveRole k serial with
      | some e, none => _ | some e, some (role, source) => _ | none, _ => _) = _
    unfold State.settledEntry
    cases s.knownAt k address serial with
    | none => rfl
    | some e =>
      cases s.resolveRole k serial with
      | none => exact (PresenceEntry.resolved_of_none e).symm
      | some both => exact (PresenceEntry.resolved_of_some e both.1 both.2).symm
  refine ⟨?_, h.resolveIdentity_probesOnly high, fun p device => h.resolveIdentity_devicePort device, fun j => ?_⟩
  · rw [entry_eq]
    exact presence
  intro w events dropped flying
  have events_eq : events = s.eventsAfter k address serial j := (s.eventsAfter_eq j).symm
  have swept := h.resolveIdentity_sweep high j (k := k) (serial := serial)
  rw [← events_eq] at swept
  refine ⟨swept.trans ?_, h.resolveIdentity_kilnPort j, ?_⟩
  · unfold State.sweepLeft
    change _ = match s.droppedFor k address serial j with | some x => _ | none => _
    cases s.droppedFor k address serial j <;> rfl
  · have told := (h.resolveIdentity_told high (k := k) (serial := serial) j).1
    rwa [swept] at told

end

section
/-! PROOFS. The outcomes of sweep exchanges: misses, readings and identities, and the sweeps they complete. -/
namespace Sys2Proof.Machine

section
variable {s : State} {k : KilnNo} {address serial : Nat} {e : PresenceEntry}

/-! ### The table after an entry is put -/

/-- A second entry of the same key takes the place of the first. -/
theorem insertBy_insertBy {α : Type} {key : α → Nat} {x y : α} (same : key x = key y) (table : List α) :
    insertBy key x (insertBy key y table) = insertBy key x table := by
  induction table with
  | nil => simp [insertBy, same]
  | cons z rest ih =>
    simp only [insertBy, same]
    split_ifs with less equal
    · simp [insertBy, same]
    · simp [insertBy, same]
    · simp only [insertBy, same, if_neg less, if_neg equal, ih]

theorem State.putPresence_presenceAt (at_place : e.place = placeOf k address) :
    (s.putPresence e).presenceAt k address = some e := by
  rw [State.presenceAt, ← at_place]
  exact findBy_insertBy PresenceEntry.place e s.presence

theorem State.putPresence_putPresence {x : PresenceEntry} (same : x.place = e.place) :
    (s.putPresence e).putPresence x = s.putPresence x := by
  unfold State.putPresence
  rw [insertBy_insertBy same]

/-! ### A miss -/

/-- The entry with one miss more, 255 at most (R115). -/
def PresenceEntry.missed (e : PresenceEntry) : PresenceEntry := { e with missCount := min 255 (e.missCount + 1) }

theorem State.countMiss_eq (found : s.presenceAt k address = some e) (known : e.state ≠ .foreign)
    (misses : e.missCount ≤ 255) :
    s.countMiss k address =
      if e.state = .active ∧ (s.kiln k).config.lossLimit ≤ e.missed.missCount then
        (s.putPresence { e.missed with state := .lost }).addProbeEvent k .lost
      else s.putPresence e.missed := by
  have count : (if e.missCount < 255 then e.missCount + 1 else e.missCount) = min 255 (e.missCount + 1) := by
    split_ifs <;> omega
  unfold State.countMiss
  rw [found]
  simp only [if_neg known, PresenceEntry.miss, count]
  by_cases lost : e.state = .active ∧ (s.kiln k).config.lossLimit ≤ e.missed.missCount
  · have lost' : e.state = .active ∧ (s.kiln k).config.lossLimit ≤ min 255 (e.missCount + 1) := lost
    rw [if_pos lost, if_pos lost']
    rfl
  · have lost' : ¬(e.state = .active ∧ (s.kiln k).config.lossLimit ≤ min 255 (e.missCount + 1)) := lost
    rw [if_neg lost, if_neg lost']
    rfl

theorem State.countMiss_of_absent (absent : s.presenceAt k address = none) : s.countMiss k address = s := by
  unfold State.countMiss
  rw [absent]

theorem State.countMiss_of_foreign (found : s.presenceAt k address = some e) (foreign : e.state = .foreign) :
    s.countMiss k address = s := by
  unfold State.countMiss
  rw [found]
  exact if_pos foreign

/-- What leaves a kiln's sweep as it is, but for its events: its kind, its list and its discard mark. -/
def State.SweepStays (s t : State) (k : KilnNo) : Prop :=
  (t.sweep k).kind = (s.sweep k).kind ∧ (t.sweep k).outstanding = (s.sweep k).outstanding

theorem State.addProbeEvent_stays (j : KilnNo) (event : ProbeEvent) : s.SweepStays (s.addProbeEvent j event) k := by
  unfold State.SweepStays
  rw [State.addProbeEvent_sweep]
  split_ifs with here
  · subst here; exact ⟨rfl, rfl⟩
  · exact ⟨rfl, rfl⟩

theorem State.SweepStays.trans {t u : State} (first : s.SweepStays t k) (second : t.SweepStays u k) : s.SweepStays u k :=
  ⟨second.1.trans first.1, second.2.trans first.2⟩

theorem State.countMiss_stays : s.SweepStays (s.countMiss k address) k := by
  unfold State.countMiss
  split
  · split
    · exact ⟨rfl, rfl⟩
    · dsimp only
      split
      · exact State.SweepStays.trans (⟨rfl, rfl⟩ : s.SweepStays (s.putPresence _) k) (State.addProbeEvent_stays k .lost)
      · exact ⟨rfl, rfl⟩
  · exact ⟨rfl, rfl⟩

theorem State.completeIfDone_eq :
    s.completeIfDone k =
      if (s.sweep k).kind.isSome ∧ (s.sweep k).outstanding = [] then s.completeSweep k else s := by
  refine if_congr ?_ rfl rfl
  rw [Bool.and_eq_true, List.isEmpty_iff]

theorem State.SweepStays.completeIfDone {t : State} (stays : s.SweepStays t k) :
    t.completeIfDone k =
      if (s.sweep k).kind.isSome ∧ (s.sweep k).outstanding = [] then t.completeSweep k else t := by
  rw [State.completeIfDone_eq, stays.1, stays.2]

/-! ### A reading -/

/-- The entry with a reading that gives it no moisture (R9, R114). -/
def PresenceEntry.unread (e : PresenceEntry) (l : Nat) (reading : Reading) : PresenceEntry :=
  { e with lastClass := some reading.cls, lastL := some l, lastMc := none, lastFlags := reading.flags }

/-- The entry with a USABLE reading, smoothed (R9, R10, R114). -/
def PresenceEntry.read (e : PresenceEntry) (l : Nat) (reading : Reading) (mc : Nat) (c : KilnConfig) : PresenceEntry :=
  let x := smooth (if e.state = .lost then none else e.smoothed) (if e.state = .lost then 0 else e.suspectCount)
    mc c.smoothingShift c.jumpLimit
  { e with
    state := .active, missCount := 0, lastClass := some .usable, lastL := some l, lastMc := some mc,
    lastFlags := { reading.flags with suspect := x.suspect, reseeded := x.reseeded },
    smoothed := some x.value, suspectCount := x.suspectCount }

theorem convert_lCode (l : Nat) (fault : Bool) (temperature : Option Int) (species : Option SpeciesEntry) :
    (convert l fault temperature species).lCode = l := by
  unfold convert
  split_ifs
  · rfl
  · rfl
  · rfl
  · cases species <;> rfl

theorem State.recordReading_eq (placed : e.port = k) (known : e.state ≠ .foreign) (misses : e.missCount ≤ 255)
    (reading : Reading) {l : Nat} (code : reading.lCode = l) :
    s.recordReading k e reading =
      match reading.cls, reading.mc with
      | .usable, some mc =>
        if e.state = .lost then (s.putPresence (e.read l reading mc (s.kiln k).config)).addProbeEvent k .recovered
        else s.putPresence (e.read l reading mc (s.kiln k).config)
      | .noCurve, _ => s.putPresence (e.unread l reading)
      | _, _ =>
        if e.state = .active ∧ (s.kiln k).config.lossLimit ≤ (e.unread l reading).missed.missCount then
          (s.putPresence { (e.unread l reading).missed with state := .lost }).addProbeEvent k .lost
        else s.putPresence (e.unread l reading).missed := by
  obtain ⟨cls, lCode, mc, flags⟩ := reading
  subst code placed
  have missed : ((s.putPresence (e.unread lCode ⟨cls, lCode, mc, flags⟩)).countMiss e.port e.address) =
      if e.state = .active ∧
          (s.kiln e.port).config.lossLimit ≤ (e.unread lCode ⟨cls, lCode, mc, flags⟩).missed.missCount then
        (s.putPresence { (e.unread lCode ⟨cls, lCode, mc, flags⟩).missed with state := .lost }).addProbeEvent e.port .lost
      else s.putPresence (e.unread lCode ⟨cls, lCode, mc, flags⟩).missed := by
    refine (State.countMiss_eq (e := e.unread lCode ⟨cls, lCode, mc, flags⟩) (State.putPresence_presenceAt rfl) known misses).trans ?_
    exact if_congr Iff.rfl
      (congrArg (fun t : State => t.addProbeEvent e.port .lost) (State.putPresence_putPresence rfl))
      (State.putPresence_putPresence rfl)
  have smoothed (mc : Nat) : e.takeUsable ⟨.usable, lCode, some mc, flags⟩ mc (s.kiln e.port).config.smoothingShift
      (s.kiln e.port).config.jumpLimit = e.read lCode ⟨.usable, lCode, some mc, flags⟩ mc (s.kiln e.port).config := by
    simp only [PresenceEntry.takeUsable, PresenceEntry.read, beq_iff_eq]
  cases cls with
  | usable =>
    cases mc with
    | some mc =>
      unfold State.recordReading
      dsimp only
      rw [smoothed]
    | none => exact missed
  | noCurve => rfl
  | short => exact missed
  | openLead => exact missed
  | faulted => exact missed

theorem State.recordReading_stays (reading : Reading) : s.SweepStays (s.recordReading k e reading) k := by
  have put (x : PresenceEntry) : s.SweepStays (s.putPresence x) k := ⟨rfl, rfl⟩
  unfold State.recordReading
  split
  · dsimp only
    split_ifs
    · exact (put _).trans (State.addProbeEvent_stays k .recovered)
    · exact put _
  · exact put _
  all_goals
    have counted := State.countMiss_stays (s := s.putPresence (e.takeUnusable reading)) (k := k) (address := e.address)
    exact (put _).trans counted

theorem State.probeReading_stays (lCode : Nat) (fault : Bool) : s.SweepStays (s.probeReading k address lCode fault) k := by
  unfold State.probeReading
  split
  · split
    · exact ⟨rfl, rfl⟩
    · exact State.recordReading_stays _
  · exact ⟨rfl, rfl⟩

/-! ### A GOOD outcome -/

theorem State.SweepStays.refl (s : State) (k : KilnNo) : s.SweepStays s k := ⟨rfl, rfl⟩

theorem replySerial_read (l : Nat) (status : Octet) (serials : serial < 4294967296) :
    replySerial .read (u32 serial ++ u16 l ++ [status]) = some serial :=
  congrArg Option.some (num32_octets (by simpa [isU32] using serials))

/-- A serial heard that gives its reading to the entry it settled (R112 to R114). -/
theorem State.goodProbeOutcome_read (l : Nat) (status : Octet) (serials : serial < 4294967296) (codes : l < 65536) :
    s.goodProbeOutcome k address .read (u32 serial ++ u16 l ++ [status]) =
      (s.resolveIdentity k address serial).probeReading k address l (status.getLsbD 0) := by
  have serial_read := replySerial_read l status serials
  have reading : replyReading (u32 serial ++ u16 l ++ [status]) = some (l, status.getLsbD 0) :=
    congrArg (fun l => Option.some (l, status.getLsbD 0)) (num16_octets (by simpa [isU16] using codes))
  unfold State.goodProbeOutcome
  rw [serial_read, reading]

theorem replySerial_identify {kind version : Nat} (serials : serial < 4294967296) (kinds : kind < 256) :
    replySerial .identify (u8 kind ++ u32 serial ++ u16 version) = if kind = 2 then some serial else none := by
  have is_probe : BitVec.ofNat 8 kind = 0x02 ↔ kind = 2 := by
    rw [← BitVec.toNat_inj, BitVec.toNat_ofNat, Nat.mod_eq_of_lt kinds]
    exact Iff.rfl
  have value := congrArg Option.some (num32_octets (n := serial) (by simpa [isU32] using serials))
  refine (if_congr is_probe ?_ rfl :)
  exact value

theorem State.goodProbeOutcome_identify {kind version : Nat} (serials : serial < 4294967296) (kinds : kind < 256) :
    s.goodProbeOutcome k address .identify (u8 kind ++ u32 serial ++ u16 version) =
      if kind = 2 then s.resolveIdentity k address serial else s := by
  unfold State.goodProbeOutcome
  rw [replySerial_identify serials kinds]
  split_ifs <;> rfl

theorem State.PresenceSound.resolveIdentity_presenceAt (h : s.PresenceSound) (high : address ≤ 24) :
    (s.resolveIdentity k address serial).presenceAt k address =
      if s.fullFor k address serial then none else some (s.settledEntry k address serial) := by
  rw [State.presenceAt, h.resolveIdentity_presence high]
  by_cases full : s.fullFor k address serial = true
  · rw [if_pos full, if_pos full]
    rw [State.fullFor, Bool.and_eq_true, Option.isNone_iff_eq_none] at full
    exact full.2
  · rw [if_neg full, if_neg full]
    obtain ⟨port, place, -⟩ := h.settledEntry_placed high (k := k) (serial := serial)
    have at_place : (s.settledEntry k address serial).place = placeOf k address := by
      rw [PresenceEntry.place, placeOf, port, place]
    exact at_place ▸ findBy_insertBy PresenceEntry.place _ _

theorem State.PresenceSound.settledEntry_shape (h : s.PresenceSound) (low : 1 ≤ address) (high : address ≤ 24) :
    (s.settledEntry k address serial).shape = true := by
  unfold State.settledEntry
  cases known : s.knownAt k address serial with
  | some e =>
    obtain ⟨member, -⟩ := (h.knownAt_iff high).mp known
    exact PresenceEntry.resolved_shape (h.shaped e member) _
  | none => exact PresenceEntry.created_shape _ _ low high _

/-- The entry that identity resolution leaves at the address is of that place and in shape. -/
theorem State.PresenceSound.resolveIdentity_found (h : s.PresenceSound) (low : 1 ≤ address) (high : address ≤ 24)
    (found : (s.resolveIdentity k address serial).presenceAt k address = some e) :
    e.port = k ∧ e.address = address ∧ e.missCount ≤ 255 := by
  rw [h.resolveIdentity_presenceAt high] at found
  split_ifs at found
  obtain rfl := Option.some.inj found
  obtain ⟨port, place, -⟩ := h.settledEntry_placed high (k := k) (serial := serial)
  exact ⟨port, place, ((PresenceEntry.shape_iff _).mp (h.settledEntry_shape low high)).2.2.2.1⟩

theorem State.PresenceSound.resolveIdentity_stays (h : s.PresenceSound) (high : address ≤ 24)
    (here : ∀ e, s.presenceOf serial = some e → e.port = k ∧ e.address = address) :
    s.SweepStays (s.resolveIdentity k address serial) k := by
  have unmoved : s.movedFrom k address serial = none := by
    rw [State.movedFrom, Option.filter_eq_none_iff]
    intro e found
    simpa using here e found
  have left : s.sweepLeft k address serial k = s.sweep k := by
    rw [State.sweepLeft, State.droppedFor, unmoved]
    rfl
  unfold State.SweepStays
  rw [h.resolveIdentity_sweep high, left]
  exact ⟨rfl, rfl⟩

/-! ### The outcome taken from the list -/

section
variable {command : ProbeCommand} {outcome : ExchangeOutcome} {data : List Octet}

/-- Kiln k's sweep with the exchange taken from its outstanding list (R111). -/
def State.sweepWithout (s : State) (k : KilnNo) (x : Nat × ProbeCommand) : State :=
  s.setSweep k { s.sweep k with outstanding := (s.sweep k).outstanding.erase x }

theorem State.sweepWithout_sweep (x : Nat × ProbeCommand) :
    (s.sweepWithout k x).sweep k = { s.sweep k with outstanding := (s.sweep k).outstanding.erase x } :=
  State.sweep_setSweep_same _

theorem State.probeOutcome_of_outstanding (kept : (s.sweep k).discard ≠ some (address, command))
    (outstanding : (address, command) ∈ (s.sweep k).outstanding) :
    s.probeOutcome k address command outcome data =
      let handled := ((s.sweepWithout k (address, command)).handleProbeOutcome k address command outcome data).completeIfDone k
      match s.leftKiln k command outcome data with
      | some j => handled.completeIfDone j
      | none => handled := by
  unfold State.probeOutcome
  rw [if_neg kept, if_pos outstanding]
  rfl

theorem State.leftKiln_of_failed (failed : outcome ≠ .good) : s.leftKiln k command outcome data = none := by
  unfold State.leftKiln
  split
  · exact absurd rfl failed
  · rfl

theorem State.leftKiln_of_good (named : replySerial command data = some serial) :
    s.leftKiln k command .good data =
      match s.presenceOf serial with
      | some e => if e.port = k then none else some e.port
      | none => none := by
  unfold State.leftKiln
  rw [named] <;> rfl

theorem State.handleProbeOutcome_of_failed (failed : outcome ≠ .good) :
    s.handleProbeOutcome k address command outcome data =
      match command with
      | .read => s.countMiss k address
      | .identify => s := by
  cases outcome with
  | good => exact absurd rfl failed
  | _ => cases command <;> rfl

theorem State.handleProbeOutcome_good :
    s.handleProbeOutcome k address command .good data = s.goodProbeOutcome k address command data := by
  cases command <;> rfl

theorem State.leftKiln_of_unnamed (unnamed : replySerial command data = none) :
    s.leftKiln k command .good data = none := by
  unfold State.leftKiln
  rw [unnamed]

theorem State.leftKiln_of_here (named : replySerial command data = some serial)
    (here : ∀ e, s.presenceOf serial = some e → e.port = k) : s.leftKiln k command .good data = none := by
  rw [State.leftKiln_of_good named]
  cases found : s.presenceOf serial with
  | none => rfl
  | some e => exact if_pos (here e found)

section
variable (kept : (s.sweep k).discard ≠ some (address, command)) (outstanding : (address, command) ∈ (s.sweep k).outstanding)
include kept outstanding

/-- R111, R115: a failure counts a miss to a read, and may complete the sweep. -/
theorem State.probeOutcome_of_failed (failed : outcome ≠ .good) :
    s.probeOutcome k address command outcome data =
      (match command with
        | .read => (s.sweepWithout k (address, command)).countMiss k address
        | .identify => s.sweepWithout k (address, command)).completeIfDone k := by
  rw [State.probeOutcome_of_outstanding kept outstanding, State.leftKiln_of_failed failed,
    State.handleProbeOutcome_of_failed failed]

theorem State.probeOutcome_of_stays (stays : s.leftKiln k command .good data = none) :
    s.probeOutcome k address command .good data =
      ((s.sweepWithout k (address, command)).goodProbeOutcome k address command data).completeIfDone k := by
  rw [State.probeOutcome_of_outstanding kept outstanding, stays, State.handleProbeOutcome_good]

/-- R116: a GOOD outcome of a serial that stood on another port may complete that kiln's sweep too. -/
theorem State.probeOutcome_of_named (named : replySerial command data = some serial) {t : State}
    {finished : State → KilnNo → State} (done : ∀ t j, t.completeIfDone j = finished t j)
    (handled : (s.sweepWithout k (address, command)).goodProbeOutcome k address command data = t) :
    s.probeOutcome k address command .good data =
      match s.presenceOf serial with
      | some e => if e.port = k then finished t k else finished (finished t k) e.port
      | none => finished t k := by
  rw [State.probeOutcome_of_outstanding kept outstanding, State.leftKiln_of_good named, State.handleProbeOutcome_good,
    handled]
  cases s.presenceOf serial with
  | none => exact done t k
  | some e =>
    dsimp only
    split_ifs
    · exact done t k
    · rw [done t k]
      exact done _ e.port

end

theorem State.PresenceSound.sweepWithout (h : s.PresenceSound) (x : Nat × ProbeCommand) :
    (s.sweepWithout k x).PresenceSound :=
  ⟨⟨h.places, h.room, h.serials⟩, h.shaped⟩

theorem State.PresenceSound.goodProbeOutcome_stays (h : s.PresenceSound) (high : address ≤ 24)
    (serials : serial < 4294967296) {l : Nat} (codes : l < 65536) (status : Octet)
    (here : ∀ e, s.presenceOf serial = some e → e.port = k ∧ e.address = address) :
    s.SweepStays (s.goodProbeOutcome k address .read (u32 serial ++ u16 l ++ [status])) k := by
  rw [State.goodProbeOutcome_read l status serials codes]
  exact (h.resolveIdentity_stays high here).trans (State.probeReading_stays _ _)

end

end

end Sys2Proof.Machine
end

section
/-! PROOFS. The statement on the outcomes of sweep exchanges. -/
open Sys2Proof Sys2Proof.Machine

/-- Settles O44: a failure by the miss it counts, a GOOD outcome by the identity it resolves and the reading it records. -/
theorem sweepOutcomesReachTheEntries : Obligations.SweepOutcomesReachTheEntries := by
  unfold Obligations.SweepOutcomesReachTheEntries
  refine ⟨fun s k address command outcome data event => ?_, ?_⟩
  · intro w left finished
    refine ⟨fun discarded => if_pos discarded, fun kept absent => (if_neg kept).trans (if_neg absent), ?_,
      State.addProbeEvent_eq event⟩
    intro kept outstanding failed
    have taken : left.sweep k = { w with outstanding := w.outstanding.erase (address, command) } :=
      State.sweepWithout_sweep (address, command)
    have outcome_eq := State.probeOutcome_of_failed (data := data) kept outstanding failed
    have done {t : State} (stays : left.SweepStays t k) : t.completeIfDone k = finished t := by
      rw [stays.completeIfDone, taken]
    have unchanged {t : State} (same : t = left) : t.completeIfDone k = finished left := by
      rw [same]
      exact done (State.SweepStays.refl _ _)
    refine ⟨fun unread => outcome_eq.trans ?_, fun e found read => ?_⟩
    · cases command with
      | identify => exact unchanged rfl
      | read => exact unchanged (State.countMiss_of_absent (s := left) (unread.resolve_left (by simp)))
    · subst read
      refine ⟨fun foreign => outcome_eq.trans (unchanged (State.countMiss_of_foreign (s := left) found foreign)),
        fun known misses => outcome_eq.trans ?_⟩
      exact (done State.countMiss_stays).trans (congrArg finished (State.countMiss_eq (s := left) found known misses))
  · intro s k address serial l kind version status tables shaped low high serials codes w data recorded
    have sound := State.presenceSound_of_kept tables shaped
    have named : replySerial .read data = some serial := replySerial_read l status serials
    have recorded_eq {t : State} (sound : t.PresenceSound) : t.goodProbeOutcome k address .read data = recorded t := by
      refine (State.goodProbeOutcome_read l status serials codes).trans ?_
      change State.probeReading _ k address l (status.getLsbD 0) =
        match (t.resolveIdentity k address serial).presenceAt k address with | none => _ | some e => _
      unfold State.probeReading
      cases found : (t.resolveIdentity k address serial).presenceAt k address with
      | none => rfl
      | some e =>
        obtain ⟨placed, -, misses⟩ := sound.resolveIdentity_found low high found
        dsimp only
        by_cases foreign : e.state = .foreign
        · rw [if_pos foreign, if_pos foreign]
        · rw [if_neg foreign, if_neg foreign]
          refine (State.recordReading_eq placed foreign misses _ (convert_lCode l _ _ _)).trans ?_
          rfl
    have identified {t : State} (kinds : kind < 256) :
        t.goodProbeOutcome k address .identify (u8 kind ++ u32 serial ++ u16 version) =
          if kind = 2 then t.resolveIdentity k address serial else t :=
      State.goodProbeOutcome_identify serials kinds
    refine ⟨fun kinds _ => identified kinds, recorded_eq sound, ?_, ?_⟩
    · intro kept outstanding here left
      have stays : left.SweepStays (left.goodProbeOutcome k address .read data) k :=
        (sound.sweepWithout _).goodProbeOutcome_stays high serials codes status here
      have taken : left.sweep k = { w with outstanding := w.outstanding.erase (address, .read) } :=
        State.sweepWithout_sweep (address, .read)
      have recorded_left : left.goodProbeOutcome k address .read data = recorded left := recorded_eq (sound.sweepWithout _)
      have nowhere := State.leftKiln_of_here named fun e found => (here e found).1
      refine (State.probeOutcome_of_stays kept outstanding nowhere).trans (stays.completeIfDone.trans ?_)
      rw [taken, recorded_left]
    · intro command kinds versions kept outstanding left finished
      have done (t : State) (j : KilnNo) : t.completeIfDone j = finished t j := State.completeIfDone_eq
      refine ⟨fun identify other => ?_, fun probe => ?_⟩
      · subst identify
        have nowhere : s.leftKiln k .identify .good (u8 kind ++ u32 serial ++ u16 version) = none :=
          State.leftKiln_of_unnamed ((replySerial_identify serials kinds).trans (if_neg other))
        refine (State.probeOutcome_of_stays kept outstanding nowhere).trans ((done _ k).trans (congrArg (finished · k) ?_))
        exact (identified kinds).trans (if_neg other)
      · intro heard
        cases command with
        | read => exact State.probeOutcome_of_named kept outstanding named done (recorded_eq (sound.sweepWithout _))
        | identify =>
          have is_probe : kind = 2 := probe.resolve_left (by simp)
          exact State.probeOutcome_of_named kept outstanding ((replySerial_identify serials kinds).trans (if_pos is_probe))
            done ((identified kinds).trans (if_pos is_probe))

end

section
/-! PROOFS. Meter samples and the grade decision: the settled reading and the grade that follows it. -/
namespace Sys2Proof.Machine

section
variable {s : State} {sequence : Nat} {x : Piece}

/-- A change of the last element picked that leaves it as it is leaves the list. -/
theorem updateLast_of_found {α : Type} {q : α → Bool} {f : α → α} {list : List α} {x : α} (found : findLast q list = some x)
    (same : f x = x) : updateLast q f list = list := by
  obtain ⟨picked, before, after, rfl, rest⟩ := findLast_some found
  rw [updateLast_append before picked rest, same]

theorem meterReply_octets {l : Nat} {celsius : Int} (codes : l < 65536) (low : -32768 ≤ celsius) (high : celsius < 32768)
    (fault : Bool) : meterReply (u16 l ++ i16 celsius ++ flag fault) = some (l, celsius, fault) := by
  have code : num16 (BitVec.ofNat 8 (l / 256)) (BitVec.ofNat 8 l) = l := num16_octets (by simpa [isU16] using codes)
  have board := int16_octets (x := celsius) (by simp [isI16]; omega)
  have status : (BitVec.ofNat 8 (if fault then 1 else 0)).getLsbD 0 = fault := by cases fault <;> rfl
  change some (num16 _ _, int16 _ _, BitVec.getLsbD _ 0) = _
  rw [code, board, status]

theorem State.meterOutcome_of_owner {outcome : ExchangeOutcome} {data : List Octet}
    (owner : s.line.sampleOwner = some sequence) :
    s.meterOutcome outcome data =
      (match outcome, meterReply data, s.piece sequence with
      | .good, some (l, t, fault), some p =>
        ({ s with line := { s.line with sampleOwner := none } }).meterReading p
          (convert l fault (some t) (s.pieceSpecies p))
      | _, _, _ => ({ s with line := { s.line with sampleOwner := none } }).noReply sequence).decideGrade sequence := by
  unfold State.meterOutcome
  rw [owner]
  rfl

theorem State.piece_sequence (found : s.piece sequence = some x) : x.sequence = sequence := by
  obtain ⟨picked, -⟩ := findLast_some found
  simpa using picked

/-- R133: the grade decided for a queued piece. -/
theorem State.decideGrade_of_piece (found : s.piece sequence = some x) :
    s.decideGrade sequence =
      match x.grade, x.length with
      | .pending, some length =>
        (s.gradeOf x length).2.modifyPiece sequence fun p => { p with grade := (s.gradeOf x length).1 }
      | _, _ => s := by
  unfold State.decideGrade
  rw [found] <;> rfl

/-- R131: a converted reading settles the piece's, and joins its charge's meter sum when it is USABLE. -/
theorem State.meterReading_eq (s : State) (x : Piece) (reading : Reading) :
    s.meterReading x reading =
      match reading.cls, reading.mc with
      | .usable, some mc =>
        ({ s with
           charges := (if x.charge = 0 then s.charges
            else
              updateBy Charge.number x.charge
                (fun (c : Charge) => { c with meterSum := c.meterSum + mc, meterCount := c.meterCount + 1 })
                s.charges) }).settleReading x.sequence (.read mc)
      | _, _ => s.settleReading x.sequence (.none .unusable) := by
  obtain ⟨cls, l, mc, flags⟩ := reading
  cases cls with
  | usable =>
    cases mc with
    | none => rfl
    | some mc =>
      dsimp only [State.meterReading, State.addMeterReading]
      split_ifs <;> rfl
  | _ => rfl

/-- A piece left PENDING is not changed. -/
theorem State.modifyPiece_pending (found : s.piece sequence = some x) (pending : x.grade = .pending) :
    (s.modifyPiece sequence fun p => { p with grade := .pending }) = s := by
  have same := updateLast_of_found (f := fun p : Piece => { p with grade := .pending }) found (by rw [← pending])
  exact congrArg (fun queue : List Piece => { s with line := { s.line with queue := queue } }) same

end

end Sys2Proof.Machine
end

section
/-! PROOFS. The statement on meter samples and grades. -/
open Sys2Proof Sys2Proof.Machine

/-- Settles O49, by the outcome, the class of the reading, and the rows of R133. -/
theorem samplesAndLengthsGradeThePieces : Obligations.SamplesAndLengthsGradeThePieces := by
  unfold Obligations.SamplesAndLengthsGradeThePieces
  refine ⟨fun s outcome l celsius fault codes low high => ?_, fun s sequence x found => ?_⟩
  · intro lost
    have reply := meterReply_octets codes low high fault
    refine ⟨fun on => ?_, fun unowned => ?_, fun sequence owner => ⟨fun failed => ?_, fun x found => ?_⟩⟩
    · have whenOn {f : State → State} : s.whenOn f = f s := State.whenOn_on s (beq_iff_eq.mp on)
      refine congrArg Host.Outcome.next (whenOn.trans ?_)
      cases next : s.reportNext .meterPortLeftUp with
      | false => rfl
      | true =>
        change (s.takeReport .meterPortLeftUp).meterPortLost = match s.line.sampleOwner with | some _ => _ | none => _
        unfold State.meterPortLost State.takeReport
        dsimp only
        cases s.line.sampleOwner <;> rfl
    · unfold State.meterOutcome
      rw [unowned]
    · rw [State.meterOutcome_of_owner owner]
      refine congrArg (State.decideGrade · sequence) ?_
      cases outcome with
      | good => exact absurd rfl failed
      | _ => rfl
    · intro reading settled
      rw [State.meterOutcome_of_owner owner, reply, found]
      obtain rfl := State.piece_sequence found
      dsimp only
      rw [State.meterReading_eq]
      change State.decideGrade (match reading.cls, reading.mc with | .usable, some mc => _ | _, _ => _) x.sequence = _
      cases reading.cls with
      | usable => cases reading.mc <;> rfl
      | _ => rfl
  · intro graded entry
    rw [State.decideGrade_of_piece found]
    cases graded_already : x.grade with
    | pending =>
      cases measured : x.length with
      | none => rfl
      | some length =>
        unfold State.gradeOf
        cases x.reading with
        | pending => exact State.modifyPiece_pending found graded_already
        | none reason => rfl
        | read mc =>
          dsimp only
          by_cases short : length < s.line.config.shortLimit
          · rw [if_pos short]
            exact (if_pos short).symm
          · rw [if_neg short, if_neg short]
            change State.modifyPiece (if s.packable x mc then _ else _ : Grade × State).2 sequence _ =
              if s.packable x mc = false then _ else _
            cases s.packable x mc with
            | false => rfl
            | true =>
              change State.modifyPiece
                (match s.chooseBay length (x.species.getD 0) x.charge with | some b => _ | none => _ : Grade × State).2
                sequence _ = match s.chooseBay length (x.species.getD 0) x.charge with | some b => _ | none => _
              cases s.chooseBay length (x.species.getD 0) x.charge <;> rfl
    | _ => rfl

end

section
/-! PROOFS. Bays and packs: closing a pack, the record it becomes, and the places that a collected record frees. -/
namespace Sys2Proof.Machine

section
variable {s : State} {b : BayNo} {p : OpenPack}

/-! ### Closing (R153) -/

theorem State.closePack_of_unstacked (pack : (s.bay b).openPack = some p) (unstacked : p.stacked = 0) :
    s.closePack b = s.setBay b { s.bay b with state := .empty, openPack := none } := by
  unfold State.closePack
  rw [pack]
  exact if_pos unstacked

theorem State.someBayWaits_eq_false : s.someBayWaits = false ↔ ∀ d : BayNo, (s.bay d).state ≠ .waitRecord := by
  have all (d : BayNo) : d ∈ allBays := by revert d; decide
  simp only [State.someBayWaits, List.any_eq_false, beq_iff_eq]
  exact ⟨fun none d => none d (all d), fun none d _ => none d⟩

theorem State.closePack_of_full (pack : (s.bay b).openPack = some p) (stacked : p.stacked ≠ 0) (full : 8 ≤ s.packs.length) :
    s.closePack b =
      if ∀ d : BayNo, (s.bay d).state ≠ .waitRecord then
        (s.setBay b { s.bay b with state := .waitRecord }).addCause .recordsFull
      else s.setBay b { s.bay b with state := .waitRecord } := by
  unfold State.closePack
  rw [pack]
  refine (if_neg stacked).trans ((if_pos full).trans ?_)
  exact if_congr ((Bool.not_eq_true' _).to_iff.trans State.someBayWaits_eq_false) rfl rfl

theorem State.closePack_of_room (pack : (s.bay b).openPack = some p) (stacked : p.stacked ≠ 0)
    (room : s.packs.length < 8) : s.closePack b = s.writeRecord b p := by
  unfold State.closePack
  rw [pack]
  exact (if_neg stacked).trans (if_neg (Nat.not_le.mpr room))

theorem State.closePack_modifyLink (g : Link → Link) (b : BayNo) :
    (s.modifyLink g).closePack b = (s.closePack b).modifyLink g := by
  have bay : (s.modifyLink g).bay b = s.bay b := rfl
  have waits : (s.modifyLink g).someBayWaits = s.someBayWaits := rfl
  have packs : (s.modifyLink g).packs = s.packs := rfl
  have written (p : OpenPack) : (s.modifyLink g).writeRecord b p = (s.writeRecord b p).modifyLink g :=
    s.writeRecord_modifyLineLink id g b p
  have changed (h : Bay → Bay) : (s.modifyLink g).modifyBay b h = (s.modifyBay b h).modifyLink g := rfl
  have caused (t : State) (cause : StopCause) : (t.modifyLink g).addCause cause = (t.addCause cause).modifyLink g := by
    simp only [State.addCause, apply_ite (State.modifyLink · g)]
    rfl
  simp only [State.closePack, bay, waits, packs, changed, caused, written]
  cases (s.bay b).openPack with
  | none => rfl
  | some p => simp only [apply_ite (State.modifyLink · g)]

/-! ### The record a pack becomes (R150 to R152) -/

theorem State.writeRecord_bays :
    (s.writeRecord b p).bays = (s.setBay b { s.bay b with state := .labelling, openPack := none }).bays := by
  simp only [State.writeRecord, State.postPackReady_frame, State.appendJob_frame]
  rfl

theorem State.writeRecord_bay (d : BayNo) :
    (s.writeRecord b p).bay d = if b = d then { s.bay b with state := .labelling, openPack := none } else s.bay d := by
  have bays := State.writeRecord_bays (s := s) (b := b) (p := p)
  rw [State.bay, bays]
  exact State.bay_setBay s b d _

theorem State.writeRecord_packs :
    (s.writeRecord b p).packs = s.packs ++ [p.closedRecord s.issuedSerial b (s.bay b).nominal s.dateDigits] := by
  simp [State.writeRecord]

theorem State.writeRecord_backup : (s.writeRecord b p).backup = { s.backup with packCounter := s.issuedSerial } := by
  simp [State.writeRecord]

theorem State.askPort_label (q : PortNo) (w : WaitingExchange) : (s.askPort q w).label = s.label := by simp

theorem State.startCurrent_jobs : s.startCurrent.label.jobs = s.label.jobs := by
  unfold State.startCurrent
  split
  · unfold State.askPrint
    split
    · rw [State.askPort_label]; rfl
    · rfl
    · rfl
  · rfl

theorem State.appendJob_jobs (serial : Nat) : (s.appendJob serial).label.jobs = s.label.jobs ++ [serial] := by
  rw [State.appendJob_eq]
  split_ifs
  · exact State.startCurrent_jobs
  · rfl

theorem State.writeRecord_jobs : (s.writeRecord b p).label.jobs = s.label.jobs ++ [s.issuedSerial] := by
  simp [State.writeRecord, State.appendJob_jobs]

theorem State.writeRecord_notices :
    (s.writeRecord b p).notices =
      { s.notices with packReady := if s.notices.packReady < 65535 then s.notices.packReady + 1
                                    else s.notices.packReady } := by
  simp [State.writeRecord, State.postPackReady]

/-! ### Serials (R150) -/

theorem nextSerial_eq {n : Nat} (bound : n ≤ 999999) : nextSerial n = n % 999999 + 1 := by
  unfold nextSerial
  split <;> omega

theorem iterate_nextSerial {counter : Nat} (bound : counter ≤ 999999) (m : Nat) :
    nextSerial^[m + 1] counter = (counter + m) % 999999 + 1 := by
  induction m with
  | zero => exact nextSerial_eq bound
  | succ m ih =>
    rw [Function.iterate_succ_apply', ih, nextSerial_eq (by omega)]
    omega

/-- Different serials that are all taken are no more than the records. -/
theorem State.le_packs_length_of_taken {n : Nat} {f : Nat → Nat} (different : ∀ i < n, ∀ j < n, f i = f j → i = j)
    (taken : ∀ m < n, (s.pack (f m)).isSome = true) : n ≤ s.packs.length := by
  have distinct : ((List.range n).map f).Nodup :=
    List.nodup_range.map_on fun i hi j hj same =>
      different i (List.mem_range.mp hi) j (List.mem_range.mp hj) same
  have listed : (List.range n).map f ⊆ s.packs.map PackRecord.serial := by
    intro x member
    obtain ⟨i, below, rfl⟩ := List.mem_map.mp member
    obtain ⟨r, found⟩ := Option.isSome_iff_exists.mp (taken i (List.mem_range.mp below))
    obtain ⟨named, inList⟩ := findBy_some PackRecord.serial found
    exact named ▸ List.mem_map_of_mem inList
  simpa using (distinct.subperm listed).length_le

/-- R150: the serial issued is the first free one after the counter. -/
theorem State.issuedSerial_first_free (room : s.packs.length < 8) (bound : s.backup.packCounter ≤ 999999) :
    s.pack s.issuedSerial = none ∧
      ∃ tries < 9, s.issuedSerial = (s.backup.packCounter + tries) % 999999 + 1 ∧
        ∀ m < tries, (s.pack ((s.backup.packCounter + m) % 999999 + 1)).isSome = true := by
  obtain ⟨tries, few, issued, passed, last⟩ :=
    freeNumber_eq_iterate nextSerial (fun n => (s.pack n).isSome) 8 s.backup.packCounter
  simp only [iterate_nextSerial bound] at issued passed last
  refine ⟨?free, tries, by omega, issued, passed⟩
  rw [← Option.not_isSome_iff_eq_none, State.issuedSerial, issued]
  intro used
  obtain rfl := last used
  have tooMany := s.le_packs_length_of_taken (n := 8) (fun i hi j hj same => by omega) passed
  omega

/-! ### Codes and dates (R151) -/

theorem codeDigits_eq (serial species : Nat) :
    codeDigits serial species =
      [serial / 100000 % 10, serial / 10000 % 10, serial / 1000 % 10, serial / 100 % 10, serial / 10 % 10, serial % 10,
        species / 100 % 10, species / 10 % 10, species % 10] := by
  simp [codeDigits, decimalDigits, Nat.div_div_eq_div_mul]

/-- The digits of a code, weighted 3 and 1 in turn with the check digit, sum to a multiple of ten. -/
theorem checkDigit_sum (a b c d e f g h i : Nat) :
    (3 * (a + c + e + g + i) + (b + d + f + h) + checkDigit [a, b, c, d, e, f, g, h, i]) % 10 = 0 := by
  simp only [checkDigit, codeWeights, List.zipWith_cons_cons, List.zipWith_nil_left, List.sum_cons, List.sum_nil]
  omega

theorem checkDigit_le (digits : List Nat) : checkDigit digits ≤ 9 := by
  unfold checkDigit
  omega

theorem State.dateDigits_eq :
    s.dateDigits =
      if s.backup.clockValid then
        let d := s.backup.clock
        [d.year / 1000 % 10, d.year / 100 % 10, d.year / 10 % 10, d.year % 10, d.month / 10 % 10, d.month % 10,
          d.day / 10 % 10, d.day % 10]
      else List.replicate 8 0 := by
  simp [State.dateDigits, decimalDigits, Nat.div_div_eq_div_mul]

/-- The code of a record: ten digits, the last the check digit; the first nine are the serial and the species. -/
theorem OpenPack.closedRecord_code (p : OpenPack) (serial : Nat) (b : BayNo) (nominal : Nat) (date : List Nat) :
    let r := p.closedRecord serial b nominal date
    r.code.length = 10 ∧ (∀ d ∈ r.code, d ≤ 9) ∧ r.code.getLast? = some r.checkDigit ∧
      (serial < 1000000 → p.species < 1000 →
        r.code.dropLast.foldl (fun n d => 10 * n + d) 0 = 1000 * serial + p.species) ∧
      (3 * (r.code.getD 0 0 + r.code.getD 2 0 + r.code.getD 4 0 + r.code.getD 6 0 + r.code.getD 8 0) +
        (r.code.getD 1 0 + r.code.getD 3 0 + r.code.getD 5 0 + r.code.getD 7 0) + r.code.getD 9 0) % 10 = 0 := by
  intro r
  have digits := codeDigits_eq serial p.species
  have code : r.code = codeDigits serial p.species ++ [r.checkDigit] := rfl
  have check : r.checkDigit = checkDigit (codeDigits serial p.species) := rfl
  refine ⟨?_, ?_, ?_, fun serials species => ?_, ?_⟩
  · rw [code, digits]; rfl
  · have last := checkDigit_le (codeDigits serial p.species)
    rw [digits] at last
    intro d member
    rw [code, check, List.mem_append, List.mem_singleton, digits] at member
    rcases member with member | rfl
    · simp only [List.mem_cons, List.not_mem_nil, or_false] at member
      omega
    · exact last
  · rw [code, List.getLast?_concat]
  · rw [code, List.dropLast_concat, digits]
    simp only [List.foldl_cons, List.foldl_nil]
    omega
  · rw [code, check, digits]
    exact checkDigit_sum _ _ _ _ _ _ _ _ _

/-! ### The freed place (R154) -/

theorem State.givePlace_of_other (other : (s.bay b).state ≠ .waitRecord) : s.givePlace b = s := by
  unfold State.givePlace
  split
  next state _ => exact absurd state other
  next => rfl

theorem State.givePlace_of_full (full : 8 ≤ s.packs.length) : s.givePlace b = s := by
  unfold State.givePlace
  split
  · exact if_neg (Nat.not_lt.mpr full)
  · rfl

theorem State.givePlace_of_room (state : (s.bay b).state = .waitRecord) (pack : (s.bay b).openPack = some p)
    (room : s.packs.length < 8) : s.givePlace b = s.writeRecord b p := by
  unfold State.givePlace
  rw [state, pack]
  exact if_pos room

theorem State.foldl_givePlace_of_others {bays : List BayNo} (others : ∀ d ∈ bays, (s.bay d).state ≠ .waitRecord) :
    bays.foldl State.givePlace s = s := by
  induction bays with
  | nil => rfl
  | cons d rest ih =>
    rw [List.foldl_cons, State.givePlace_of_other (others d (by simp))]
    exact ih fun e member => others e (List.mem_cons_of_mem d member)

theorem State.foldl_givePlace_of_full {bays : List BayNo} (full : 8 ≤ s.packs.length) :
    bays.foldl State.givePlace s = s := by
  induction bays with
  | nil => rfl
  | cons d rest ih => rw [List.foldl_cons, State.givePlace_of_full full, ih]

theorem allBays_split (b : BayNo) :
    allBays = allBays.filter (fun d => decide (d < b)) ++ b :: allBays.filter fun d => decide (b < d) := by
  revert b
  decide

/-- The freed place goes to the first bay that waits. -/
theorem State.foldl_givePlace_of_first (room : s.packs.length = 7) (state : (s.bay b).state = .waitRecord)
    (first : ∀ d < b, (s.bay d).state ≠ .waitRecord) (pack : (s.bay b).openPack = some p) :
    allBays.foldl State.givePlace s = s.writeRecord b p := by
  have written : (s.writeRecord b p).packs.length = 8 := by
    rw [State.writeRecord_packs, List.length_append, room, List.length_singleton]
  rw [allBays_split b, List.foldl_append, List.foldl_cons,
    State.foldl_givePlace_of_others fun d member => first d (by simpa using (List.mem_filter.mp member).2),
    State.givePlace_of_room state pack (by omega), State.foldl_givePlace_of_full written.ge]

end

end Sys2Proof.Machine
end

section
/-! PROOFS. The statement on closing packs. -/
open Sys2Proof Sys2Proof.Machine

/-- Settles O52, by the three cases of a closing and by the first bay that waits. -/
theorem packsCloseIntoRecords : Obligations.PacksCloseIntoRecords := by
  unfold Obligations.PacksCloseIntoRecords
  refine ⟨fun s b p pack c config => ⟨State.closePack_of_unstacked pack, State.closePack_of_full pack, ?_⟩,
    fun s room packs => ?_⟩
  · intro stacked room bound serial t
    have closed : t = s.writeRecord b p := State.closePack_of_room pack stacked room
    obtain ⟨free, tries, few, issued, passed⟩ := State.issuedSerial_first_free room bound
    have serial_eq : serial = (s.backup.packCounter + tries) % 999999 + 1 := issued
    obtain ⟨length, digits, last, value, sum⟩ := p.closedRecord_code serial b (s.bay b).nominal s.dateDigits
    rw [closed]
    refine ⟨⟨by omega, by omega, free, tries, few, issued, passed⟩, State.writeRecord_bays, State.writeRecord_backup,
      State.writeRecord_jobs, State.writeRecord_notices, by simp, by simp, by simp,
      p.closedRecord serial b (s.bay b).nominal s.dateDigits, State.writeRecord_packs, rfl, rfl, rfl, ?_, rfl, rfl, rfl,
      rfl, rfl, rfl, ?_, length, digits, last, fun species => value (by omega) species, sum, State.dateDigits_eq⟩
    · exact congrArg (fun c => match c with | some c => c.nominal | none => 0) config
    · change roundHalfUp p.mcSum (10 * p.stacked) = _
      rw [roundHalfUp]
      congr 1
      omega
  · intro waits
    refine ⟨fun none => ?_, fun b waiting first p pack => ?_⟩
    · have others (d : BayNo) : (s.bay d).state ≠ .waitRecord := by simpa [waits] using none d
      unfold State.giveFreedPlace
      rw [State.foldl_givePlace_of_others fun d _ => others d]
      exact if_neg (by simp [State.someBayWaits_eq_false.mpr others])
    · have given := State.foldl_givePlace_of_first room (by simpa [waits] using waiting)
        (fun d before => by simpa [waits] using first d before) pack
      unfold State.giveFreedPlace
      rw [given]
      have still : (s.writeRecord b p).someBayWaits = false ↔ ∀ d, d ≠ b → waits d = false := by
        rw [State.someBayWaits_eq_false]
        refine forall_congr' fun d => ?_
        rw [State.writeRecord_bay]
        by_cases here : b = d
        · simp [here]
        · simp [here, waits, Ne.symm here]
      by_cases alone : ∀ d, d ≠ b → waits d = false
      · exact (if_neg (by simp [still.mpr alone])).trans (if_pos alone).symm
      · exact (if_pos (by simpa using still.not.mpr alone)).trans (if_neg alone).symm

end

section
/-! PROOFS. The bay requests: the five settings, the closing of an OPEN bay, and what READ-BAY shows. -/
namespace Sys2Proof.Machine

theorem bayOf_succ (b : BayNo) : bayOf (b.val + 1) = some b := dif_pos b.isLt

/-- R142: the settings in their ranges make a configuration, others none. -/
theorem bayConfigOf_eq (enabled lo hi nominal target : Nat) :
    bayConfigOf enabled lo hi nominal target =
      if enabled ≤ 1 ∧ 300 ≤ lo ∧ lo ≤ hi ∧ hi ≤ 9999 ∧ 300 ≤ nominal ∧ nominal ≤ 9999 ∧ 1 ≤ target ∧ target ≤ 2000 then
        some ⟨enabled == 1, lo, hi, nominal, target⟩
      else none := by
  by_cases choice : enabled ≤ 1
  · simp only [bayConfigOf, flagOf_eq_some choice, inRange, Bool.and_eq_true, decide_eq_true_eq]
    exact if_congr (by omega) rfl rfl
  · simp only [bayConfigOf, flagOf_eq_none choice, choice, false_and, if_false]

section
variable {s : State} {b : BayNo} {p : OpenPack}

/-! ### READ-BAY (R160) -/

theorem State.bayRecordSerial_eq :
    s.bayRecordSerial b =
      if (s.bay b).state = .labelling ∨ (s.bay b).state = .labelFault then
        (s.packs.find? fun x => x.bay == b && (x.label != .confirmed && x.label != .void)).map PackRecord.serial
      else none := by
  have unsettled (x : PackRecord) : (!x.label.settled) = (x.label != .confirmed && x.label != .void) := by
    rw [Bool.eq_iff_iff, Bool.not_eq_true', ← Bool.not_eq_true, LabelState.settled_iff]
    simp
  unfold State.bayRecordSerial
  simp only [unsettled]
  cases (s.bay b).state <;> simp

/-! ### CLOSE-PACK (R149) -/

theorem State.closePack_waits (pack : (s.bay b).openPack = some p) (stacked : p.stacked ≠ 0) (full : 8 ≤ s.packs.length) :
    ((s.closePack b).bay b).state = .waitRecord := by
  have waiting : (s.setBay b { s.bay b with state := .waitRecord }).bay b = { s.bay b with state := .waitRecord } :=
    s.bay_setBay_same b _
  have kept : ((s.setBay b { s.bay b with state := .waitRecord }).addCause .recordsFull).bay b =
      (s.setBay b { s.bay b with state := .waitRecord }).bay b := by simp [State.bay]
  rw [State.closePack_of_full pack stacked full]
  split_ifs
  · rw [kept, waiting]
  · rw [waiting]

/-- The bay in CLOSING. -/
def State.closing (s : State) (b : BayNo) : State := s.setBay b { s.bay b with state := .closing }

theorem State.closing_bay : (s.closing b).bay b = { s.bay b with state := .closing } := s.bay_setBay_same b _

theorem State.beginClosing_eq (pack : (s.bay b).openPack = some p) :
    s.beginClosing b = if p.reserved = 0 then (s.closing b).closePack b else s.closing b := by
  have closing_pack : ((s.closing b).bay b).openPack = some p := by rw [State.closing_bay]; exact pack
  change (match ((s.closing b).bay b).openPack with | some p => _ | none => _) = _
  rw [closing_pack] <;> rfl

theorem State.holdRequest_beginClosing (pack : (s.bay b).openPack = some p) (kind : Octet) (request : Option Instr)
    (answered : Bool) :
    (s.holdRequest kind request answered).beginClosing b = (s.beginClosing b).holdRequest kind request answered := by
  have held : ((s.holdRequest kind request answered).bay b).openPack = some p := pack
  rw [State.beginClosing_eq pack, State.beginClosing_eq held]
  split_ifs
  · have held_closing : (s.holdRequest kind request answered).closing b =
      (s.closing b).holdRequest kind request answered := rfl
    rw [held_closing]
    exact State.closePack_modifyLink _ b
  · rfl

theorem closePackAnswer_opened (opened : (s.bay b).state = .opened) :
    closePackAnswer (b.val + 1) s = .ok (u8 ((s.beginClosing b).bay b).state.code) (s.beginClosing b) := by
  unfold closePackAnswer
  rw [bayOf_succ]
  dsimp only
  rw [opened] <;> rfl

theorem closePackAnswer_closing (closing : (s.bay b).state = .closing) :
    closePackAnswer (b.val + 1) s = .ok (u8 3) s := by
  unfold closePackAnswer
  rw [bayOf_succ]
  dsimp only
  rw [closing]
  dsimp only
  rw [State.bayStateContent, closing] <;> rfl

theorem closePackAnswer_other (notOpened : (s.bay b).state ≠ .opened) (notClosing : (s.bay b).state ≠ .closing) :
    closePackAnswer (b.val + 1) s = .refuse .wrongState := by
  unfold closePackAnswer
  rw [bayOf_succ]
  cases state : (s.bay b).state with
  | opened => exact absurd state notOpened
  | closing => exact absurd state notClosing
  | _ => dsimp only; rw [state]

theorem exec_closePack_of_opened (taken : s.takes (.closePack (b.val + 1)) = true) (opened : (s.bay b).state = .opened)
    (pack : (s.bay b).openPack = some p) {t : State} {code : Nat} (closed : s.beginClosing b = t)
    (state : (t.bay b).state.code = code) :
    exec (.closePack (b.val + 1)) s = .next (t.okReply (.closePack (b.val + 1)) (u8 code)) := by
  have held := State.holdRequest_beginClosing pack (requestKind (.closePack (b.val + 1))) (some (.closePack (b.val + 1))) true
  rw [closed] at held
  have answer := closePackAnswer_opened
    (s := s.holdRequest (requestKind (.closePack (b.val + 1))) (some (.closePack (b.val + 1))) true) opened
  rw [held] at answer
  subst state
  exact congrArg Host.Outcome.next (hostRequest_eq_okReply taken answer)

end

end Sys2Proof.Machine
end

section
/-! PROOFS. The statement on the bay requests. -/
open Sys2Proof Sys2Proof.Machine

/-- Settles O50, by the checks of BAY-CONFIG and the ways a closing ends. -/
theorem bayRequestsAnswer : Obligations.BayRequestsAnswer := by
  unfold Obligations.BayRequestsAnswer
  intro s b enabled lo hi nominal target r n
  refine ⟨fun taken => congrArg Host.Outcome.next ?_, fun taken => congrArg Host.Outcome.next ?_, fun taken => ?_⟩
  · have answer (t : State) : bayConfigAnswer n (bayConfigOf enabled lo hi nominal target) t =
        if enabled ≤ 1 ∧ 300 ≤ lo ∧ lo ≤ hi ∧ hi ≤ 9999 ∧ 300 ≤ nominal ∧ nominal ≤ 9999 ∧ 1 ≤ target ∧
            target ≤ 2000 then
          if (t.bay b).state = .empty ∨ (t.bay b).state = .disabled then
            .ok [] (t.modifyBay b fun x => { x with
              config := some ⟨enabled == 1, lo, hi, nominal, target⟩,
              state := if enabled == 1 then .empty else .disabled })
          else .refuse .inUse
        else .refuse .outOfRange := by
      unfold bayConfigAnswer
      rw [bayOf_succ, bayConfigOf_eq]
      by_cases inRanges : enabled ≤ 1 ∧ 300 ≤ lo ∧ lo ≤ hi ∧ hi ≤ 9999 ∧ 300 ≤ nominal ∧ nominal ≤ 9999 ∧ 1 ≤ target ∧
          target ≤ 2000
      · rw [if_pos inRanges, if_pos inRanges]
      · rw [if_neg inRanges, if_neg inRanges]
    dsimp only
    by_cases inRanges : enabled ≤ 1 ∧ 300 ≤ lo ∧ lo ≤ hi ∧ hi ≤ 9999 ∧ 300 ≤ nominal ∧ nominal ≤ 9999 ∧ 1 ≤ target ∧
        target ≤ 2000
    · rw [if_neg (not_not.mpr inRanges)]
      by_cases free : r.state = .empty ∨ r.state = .disabled
      · rw [if_neg (show ¬(r.state ≠ .empty ∧ r.state ≠ .disabled) by tauto)]
        refine hostRequest_eq_okReply_of taken ((answer _).trans ((if_pos inRanges).trans (if_pos free))) ?_
        simp only [beq_iff_eq]
        rfl
      · rw [if_pos (show r.state ≠ .empty ∧ r.state ≠ .disabled by tauto)]
        exact hostRequest_eq_refusal taken ((answer _).trans ((if_pos inRanges).trans (if_neg free)))
    · rw [if_pos inRanges]
      exact hostRequest_eq_refusal taken ((answer _).trans (if_neg inRanges))
  · refine hostRequest_eq_okReply_of (work := s) taken ?_ rfl
    unfold readBayAnswer
    rw [bayOf_succ]
    exact congrArg (fun serial => Answer.ok (r.octets serial) _) State.bayRecordSerial_eq
  · refine ⟨fun notOpened notClosing => ?_, fun closing => ?_, fun p pack opened => ?_⟩
    · exact congrArg Host.Outcome.next (hostRequest_eq_refusal taken (closePackAnswer_other notOpened notClosing))
    · exact congrArg Host.Outcome.next (hostRequest_eq_okReply_of (work := s) taken (closePackAnswer_closing closing) rfl)
    · intro closing
      have begun : s.beginClosing b = if p.reserved = 0 then closing.closePack b else closing :=
        State.beginClosing_eq pack
      have closing_bay : closing.bay b = { r with state := .closing } := State.closing_bay
      have closing_pack : (closing.bay b).openPack = some p := by rw [closing_bay]; exact pack
      by_cases reserved : p.reserved ≠ 0
      · rw [if_pos reserved]
        rw [if_neg reserved] at begun
        exact exec_closePack_of_opened taken opened pack begun (by rw [closing_bay]; rfl)
      · rw [if_neg reserved]
        rw [if_pos (not_not.mp reserved)] at begun
        by_cases unstacked : p.stacked = 0
        · rw [if_pos unstacked]
          have closed : closing.closePack b = s.setBay b { r with state := .empty, openPack := none } := by
            rw [State.closePack_of_unstacked closing_pack unstacked, closing_bay]
            exact State.setBay_setBay _ _ _ _
          exact exec_closePack_of_opened taken opened pack (begun.trans closed) (by rw [State.bay_setBay_same]; rfl)
        · rw [if_neg unstacked]
          by_cases full : 8 ≤ s.packs.length
          · rw [if_pos full]
            refine exec_closePack_of_opened taken opened pack begun ?_
            rw [State.closePack_waits closing_pack unstacked full]
            rfl
          · rw [if_neg full]
            refine exec_closePack_of_opened taken opened pack begun ?_
            rw [State.closePack_of_room closing_pack unstacked (Nat.not_le.mp full), State.writeRecord_bay, if_pos rfl]
            rfl

end

section
/-! PROOFS. Label jobs: the exchanges asked for, and the jobs that end confirmed or in fault. -/
namespace Sys2Proof.Machine

section
variable {s : State} {r : PackRecord}

/-! ### Asking port 8 (R156) -/

/-- R156: an exchange of the label unit that port 8 takes is outstanding; with any other answer nothing changes. -/
theorem State.askPrint_eq (r : PackRecord) :
    s.askPrint r =
      if (s.port 7).state ≠ .up ∨ (s.port 7).waiting.isSome ∨ (∃ e ∈ (s.port 7).exchange, e.command ≠ .identify) then s
      else
        { s with label := { s.label with outstanding := some { status := false, stale := false } } }.askPort 7
          { command := .labelPrint, data := r.labelContent } := by
  have taken := State.labelAnswer_taken_iff (s := s)
  unfold State.askPrint
  cases answer : s.labelAnswer with
  | taken => exact (if_neg (taken.mp answer)).symm
  | _ => exact (if_pos (not_not.mp (taken.not.mp (by simp [answer])))).symm

theorem State.askStatus_eq :
    s.askStatus =
      if (s.port 7).state ≠ .up ∨ (s.port 7).waiting.isSome ∨ (∃ e ∈ (s.port 7).exchange, e.command ≠ .identify) then s
      else
        { s with label := { s.label with outstanding := some { status := true, stale := false } } }.askPort 7
          { command := .labelStatus, data := [] } := by
  have taken := State.labelAnswer_taken_iff (s := s)
  unfold State.askStatus
  cases answer : s.labelAnswer with
  | taken => exact (if_neg (taken.mp answer)).symm
  | _ => exact (if_pos (not_not.mp (taken.not.mp (by simp [answer])))).symm

/-- The label unit without its pause. -/
def State.unpaused (s : State) : State := { s with label := { s.label with pause := false } }

/-- The label unit after its pause with an exchange asked of port 8 (R156). -/
def State.askedAfterPause (s : State) (isStatus : Bool) (w : WaitingExchange) : State :=
  if (s.port 7).state ≠ .up ∨ (s.port 7).waiting.isSome ∨ (∃ e ∈ (s.port 7).exchange, e.command ≠ .identify) then
    s.unpaused
  else
    { s with
      label := { s.label with pause := false, outstanding := some { status := isStatus, stale := false } } }.askPort 7 w

theorem State.labelPauseOver_eq :
    s.labelPauseOver =
      match s.label.phase, s.currentRecord with
      | some .print, some r => s.askedAfterPause false { command := .labelPrint, data := r.labelContent }
      | some .poll, some _ => s.askedAfterPause true { command := .labelStatus, data := [] }
      | _, _ => s.unpaused := by
  have print (r : PackRecord) :
      s.unpaused.askPrint r = s.askedAfterPause false { command := .labelPrint, data := r.labelContent } :=
    State.askPrint_eq r
  have poll : s.unpaused.askStatus = s.askedAfterPause true { command := .labelStatus, data := [] } :=
    State.askStatus_eq
  change (match s.label.phase, s.currentRecord with
    | some .print, some record => s.unpaused.askPrint record | some .poll, some _ => s.unpaused.askStatus
    | _, _ => s.unpaused) = _
  cases s.label.phase with
  | none => rfl
  | some running =>
    cases running with
    | unstarted => rfl
    | print => cases s.currentRecord with
      | none => rfl
      | some r => exact print r
    | poll => cases s.currentRecord with
      | none => rfl
      | some r => exact poll

theorem State.labelPortLost_of_idle (idle : s.label.phase = some .unstarted ∨ s.label.phase = none) :
    s.labelPortLost = { s with label := { s.label with outstanding := none } }.startCurrent := by
  change (match s.label.phase with
    | some .print | some .poll => (s.modifyLabel fun l => { l with outstanding := none }).faultCurrent .port
    | some .unstarted | none => (s.modifyLabel fun l => { l with outstanding := none }).startCurrent) =
    (s.modifyLabel fun l => { l with outstanding := none }).startCurrent
  rcases idle with unstarted | absent
  · rw [unstarted]
  · rw [absent]

theorem State.labelPortLost_of_running (running : s.label.phase = some .print ∨ s.label.phase = some .poll)
    (current : s.currentRecord = some r) :
    s.labelPortLost = { s with label := { s.label with outstanding := none } }.faultLabel r .port none := by
  have phase_kept : (s.modifyLabel fun l => { l with outstanding := none }).label.phase = s.label.phase := rfl
  have record_kept : (s.modifyLabel fun l => { l with outstanding := none }).currentRecord = some r := current
  have faulted : (s.modifyLabel fun l => { l with outstanding := none }).faultCurrent .port =
      (s.modifyLabel fun l => { l with outstanding := none }).faultLabel r .port none := by
    unfold State.faultCurrent
    rw [record_kept]
  unfold State.labelPortLost
  dsimp only
  rw [phase_kept]
  rcases running with print | poll
  · rw [print]
    exact faulted
  · rw [poll]
    exact faulted

/-- The outcome of the exchange that is outstanding and not stale. -/
theorem State.labelOutcome_of_outstanding {isStatus : Bool} (outcome : ExchangeOutcome) (reply : StationReply)
    (outstanding : s.label.outstanding = some { status := isStatus, stale := false }) (current : s.currentRecord = some r) :
    s.labelOutcome isStatus outcome reply =
      if isStatus then { s with label := { s.label with outstanding := none } }.statusOutcome r outcome reply
      else { s with label := { s.label with outstanding := none } }.printOutcome r outcome reply.status := by
  have record_kept : (s.modifyLabel fun l => { l with outstanding := none }).currentRecord = some r := current
  unfold State.labelOutcome
  rw [outstanding]
  dsimp only
  rw [record_kept] <;> rfl

/-! ### The job that ends (R157, R158) -/

theorem LabelUnit.finishJob_eq :
    LabelUnit.finishJob = fun u =>
      { u with jobs := u.jobs.tail, phase := if u.jobs.tail = [] then none else some .unstarted, pause := false,
               timeout := none } := by
  funext u
  simp only [LabelUnit.finishJob, List.isEmpty_iff]

/-- R158: the record's reason and scan-back, the exchange marked stale, the bay in LABEL_FAULT, and the next job. -/
theorem State.faultLabel_eq (reason : LabelFaultReason) (scanBack : Option (List Octet)) :
    s.faultLabel r reason scanBack =
      ({ s with
         packs := s.packs.map fun (x : PackRecord) =>
           if x.serial = r.serial then { x with label := .fault reason, scanBack := scanBack } else x,
         label := { s.label with
                    jobs := s.label.jobs.tail, phase := if s.label.jobs.tail = [] then none else some .unstarted,
                    pause := false, timeout := none,
                    outstanding := s.label.outstanding.map fun (x : LabelExchange) => { x with stale := true } },
         notices := { s.notices with labelFault := s.notices.labelFault.set r.bay.val true r.bay.isLt } }.setBay r.bay
        { s.bay r.bay with state := .labelFault }).startCurrent := by
  unfold State.faultLabel
  rw [LabelUnit.finishJob_eq]
  rfl

/-- R157: the record confirmed, its contributors' references dropped, the bay EMPTY, and the next job. -/
theorem State.confirmLabel_eq :
    s.confirmLabel r =
      ({ s with
         packs := s.packs.map fun (x : PackRecord) => if x.serial = r.serial then { x with label := .confirmed } else x,
         label := { s.label with
                    jobs := s.label.jobs.tail, phase := if s.label.jobs.tail = [] then none else some .unstarted,
                    pause := false, timeout := none },
         charges := r.contributors.foldl
           (fun table (x : Nat × Nat) => updateBy Charge.number x.1
             (fun (c : Charge) => { c with openPackRefs := c.openPackRefs - 1 }) table) s.charges }.setBay r.bay
        { s.bay r.bay with state := .empty }).startCurrent := by
  unfold State.confirmLabel
  rw [State.freeBay_eq, LabelUnit.finishJob_eq]
  rfl

end

end Sys2Proof.Machine
end

section
/-! PROOFS. The statement on label jobs. -/
open Sys2Proof Sys2Proof.Machine

/-- Settles O54, by the event, the phase of the job and the outcome of its exchange. -/
theorem labelJobsEndConfirmedOrInFault : Obligations.LabelJobsEndConfirmedOrInFault := by
  unfold Obligations.LabelJobsEndConfirmedOrInFault
  intro s outcome status data on u
  have whenOn {f : State → State} : s.whenOn f = f s := State.whenOn_on s (beq_iff_eq.mp on)
  refine ⟨congrArg Host.Outcome.next (whenOn.trans ?_), congrArg Host.Outcome.next whenOn, fun idle => ?_, fun isStatus => ?_,
    fun r current => ?_⟩
  · dsimp only
    by_cases pausing : s.label.pause = true
    · have running : ¬u.pause = false := by simp [u, pausing]
      refine (if_pos pausing).trans (.trans ?_ (if_neg running).symm)
      exact State.labelPauseOver_eq
    · exact (if_neg pausing).trans (if_pos (by simpa using pausing)).symm
  · refine congrArg Host.Outcome.next (whenOn.trans (if_congr Iff.rfl ?_ rfl))
    exact State.labelPortLost_of_idle (s := s.takeReport .labelPortLeftUp) idle
  · refine ⟨fun x outstanding stale => ?_, fun absent => ?_⟩
    · unfold State.labelOutcome
      rw [show s.label.outstanding = _ from outstanding]
      exact if_pos stale
    · unfold State.labelOutcome
      rw [show s.label.outstanding = _ from absent]
  · intro next stale faulted waiting
    refine ⟨?_, ?_, ?_, ?_⟩
    · refine congrArg Host.Outcome.next (whenOn.trans ?_)
      by_cases stopped : s.label.timeout = none
      · exact (if_neg (by simp [stopped])).trans (if_pos stopped).symm
      · refine (if_pos (Option.isSome_iff_ne_none.mpr stopped)).trans (.trans ?_ (if_neg stopped).symm)
        refine .trans ?_ (State.faultLabel_eq (s := { s with label := { s.label with timeout := none } }) _ _)
        have record_kept : ({ s with label := { s.label with timeout := none } } : State).currentRecord = some r := current
        change State.faultCurrent { s with label := { s.label with timeout := none } } .timeout = _
        unfold State.faultCurrent
        rw [record_kept]
    · intro running
      refine congrArg Host.Outcome.next (whenOn.trans (if_congr Iff.rfl ?_ rfl))
      refine (State.labelPortLost_of_running (s := s.takeReport .labelPortLeftUp) running current).trans ?_
      exact State.faultLabel_eq _ _
    · intro outstanding
      refine (State.labelOutcome_of_outstanding _ _ outstanding current).trans ((if_neg Bool.false_ne_true).trans ?_)
      exact if_congr Iff.rfl rfl rfl
    · intro outstanding
      refine (State.labelOutcome_of_outstanding _ _ outstanding current).trans ((if_pos rfl).trans ?_)
      refine if_congr Iff.rfl (if_congr Iff.rfl ?_ ?_) (if_congr Iff.rfl ?_ rfl)
      · exact State.confirmLabel_eq
      · exact State.faultLabel_eq _ _
      · exact State.faultLabel_eq _ _

end

section
/-!
PROOFS. The bounded tables and the tallies through every command: what each work makes of the species, the charges, the
assignments, the presence entries, the queued pieces and the closed packs.
-/
namespace Sys2Proof.Machine

/-! ### The charge table -/

/-- The fates of the charge sum to its metered tally (R47). -/
def Charge.tallied (c : Charge) : Prop := c.metered = c.queued + c.redry + c.short + c.noBay + c.stacked + c.cleared

/-- A change of a charge that keeps its number, and its tallies in balance. -/
def Charge.Keeps (f : Charge → Charge) : Prop := ∀ c, (f c).number = c.number ∧ (c.tallied → (f c).tallied)

/-- The charge table in order, within its capacity, every charge's tallies in balance (R37, R47). -/
structure ChargesSound (table : List Charge) : Prop where
  sorted : sortedBy Charge.number table = true
  room : table.length ≤ 16
  tallied : ∀ c ∈ table, c.tallied

theorem Charge.created_tallied (number : Nat) (k : KilnNo) (species schedule : Nat) (stamp : Stamp) :
    (Charge.created number k species schedule stamp).tallied := rfl

theorem Charge.rebuilt_tallied (k : KilnNo) (x : Snapshot) (stamp : Stamp) : (Charge.rebuilt k x stamp).tallied := rfl

theorem Charge.countPiece_keeps (intoQueue : Bool) : Charge.Keeps fun c => c.countPiece intoQueue := by
  intro c
  cases intoQueue with
  | false =>
    refine ⟨rfl, fun h => ?_⟩
    change c.metered + 1 = c.queued + c.redry + c.short + c.noBay + c.stacked + (c.cleared + 1)
    rw [h]
    rfl
  | true =>
    refine ⟨rfl, fun h => ?_⟩
    change c.metered + 1 = c.queued + 1 + c.redry + c.short + c.noBay + c.stacked + c.cleared
    rw [h]
    omega

theorem Charge.settle_keeps (fate : Fate) : Charge.Keeps fun c => c.settle fate := by
  intro c
  change (c.settle fate).number = c.number ∧ (c.tallied → (c.settle fate).tallied)
  by_cases unqueued : c.queued = 0
  · rw [show c.settle fate = c from if_pos unqueued]
    exact ⟨rfl, id⟩
  · rw [show c.settle fate = { c.raise fate with queued := c.queued - 1 } from if_neg unqueued]
    cases fate <;> exact ⟨rfl, fun h => by simp only [Charge.tallied, Charge.raise] at *; omega⟩

section
variable {table : List Charge}

theorem ChargesSound.map (h : ChargesSound table) {f : Charge → Charge} (keeps : Charge.Keeps f) :
    ChargesSound (table.map f) where
  sorted := map_sorted Charge.number f (fun c => (keeps c).1) h.sorted
  room := (List.length_map f).trans_le h.room
  tallied c member := by
    obtain ⟨d, listed, rfl⟩ := List.mem_map.mp member
    exact (keeps d).2 (h.tallied d listed)

theorem ChargesSound.updateBy (h : ChargesSound table) (n : Nat) {f : Charge → Charge} (keeps : Charge.Keeps f) :
    ChargesSound (Machine.updateBy Charge.number n f table) := by
  refine h.map fun c => ?_
  split_ifs
  · exact keeps c
  · exact ⟨rfl, id⟩

theorem ChargesSound.eraseBy (h : ChargesSound table) (n : Nat) : ChargesSound (Machine.eraseBy Charge.number n table) where
  sorted := eraseBy_sorted Charge.number n h.sorted
  room := (eraseBy_length_le Charge.number n table).trans h.room
  tallied c member := h.tallied c (List.mem_of_mem_filter member)

theorem ChargesSound.insertBy (h : ChargesSound table) {c : Charge} (room : table.length < 16) (tallied : c.tallied) :
    ChargesSound (Machine.insertBy Charge.number c table) where
  sorted := insertBy_sorted Charge.number c h.sorted
  room := (insertBy_length_le Charge.number c table).trans room
  tallied d member := (mem_insertBy Charge.number member).elim (· ▸ tallied) (h.tallied d)

end

/-! ### All the tables -/

/-- What the bounded tables hold: their entries, and of the pieces and packs the number. -/
def State.tables (s : State) : List SpeciesEntry × List Charge × List Assignment × List PresenceEntry × Nat × Nat :=
  (s.species, s.charges, s.assignments, s.presence, s.line.queue.length, s.packs.length)

/-- Every bounded table in its one form and within its capacity, and the tallies in balance (R21, R37, R47, R104, R106,
R128, R152). -/
structure State.TablesSound (s : State) : Prop where
  species : sortedBy SpeciesEntry.code s.species = true ∧ s.species.length ≤ 12
  charges : ChargesSound s.charges
  assignments : sortedBy Assignment.serial s.assignments = true ∧ s.assignments.length ≤ 48
  presence : s.PresenceOrdered
  pieces : s.line.queue.length ≤ 32
  packs : s.packs.length ≤ 8

theorem State.tablesSound_iff (s : State) : s.TablesSound ↔ s.tablesKept ∧ s.talliesKept := by
  constructor
  · rintro ⟨⟨species, species_room⟩, ⟨charges, charges_room, tallied⟩, ⟨assignments, assignments_room⟩,
      ⟨places, room, serials⟩, pieces, packs⟩
    exact ⟨⟨species, species_room, charges, charges_room, assignments, assignments_room, places, room, serials, pieces,
      packs⟩, tallied⟩
  · rintro ⟨⟨species, species_room, charges, charges_room, assignments, assignments_room, places, room, serials, pieces,
      packs⟩, tallied⟩
    exact ⟨⟨species, species_room⟩, ⟨charges, charges_room, tallied⟩, ⟨assignments, assignments_room⟩,
      ⟨places, room, serials⟩, pieces, packs⟩

section
variable {s t : State} {k : KilnNo}

theorem State.TablesSound.congr (h : s.TablesSound) (same : t.tables = s.tables) : t.TablesSound := by
  simp only [State.tables, Prod.mk.injEq] at same
  obtain ⟨species, charges, assignments, presence, pieces, packs⟩ := same
  refine ⟨species ▸ h.species, charges ▸ h.charges, assignments ▸ h.assignments, ?_, pieces ▸ h.pieces, packs ▸ h.packs⟩
  exact ⟨presence ▸ h.presence.places, presence ▸ h.presence.room, presence ▸ h.presence.serials⟩

/-- A change of the charge table alone. -/
theorem State.TablesSound.withCharges (h : s.TablesSound) {table : List Charge} (sound : ChargesSound table) :
    State.TablesSound { s with charges := table } :=
  ⟨h.species, sound, h.assignments, ⟨h.presence.places, h.presence.room, h.presence.serials⟩, h.pieces, h.packs⟩

/-- A change of the presence table alone. -/
theorem State.TablesSound.withPresence (h : s.TablesSound) {table : List PresenceEntry}
    (ordered : State.PresenceOrdered { s with presence := table }) : State.TablesSound { s with presence := table } :=
  ⟨h.species, h.charges, h.assignments, ordered, h.pieces, h.packs⟩

/-- A change of the line that adds no piece. -/
theorem State.TablesSound.modifyLine (h : s.TablesSound) {f : Line → Line} (fewer : (f s.line).queue.length ≤ 32) :
    (s.modifyLine f).TablesSound :=
  ⟨h.species, h.charges, h.assignments, ⟨h.presence.places, h.presence.room, h.presence.serials⟩, fewer, h.packs⟩

/-- A change of the closed packs alone. -/
theorem State.TablesSound.withPacks (h : s.TablesSound) {packs : List PackRecord} (few : packs.length ≤ 8) :
    State.TablesSound { s with packs := packs } :=
  ⟨h.species, h.charges, h.assignments, ⟨h.presence.places, h.presence.room, h.presence.serials⟩, h.pieces, few⟩

theorem State.TablesSound.modifyCharge (h : s.TablesSound) (n : Nat) {f : Charge → Charge} (keeps : Charge.Keeps f) :
    (s.modifyCharge n f).TablesSound := h.withCharges (h.charges.updateBy n keeps)

theorem State.TablesSound.addCharge (h : s.TablesSound) {c : Charge} (room : s.charges.length < 16) (tallied : c.tallied) :
    (s.addCharge c).TablesSound := h.withCharges (h.charges.insertBy room tallied)

theorem State.TablesSound.modifyPack (h : s.TablesSound) (n : Nat) (f : PackRecord → PackRecord) :
    (s.modifyPack n f).TablesSound := h.withPacks ((updateBy_length PackRecord.serial n f s.packs).trans_le h.packs)

theorem State.TablesSound.modifyPort (h : s.TablesSound) {p : PortNo} {f : PortRecord → PortRecord} :
    (s.modifyPort p f).TablesSound := h.congr rfl

theorem State.TablesSound.modifyKiln (h : s.TablesSound) {f : KilnRecord → KilnRecord} : (s.modifyKiln k f).TablesSound :=
  h.congr rfl

theorem State.TablesSound.modifySweep (h : s.TablesSound) {f : SweepRecord → SweepRecord} :
    (s.modifySweep k f).TablesSound := h.congr rfl

theorem State.TablesSound.modifyBay (h : s.TablesSound) {b : BayNo} {f : Bay → Bay} : (s.modifyBay b f).TablesSound :=
  h.congr rfl

theorem State.TablesSound.modifyNotices (h : s.TablesSound) {f : Notices → Notices} : (s.modifyNotices f).TablesSound :=
  h.congr rfl

theorem State.TablesSound.modifyLabel (h : s.TablesSound) {f : LabelUnit → LabelUnit} : (s.modifyLabel f).TablesSound :=
  h.congr rfl

theorem State.TablesSound.takeReport (h : s.TablesSound) {r : Report} : (s.takeReport r).TablesSound := h.congr rfl

theorem State.TablesSound.writeSnapshot (h : s.TablesSound) : (s.writeSnapshot k).TablesSound :=
  h.congr (by simp [State.tables])

theorem State.TablesSound.addProbeEvent (h : s.TablesSound) (event : ProbeEvent) : (s.addProbeEvent k event).TablesSound :=
  h.congr (by simp [State.tables])

/-! ### The charge table's own requests and tallies -/

theorem State.TablesSound.clearInfeed (h : s.TablesSound) : s.clearInfeed.TablesSound := by
  refine h.withCharges (h.charges.map fun c => ?_)
  split_ifs <;> exact ⟨rfl, id⟩

theorem State.TablesSound.settlePiece (h : s.TablesSound) (number : Nat) (fate : Fate) :
    (s.settlePiece number fate).TablesSound := by
  unfold State.settlePiece
  split_ifs
  · exact h
  · exact h.modifyCharge _ (Charge.settle_keeps fate)

theorem State.TablesSound.addMeterReading (h : s.TablesSound) (number mc : Nat) :
    (s.addMeterReading number mc).TablesSound := by
  unfold State.addMeterReading
  split_ifs
  · exact h
  · exact h.modifyCharge _ fun c => ⟨rfl, id⟩

theorem State.TablesSound.dropReferences (h : s.TablesSound) (contributors : List (Nat × Nat)) :
    (contributors.foldl (fun (t : State) x => t.dropReference x.1) s).TablesSound := by
  induction contributors generalizing s with
  | nil => exact h
  | cons x rest ih => exact ih (h.modifyCharge _ fun c => ⟨rfl, id⟩)

/-! ### The kiln supervisor, which records final figures, loads and unloads -/

theorem State.TablesSound.completeKiln (h : s.TablesSound) : (s.completeKiln k).TablesSound := by
  have recorded (number : Nat) (mc : ControllingMc) : (s.recordFinalMc number mc).TablesSound :=
    h.modifyCharge _ fun c => ⟨rfl, id⟩
  unfold State.completeKiln
  refine State.TablesSound.writeSnapshot (State.TablesSound.modifyNotices (State.TablesSound.modifyKiln ?_))
  split
  · exact recorded _ _
  · exact h

theorem State.TablesSound.advanceStep (h : s.TablesSound) (overtime : Bool) : (s.advanceStep k overtime).TablesSound := by
  unfold State.advanceStep
  split
  · exact h
  · split
    · exact State.TablesSound.writeSnapshot (h.congr (by simp [State.tables]))
    · exact h.completeKiln

theorem State.TablesSound.runMinute (h : s.TablesSound) : (s.runMinute k).TablesSound := by
  have tested {t : State} (h : t.TablesSound) (x : Step) : (t.testStepTime k x).TablesSound := by
    unfold State.testStepTime
    dsimp only
    split
    · exact h.advanceStep false
    · split
      · split
        · exact h.advanceStep true
        · exact State.TablesSound.writeSnapshot (h.congr (by simp [State.tables]))
      · exact h
  unfold State.runMinute
  split
  · exact tested h.modifyKiln _
  · exact h

theorem State.TablesSound.kilnMinute (h : s.TablesSound) : (s.kilnMinute k).TablesSound := by
  unfold State.kilnMinute
  split
  · exact h
  · have counted : (s.modifyKiln k fun r => { r with totalMinutes := bump r.totalMinutes }).TablesSound := h.modifyKiln
    dsimp only
    split <;> split
    · exact counted.runMinute.writeSnapshot
    · exact counted.runMinute
    · exact counted.writeSnapshot
    · exact counted

theorem State.TablesSound.setpointOutcome (h : s.TablesSound) (outcome : ExchangeOutcome) (reply : StationReply) :
    (s.setpointOutcome k outcome reply).TablesSound := by
  have tested {t : State} (h : t.TablesSound) : (t.testDryBulb k).TablesSound := by
    unfold State.testDryBulb
    split
    · split
      · exact h.advanceStep false
      · exact h
    · exact h
  unfold State.setpointOutcome State.takeControllerReply
  split
  · dsimp only
    split <;> split
    · exact tested h.modifyKiln
    · exact h.modifyKiln
    · exact tested (h.congr (by simp [State.tables]))
    · exact h.congr (by simp [State.tables])
  · exact h

theorem State.TablesSound.takeSweepResult (h : s.TablesSound) (result : SweepResult) :
    (s.takeSweepResult k result).TablesSound := by
  have tested {t : State} (h : t.TablesSound) : (t.testMoisture k).TablesSound := by
    have advanced := h.advanceStep (k := k) false
    unfold State.testMoisture
    (repeat' split) <;> with_reducible assumption
  unfold State.takeSweepResult
  split
  · exact h
  · dsimp only
    split <;> split
    · exact tested (h.congr (by simp [State.tables]))
    · exact h.congr (by simp [State.tables])
    · exact tested h.modifyKiln
    · exact h.modifyKiln

theorem State.TablesSound.clearPresence (h : s.TablesSound) : (s.clearPresence k).TablesSound :=
  h.withPresence (h.presence.filter rfl)

theorem State.TablesSound.loadKiln (h : s.TablesSound) (room : s.charges.length < 16) (e : SpeciesEntry) (id : Nat)
    (x : Schedule) : (s.loadKiln k e id x).TablesSound := by
  have counted : (s.writeChargeCounter s.issuedChargeNumber).TablesSound := h.congr rfl
  have added := counted.addCharge room (Charge.created_tallied s.issuedChargeNumber k e.code id s.stamp)
  unfold State.loadKiln State.probesLoaded
  refine State.TablesSound.writeSnapshot (State.TablesSound.modifySweep (State.TablesSound.clearPresence ?_))
  exact added.modifyKiln

theorem State.TablesSound.unloadKiln (h : s.TablesSound) : (s.unloadKiln k).TablesSound := by
  have staged : (s.stageCharge (s.kiln k).chargeNumber).TablesSound := h.modifyCharge _ fun c => ⟨rfl, id⟩
  have aborted : (((s.stageCharge (s.kiln k).chargeNumber).setSnapshot k none).abortForUnload k).TablesSound :=
    staged.congr (by simp [State.tables])
  unfold State.unloadKiln State.probesUnloaded
  exact (aborted.clearPresence.modifySweep).modifyKiln

/-! ### The probe unit -/

theorem State.TablesSound.completeSweep (h : s.TablesSound) : (s.completeSweep k).TablesSound := by
  unfold State.completeSweep
  exact State.TablesSound.takeSweepResult h.modifySweep _

theorem State.TablesSound.completeIfDone (h : s.TablesSound) : (s.completeIfDone k).TablesSound := by
  unfold State.completeIfDone
  split
  · exact h.completeSweep
  · exact h

theorem State.TablesSound.planSweep (h : s.TablesSound) : (s.planSweep k).TablesSound := by
  unfold State.planSweep
  dsimp only
  split
  · exact State.TablesSound.completeSweep h.modifySweep
  · split <;> exact h.congr (by simp [State.tables])

theorem State.TablesSound.sweepIntervalOver (h : s.TablesSound) : (s.sweepIntervalOver k).TablesSound := by
  unfold State.sweepIntervalOver
  split
  · dsimp only
    split
    · exact State.TablesSound.planSweep h.modifySweep
    · exact h.modifySweep
  · exact h

theorem State.TablesSound.forgetEntry (h : s.TablesSound) (e : PresenceEntry) : (s.forgetEntry e).TablesSound := by
  have removed : (s.removePresence e.port e.address).TablesSound := h.withPresence (h.presence.filter rfl)
  unfold State.forgetEntry
  exact State.TablesSound.completeIfDone (removed.congr (by simp [State.tables]))

theorem State.TablesSound.resolveIdentity (h : s.TablesSound) (address serial : Nat) :
    (s.resolveIdentity k address serial).TablesSound := by
  have settled : State.TablesSound { s with presence := (s.resolveIdentity k address serial).presence } :=
    h.withPresence ⟨h.presence.resolveIdentity.places, h.presence.resolveIdentity.room, h.presence.resolveIdentity.serials⟩
  exact settled.congr (by simp [State.tables])

/-- An entry stored over the one of its place and serial. -/
theorem State.TablesSound.putPresence (h : s.TablesSound) {address : Nat} {e x : PresenceEntry}
    (found : s.presenceAt k address = some e) (place : x.place = e.place) (serial : x.serial = e.serial) :
    (s.putPresence x).TablesSound := by
  obtain ⟨-, member⟩ := findBy_some PresenceEntry.place found
  refine h.withPresence ⟨insertBy_sorted PresenceEntry.place x h.presence.places, ?_, ?_⟩
  · exact (insertBy_length_of_mem PresenceEntry.place h.presence.places member place.symm).trans_le h.presence.room
  · refine insertBy_serials h.presence.serials h.presence.places fun y listed named => ?_
    rw [h.presence.eq_of_serial listed member (named.trans serial), place]

theorem State.TablesSound.countMiss (h : s.TablesSound) (address : Nat) : (s.countMiss k address).TablesSound := by
  have missed (e : PresenceEntry) (limit : Nat) : (e.miss limit).1.place = e.place ∧ (e.miss limit).1.serial = e.serial := by
    unfold PresenceEntry.miss
    dsimp only
    split <;> split <;> exact ⟨rfl, rfl⟩
  unfold State.countMiss
  split
  next e found =>
    split
    · exact h
    · obtain ⟨place, serial⟩ := missed e (s.kiln k).config.lossLimit
      have put := h.putPresence found place serial
      dsimp only
      split
      · exact put.addProbeEvent _
      · exact put
  next => exact h

theorem State.TablesSound.probeReading (h : s.TablesSound) (address lCode : Nat) (fault : Bool) :
    (s.probeReading k address lCode fault).TablesSound := by
  unfold State.probeReading
  split
  next e found =>
    split
    · exact h
    · generalize convert lCode fault (s.probeTemperature k) (s.probeSpecies k) = reading
      have unusable : (s.putPresence (e.takeUnusable reading)).TablesSound := h.putPresence found rfl rfl
      unfold State.recordReading
      split
      next mc _ _ =>
        have put : (s.putPresence (e.takeUsable reading mc (s.kiln k).config.smoothingShift
          (s.kiln k).config.jumpLimit)).TablesSound := h.putPresence found rfl rfl
        dsimp only
        split
        · exact put.addProbeEvent _
        · exact put
      next => exact unusable
      all_goals exact unusable.countMiss _
  next => exact h

theorem State.TablesSound.probeOutcome (h : s.TablesSound) (address : Nat) (command : ProbeCommand)
    (outcome : ExchangeOutcome) (data : List Octet) : (s.probeOutcome k address command outcome data).TablesSound := by
  have handled {t : State} (h : t.TablesSound) : (t.handleProbeOutcome k address command outcome data).TablesSound := by
    unfold State.handleProbeOutcome State.goodProbeOutcome
    split
    · split
      · exact h
      next serial _ =>
        have settled := h.resolveIdentity (k := k) address serial
        dsimp only
        split
        · exact settled.probeReading ..
        · exact settled
    · exact h.countMiss _
    · exact h
  unfold State.probeOutcome
  split
  · exact h.modifySweep
  · split
    · have completed := (handled (h.modifySweep (k := k) (f := fun r =>
        { r with outstanding := r.outstanding.erase (address, command) }))).completeIfDone (k := k)
      dsimp only
      split
      · exact completed.completeIfDone
      · exact completed
    · exact h

end

end Sys2Proof.Machine
end

section
/-!
PROOFS. The bounded tables through the packs, the labels, the planer line, the ports and the resets, and so through every
step.
-/
namespace Sys2Proof.Machine

section
variable {s t : State} {k : KilnNo} {b : BayNo}

/-! ### The packs and the labels -/

theorem State.TablesSound.addCause (h : s.TablesSound) (cause : StopCause) : (s.addCause cause).TablesSound :=
  h.congr (by simp [State.tables, State.addCause_line])

theorem State.TablesSound.removeCause (h : s.TablesSound) (cause : StopCause) : (s.removeCause cause).TablesSound :=
  h.congr rfl

theorem State.TablesSound.writeRecord (h : s.TablesSound) (room : s.packs.length < 8) (p : OpenPack) :
    (s.writeRecord b p).TablesSound := by
  have grown : State.TablesSound { s with
      packs := s.packs ++ [p.closedRecord s.issuedSerial b (s.bay b).nominal s.dateDigits] } :=
    h.withPacks (by rw [List.length_append]; exact room)
  exact grown.congr (by simp [State.tables, State.writeRecord_packs])

theorem State.TablesSound.closePack (h : s.TablesSound) : (s.closePack b).TablesSound := by
  unfold State.closePack
  split
  · exact h
  · split
    · exact h.modifyBay
    · split
      · dsimp only
        split
        · exact State.TablesSound.addCause h.modifyBay _
        · exact h.modifyBay
      next room => exact h.writeRecord (Nat.lt_of_not_le room) _

theorem State.TablesSound.givePlace (h : s.TablesSound) : (s.givePlace b).TablesSound := by
  unfold State.givePlace
  split
  · split
    next room => exact h.writeRecord room _
    next => exact h
  · exact h

theorem State.TablesSound.giveFreedPlace (h : s.TablesSound) : s.giveFreedPlace.TablesSound := by
  have given (bays : List BayNo) : (bays.foldl State.givePlace s).TablesSound := by
    induction bays generalizing s with
    | nil => exact h
    | cons b rest ih => exact ih h.givePlace
  unfold State.giveFreedPlace
  dsimp only
  split
  · exact given _
  · exact (given _).removeCause _

theorem State.TablesSound.beginClosing (h : s.TablesSound) : (s.beginClosing b).TablesSound := by
  unfold State.beginClosing
  dsimp only
  split
  · split
    · exact State.TablesSound.closePack h.modifyBay
    · exact h.modifyBay
  · exact h.modifyBay

theorem State.TablesSound.stackPiece (h : s.TablesSound) (charge mc : Nat) : (s.stackPiece b charge mc).TablesSound := by
  unfold State.stackPiece
  split
  · exact h
  next p _ =>
    have stacked : (s.modifyBay b fun bay => { bay with openPack := some (p.stack charge mc) }).TablesSound := h.modifyBay
    have closed := stacked.closePack (b := b)
    dsimp only
    (repeat' split) <;> with_reducible assumption

theorem State.TablesSound.releasePlace (h : s.TablesSound) (charge : Nat) : (s.releasePlace b charge).TablesSound := by
  unfold State.releasePlace
  split
  · exact h
  next p _ =>
    have unreserved : (s.modifyBay b fun bay => { bay with openPack := some (p.unreserve charge) }).TablesSound :=
      h.modifyBay
    have left : State.TablesSound
        (if p.names charge && !(p.unreserve charge).names charge then
          (s.modifyBay b fun bay => { bay with openPack := some (p.unreserve charge) }).dropReference charge
        else s.modifyBay b fun bay => { bay with openPack := some (p.unreserve charge) }) := by
      split
      · exact unreserved.modifyCharge _ fun c => ⟨rfl, id⟩
      · exact unreserved
    dsimp only
    generalize (if p.names charge && !(p.unreserve charge).names charge then
      (s.modifyBay b fun bay => { bay with openPack := some (p.unreserve charge) }).dropReference charge
      else s.modifyBay b fun bay => { bay with openPack := some (p.unreserve charge) }) = t at left ⊢
    have closed := left.closePack (b := b)
    have emptied : (t.modifyBay b fun bay => { bay with state := .empty, openPack := none }).TablesSound := left.modifyBay
    (repeat' split) <;> with_reducible assumption

theorem State.TablesSound.reservePlace (h : s.TablesSound) (species charge : Nat) :
    (s.reservePlace b species charge).TablesSound := by
  unfold State.reservePlace
  dsimp only
  split
  · exact h.modifyBay
  · exact State.TablesSound.modifyCharge h.modifyBay _ fun c => ⟨rfl, id⟩

theorem State.TablesSound.startCurrent (h : s.TablesSound) : s.startCurrent.TablesSound :=
  h.congr (by simp [State.tables])

theorem State.TablesSound.freeBay (h : s.TablesSound) (r : PackRecord) : (s.freeBay r).TablesSound :=
  State.TablesSound.dropReferences h.modifyBay _

theorem State.TablesSound.faultLabel (h : s.TablesSound) (r : PackRecord) (reason : LabelFaultReason)
    (scanBack : Option (List Octet)) : (s.faultLabel r reason scanBack).TablesSound := by
  unfold State.faultLabel
  refine State.TablesSound.startCurrent (State.TablesSound.modifyNotices (State.TablesSound.modifyBay ?_))
  exact (h.modifyPack _ _).modifyLabel

theorem State.TablesSound.faultCurrent (h : s.TablesSound) (reason : LabelFaultReason) :
    (s.faultCurrent reason).TablesSound := by
  unfold State.faultCurrent
  split
  · exact h.faultLabel ..
  · exact h

theorem State.TablesSound.labelOutcome (h : s.TablesSound) (isStatus : Bool) (outcome : ExchangeOutcome)
    (reply : StationReply) : (s.labelOutcome isStatus outcome reply).TablesSound := by
  have answered : (s.modifyLabel fun l => { l with outstanding := none }).TablesSound := h.modifyLabel
  have paused {t : State} (h : t.TablesSound) : t.startPause.TablesSound := h.modifyLabel
  unfold State.labelOutcome
  split
  · exact h.startCurrent
  · dsimp only
    split
    · exact answered.startCurrent
    · split
      · exact answered
      · split
        · unfold State.statusOutcome
          split
          · split
            · exact ((answered.modifyPack _ _).modifyLabel.freeBay _).startCurrent
            · exact answered.faultLabel ..
          · split
            · exact answered.faultLabel ..
            · exact paused answered
        · unfold State.printOutcome
          split
          · exact paused (answered.modifyPack _ _).modifyLabel
          · exact paused answered

theorem State.TablesSound.labelPortLost (h : s.TablesSound) : s.labelPortLost.TablesSound := by
  have answered : (s.modifyLabel fun l => { l with outstanding := none }).TablesSound := h.modifyLabel
  have faulted := answered.faultCurrent .port
  have started := answered.startCurrent
  unfold State.labelPortLost
  dsimp only
  split <;> with_reducible assumption

theorem State.TablesSound.reprintLabel (h : s.TablesSound) (r : PackRecord) : (s.reprintLabel r).TablesSound := by
  unfold State.reprintLabel
  have relabelled := (h.modifyPack r.serial fun r => { r with label := .queued, scanBack := none })
  exact (relabelled.modifyBay (b := r.bay) (f := fun b => { b with state := .labelling })).congr (by simp [State.tables])

/-! ### The planer line -/

theorem State.TablesSound.countLine (h : s.TablesSound) (f : LineCounters → LineCounters) : (s.countLine f).TablesSound :=
  h.congr rfl

theorem State.TablesSound.modifyPiece (h : s.TablesSound) (sequence : Nat) (f : Piece → Piece) :
    (s.modifyPiece sequence f).TablesSound :=
  h.modifyLine ((updateLast_length ..).trans_le h.pieces)

theorem State.TablesSound.noReply (h : s.TablesSound) (sequence : Nat) : (s.noReply sequence).TablesSound :=
  (h.modifyPiece _ _).countLine _

theorem State.TablesSound.decideGrade (h : s.TablesSound) (sequence : Nat) : (s.decideGrade sequence).TablesSound := by
  have graded (p : Piece) (length : Nat) : (s.gradeOf p length).2.TablesSound := by
    unfold State.gradeOf
    split
    · exact h
    · exact h
    · split
      · exact h
      · split
        · split
          · exact h.reservePlace ..
          · exact h
        · exact h
  unfold State.decideGrade
  split
  · split
    · exact (graded _ _).modifyPiece _ _
    · exact h
  · exact h

theorem State.TablesSound.triggerSample (h : s.TablesSound) (sequence : Nat) : (s.triggerSample sequence).TablesSound := by
  unfold State.triggerSample
  split
  · exact h.congr (by simp [State.tables])
  · exact (h.modifyPiece _ _).countLine _
  · exact h.noReply _

theorem State.TablesSound.meterOutcome (h : s.TablesSound) (outcome : ExchangeOutcome) (data : List Octet) :
    (s.meterOutcome outcome data).TablesSound := by
  have read {t : State} (h : t.TablesSound) (p : Piece) (reading : Reading) : (t.meterReading p reading).TablesSound := by
    unfold State.meterReading
    split
    · exact (h.modifyPiece _ _).addMeterReading _ _
    · exact h.modifyPiece _ _
  have disowned : (s.modifyLine fun l => { l with sampleOwner := none }).TablesSound := h.modifyLine h.pieces
  unfold State.meterOutcome
  split
  · exact h
  · refine State.TablesSound.decideGrade ?_ _
    split
    · exact read disowned _ _
    · exact disowned.noReply _

theorem State.TablesSound.meterPortLost (h : s.TablesSound) : s.meterPortLost.TablesSound := by
  have disowned : (s.modifyLine fun l => { l with sampleOwner := none }).TablesSound := h.modifyLine h.pieces
  unfold State.meterPortLost
  split
  · exact h
  · exact (disowned.noReply _).decideGrade _

theorem State.TablesSound.countPiece (h : s.TablesSound) (charge : Option Charge) (intoQueue : Bool) :
    (s.countPiece charge intoQueue).TablesSound := by
  unfold State.countPiece
  split
  · exact h.modifyCharge _ (Charge.countPiece_keeps intoQueue)
  · exact h.countLine _

theorem State.TablesSound.appendPiece (h : s.TablesSound) (room : s.line.queue.length < 32) (lead : Position) :
    (s.appendPiece lead).TablesSound := by
  have joined : (s.joined lead s.countingCharge).TablesSound := by
    have counted := h.countPiece s.countingCharge true
    refine counted.modifyLine ?_
    rw [List.length_append]
    exact room
  have told : State.TablesSound
      (if s.line.queue.length = 27 then (s.joined lead s.countingCharge).addCause .queueHigh
      else s.joined lead s.countingCharge) := by
    split
    · exact joined.addCause _
    · exact joined
  rw [State.appendPiece_eq]
  dsimp only
  split
  · exact told.triggerSample _
  · exact told

theorem State.TablesSound.filteredEdge (h : s.TablesSound) (blocked : Bool) (p : Position) :
    (s.filteredEdge blocked p).TablesSound := by
  have capture {t : State} (h : t.TablesSound) (f : Capture → Capture) :
      (t.modifyLine fun l => { l with capture := f l.capture }).TablesSound := h.modifyLine h.pieces
  have lead {t : State} (h : t.TablesSound) : (t.takeLead p).TablesSound := by
    have counted : ((t.modifyLine fun l => { l with
        capture := { l.capture with boardInEye := true, lastLead := some p, lastTrail := none, owner := none } }).countLine
        fun c => { c with metered := bump c.metered }).TablesSound := State.TablesSound.countLine (h.modifyLine h.pieces) _
    unfold State.takeLead
    dsimp only
    split
    · exact ((counted.countPiece _ _).countLine _).addCause _
    next room => exact counted.appendPiece (Nat.lt_of_not_le room) p
  have trail {t : State} (h : t.TablesSound) : (t.takeTrail p).TablesSound := by
    unfold State.takeTrail
    dsimp only
    split
    · exact h.modifyLine h.pieces
    · exact State.TablesSound.decideGrade (State.TablesSound.modifyPiece (h.modifyLine h.pieces) _ _) _
  have seen := capture h fun c => { c with blocked := blocked }
  unfold State.filteredEdge
  dsimp only
  split <;> split
  · exact lead seen
  · exact seen
  · exact trail seen
  · exact seen

theorem State.TablesSound.changeEye (h : s.TablesSound) (level : Bool) : (s.changeEye level).TablesSound := by
  have moved : (s.modifyLine fun l => { l with eyePin := level }).TablesSound := h.modifyLine h.pieces
  unfold State.changeEye
  dsimp only
  split
  · exact h
  · split
    · split
      · exact moved.modifyLine moved.pieces
      · split
        · exact moved.filteredEdge _ _
        · exact moved.modifyLine moved.pieces
    · exact moved

theorem State.TablesSound.eyeFilterOver (h : s.TablesSound) : s.eyeFilterOver.TablesSound := by
  unfold State.eyeFilterOver
  split
  · exact State.TablesSound.filteredEdge (h.modifyLine h.pieces) _ _
  · exact h

/-! ### The gate and the stacker -/

theorem State.TablesSound.removePiece (h : s.TablesSound) (p : Piece) : (s.removePiece p).TablesSound := by
  have removed : (s.modifyLine fun l => { l with queue := l.queue.erase p }).TablesSound :=
    h.modifyLine ((List.length_erase_le).trans h.pieces)
  unfold State.removePiece
  dsimp only
  split
  · exact removed.removeCause _
  · exact removed

theorem State.TablesSound.removeAtGate (h : s.TablesSound) (p : Piece) : (s.removeAtGate p).TablesSound :=
  State.TablesSound.removePiece (h.modifyLine h.pieces) p

theorem State.TablesSound.atGate (h : s.TablesSound) (p : Piece) : (s.atGate p).TablesSound := by
  have settled : (s.settleAtGate p).TablesSound := by
    unfold State.settleAtGate
    split
    · exact State.TablesSound.countLine (h.modifyLine ((List.length_replace).trans_le h.pieces)) _
    · exact h
    · exact h
  have diverted {t : State} (h : t.TablesSound) (x : Piece) : (t.divertPiece x).TablesSound := by
    have removed : (t.pulseDivert.removeAtGate x).TablesSound :=
      State.TablesSound.removeAtGate (s := t.pulseDivert) (h.modifyLine h.pieces) x
    unfold State.divertPiece
    dsimp only
    split
    · exact (removed.settlePiece _ _).countLine _
    · exact removed
  unfold State.atGate
  split
  · exact (((h.removeAtGate p).settlePiece _ _).countLine _).addCause _
  · split
    · exact diverted settled _
    · exact diverted settled _
    · exact diverted settled _
    · exact diverted settled _
    · exact settled
    · exact settled

theorem State.TablesSound.atStacker (h : s.TablesSound) (p : Piece) : (s.atStacker p).TablesSound := by
  unfold State.atStacker
  split
  · exact ((h.removePiece p).settlePiece _ _).stackPiece _ _
  · exact h

theorem State.TablesSound.foldl {f : State → Piece → State} (keeps : ∀ t x, t.TablesSound → (f t x).TablesSound)
    (pieces : List Piece) (h : s.TablesSound) : (pieces.foldl f s).TablesSound := by
  induction pieces generalizing s with
  | nil => exact h
  | cons x rest ih => exact ih (keeps s x h)

theorem State.TablesSound.encoderMoves (h : s.TablesSound) (move : EncoderMove) : (s.encoderMoves move).TablesSound := by
  have moved (counter : Position) : (s.moveCounter counter).TablesSound :=
    .foldl (fun _ x sound => sound.atStacker x) _
      (.foldl (fun _ x sound => sound.atGate x) _ (h.modifyLine h.pieces))
  cases move with
  | forward => exact moved _
  | reverse => exact moved _
  | both => exact h

theorem State.TablesSound.clearLine (h : s.TablesSound) : s.clearLine.TablesSound := by
  have cleared (t : State) (x : Piece) (h : t.TablesSound) : (t.clearPiece x).TablesSound := by
    have settled := h.settlePiece x.charge .cleared
    unfold State.clearPiece
    refine State.TablesSound.countLine ?_ _
    split
    · exact settled.releasePlace _
    all_goals exact settled
  have emptied : (s.modifyLine fun l => { l with queue := [] }).TablesSound := h.modifyLine (Nat.zero_le _)
  have all := State.TablesSound.foldl cleared s.line.queue emptied
  exact (((State.TablesSound.modifyLine all all.pieces).removeCause .overflow).removeCause .jam).removeCause .queueHigh

/-! ### The ports' events -/

theorem State.TablesSound.handOutcome (h : s.TablesSound) (p : PortNo) (e : Exchange) (outcome : ExchangeOutcome)
    (reply : StationReply) : (s.handOutcome p e outcome reply).TablesSound := by
  unfold State.handOutcome
  split
  · exact h.setpointOutcome ..
  · exact h.probeOutcome ..
  · split
    · exact h
    · exact h.probeOutcome ..
  · exact h.meterOutcome ..
  · exact h.labelOutcome ..
  · exact h.labelOutcome ..
  · exact h

theorem State.TablesSound.endExchange (h : s.TablesSound) (p : PortNo) (outcome : ExchangeOutcome)
    (reply : StationReply) : (s.endExchange p outcome reply).TablesSound := by
  unfold State.endExchange
  split
  · exact h
  next e _ =>
    have closed : (s.closeExchange p outcome).TablesSound := h.congr (by simp [State.tables])
    exact (closed.handOutcome p e outcome reply).congr (by simp [State.tables])

theorem State.TablesSound.windowOver (h : s.TablesSound) (p : PortNo) : (s.windowOver p).TablesSound := by
  have ended := h.endExchange p .timeout noReplyData
  unfold State.windowOver
  (repeat' split) <;> with_reducible assumption

theorem State.TablesSound.octetSilence (h : s.TablesSound) (p : PortNo) : (s.octetSilence p).TablesSound := by
  have ended := h.endExchange p .truncated noReplyData
  unfold State.octetSilence
  (repeat' split) <;> with_reducible assumption

theorem State.TablesSound.receiveFieldOctet (h : s.TablesSound) (p : PortNo) (octet : Octet) (error : Bool) :
    (s.receiveFieldOctet p octet error).TablesSound := by
  have phase (f : PortRecord → PortRecord) : (s.modifyPort p f).TablesSound := h.modifyPort
  have ended := fun outcome => h.endExchange p outcome
  unfold State.receiveFieldOctet State.receiveReplyOctet
  dsimp only
  (repeat' split) <;> with_reducible apply_assumption

theorem State.TablesSound.takeLineFault (h : s.TablesSound) (p : PortNo) : (s.takeLineFault p).TablesSound := by
  have ended : (s.faultExchange p).TablesSound := by
    unfold State.faultExchange
    split
    next e _ =>
      have closed : (s.closeExchange p .framing).TablesSound := h.congr (by simp [State.tables])
      exact closed.handOutcome ..
    next => exact h
  unfold State.takeLineFault
  dsimp only
  split
  · split <;> exact ended.congr (by simp [State.tables])
  · exact h

/-! ### Resets -/

theorem State.volatileReset_tables (b : Backup) (eye : Bool) (rate : LinkRate) (queue : List Instr) :
    (State.volatileReset b eye rate queue).TablesSound :=
  ⟨⟨rfl, Nat.zero_le _⟩, ⟨rfl, Nat.zero_le _, nofun⟩, ⟨rfl, Nat.zero_le _⟩, ⟨rfl, Nat.zero_le _, List.nodup_nil⟩,
    Nat.zero_le _, Nat.zero_le _⟩

/-- R172: the kilns recovered add at most a charge each. -/
theorem State.TablesSound.recoverKilns (h : s.TablesSound) (kilns : List KilnNo)
    (room : s.charges.length + kilns.length ≤ 16) : (kilns.foldl State.recoverKiln s).TablesSound := by
  induction kilns generalizing s with
  | nil => exact h
  | cons k rest ih =>
    rw [List.length_cons] at room
    rw [List.foldl_cons]
    unfold State.recoverKiln
    split
    next x _ =>
      refine ih ?_ ?_
      · exact ((h.addCharge (by omega) (Charge.rebuilt_tallied k x s.stamp)).modifyKiln).modifyNotices
      · have longer := insertBy_length_le Charge.number (Charge.rebuilt k x s.stamp) s.charges
        change (insertBy Charge.number (Charge.rebuilt k x s.stamp) s.charges).length + rest.length ≤ 16
        omega
    next => exact ih h (by omega)

theorem State.resetKept_tables (s : State) (straps : Straps) : (s.resetKept straps).TablesSound :=
  (State.volatileReset_tables s.backup s.line.eyePin (.ofStraps straps) s.pending).recoverKilns allKilns
    (Nat.le_of_ble_eq_true rfl)

theorem State.powerOnReset_tables (s : State) (straps : Straps) : (s.powerOnReset straps).TablesSound := by
  unfold State.powerOnReset
  split
  · exact s.resetKept_tables straps
  · exact (State.volatileReset_tables .cleared s.line.eyePin (.ofStraps straps) s.pending).modifyNotices

theorem State.stilled_tables (s : State) (power : Power) : (s.stilled power).TablesSound :=
  (State.volatileReset_tables s.backup s.line.eyePin s.link.rate s.pending).congr rfl

theorem State.TablesSound.moveResetPin (h : s.TablesSound) (edge : ResetEdge) (straps : Straps) :
    (s.moveResetPin edge straps).TablesSound := by
  have kept := s.resetKept_tables straps
  have held := s.stilled_tables .held
  unfold State.moveResetPin
  split <;> with_reducible assumption

theorem State.TablesSound.replyDone (h : s.TablesSound) (straps : Straps) : (s.replyDone straps).TablesSound := by
  have kept := s.resetKept_tables straps
  have sent : (s.popFrame.modifyLink fun l => { l with buffer := none }).TablesSound := h.congr rfl
  unfold State.replyDone
  (repeat' split) <;> with_reducible assumption

end

/-! ### Every work -/

/-- An entry that takes the place of its key's, or finds room, keeps the table within its capacity. -/
theorem insertBy_length_le_of_room {α : Type} {key : α → Nat} {x : α} {table : List α} {capacity : Nat}
    (sorted : sortedBy key table = true) (room : (findBy key (key x) table).isSome = true ∨ table.length < capacity)
    (few : table.length ≤ capacity) : (insertBy key x table).length ≤ capacity := by
  rcases room with present | free
  · obtain ⟨y, found⟩ := Option.isSome_iff_exists.mp present
    obtain ⟨same, member⟩ := findBy_some key found
    exact (insertBy_length_of_mem key sorted member same).trans_le few
  · exact (insertBy_length_le key x table).trans free

theorem Work.tablesSound {i : Instr} {s t : State} (work : Work i s t) (h : s.TablesSound) : t.TablesSound := by
  cases work
  case putSpecies room =>
    exact ⟨⟨insertBy_sorted SpeciesEntry.code _ h.species.1, insertBy_length_le_of_room h.species.1 room h.species.2⟩,
      h.charges, h.assignments, ⟨h.presence.places, h.presence.room, h.presence.serials⟩, h.pieces, h.packs⟩
  case eraseSpecies =>
    exact ⟨⟨eraseBy_sorted SpeciesEntry.code _ h.species.1, (eraseBy_length_le SpeciesEntry.code _ _).trans h.species.2⟩,
      h.charges, h.assignments, ⟨h.presence.places, h.presence.room, h.presence.serials⟩, h.pieces, h.packs⟩
  case clearInfeed => exact h.clearInfeed
  case moveInfeed => exact h.clearInfeed.modifyCharge _ fun c => ⟨rfl, id⟩
  case closeCharge => exact h.withCharges (h.charges.eraseBy _)
  case load room => exact h.loadKiln room _ _ _
  case skip => exact h.advanceStep false
  case unload => exact h.unloadKiln
  case abandon => exact h.unloadKiln
  case assign a key room =>
    subst key
    exact ⟨h.species, h.charges, ⟨insertBy_sorted Assignment.serial a h.assignments.1,
      insertBy_length_le_of_room h.assignments.1 room h.assignments.2⟩,
      ⟨h.presence.places, h.presence.room, h.presence.serials⟩, h.pieces, h.packs⟩
  case unassign =>
    exact ⟨h.species, h.charges, ⟨eraseBy_sorted Assignment.serial _ h.assignments.1,
      (eraseBy_length_le Assignment.serial _ _).trans h.assignments.2⟩,
      ⟨h.presence.places, h.presence.room, h.presence.serials⟩, h.pieces, h.packs⟩
  case sweepNow => exact State.TablesSound.planSweep (h.congr (by simp [State.tables]))
  case forget => exact h.forgetEntry _
  case configureLine => exact h.modifyLine h.pieces
  case clearLine => exact h.clearLine
  case beginClosing => exact h.beginClosing
  case reprint => exact h.reprintLabel _
  case voidLabel => exact (h.modifyPack _ _).freeBay _
  case collect =>
    exact State.TablesSound.giveFreedPlace (h.withPacks ((eraseBy_length_le PackRecord.serial _ _).trans h.packs))
  case replyDone => exact h.replyDone _
  case powerOn => exact s.powerOnReset_tables _
  case resetPin => exact h.moveResetPin _ _
  case powerFail => exact s.stilled_tables .off
  case minute k =>
    have delivered : (s.deliverMinute k).TablesSound := h.congr rfl
    exact delivered.kilnMinute
  case windowOver => exact h.windowOver _
  case receiveFieldOctet => exact h.receiveFieldOctet ..
  case octetSilence => exact h.octetSilence _
  case lineFault => exact h.takeLineFault _
  case sweepIntervalOver => exact h.sweepIntervalOver
  case encoderMoves => exact h.encoderMoves _
  case changeEye => exact h.changeEye _
  case eyeFilterOver => exact h.eyeFilterOver
  case meterPortLost => exact State.TablesSound.meterPortLost h.takeReport
  case labelTimeoutOver => exact State.TablesSound.faultCurrent h.modifyLabel _
  case labelPortLost => exact State.TablesSound.labelPortLost h.takeReport
  all_goals exact h.congr (by simp [State.tables])

end Sys2Proof.Machine
end

section
/-! PROOFS. The statement that every step keeps the tables. -/
open Sys2Proof Sys2Proof.Machine

/-- Settles O56, from what every work makes of the bounded tables and of the tallies. -/
theorem stepsKeepTheTables : Obligations.StepsKeepTheTables := by
  unfold Obligations.StepsKeepTheTables
  intro s t tables tallies next
  rw [← State.tablesSound_iff]
  exact step_preserves (P := State.TablesSound) (fun _ _ h => h.congr rfl) (fun _ _ h => h.congr rfl)
    (fun _ _ _ => Work.tablesSound) next ((State.tablesSound_iff s).mpr ⟨tables, tallies⟩)

end
